-- ==== Sys2Proof/Word.lean ====
section
/-! DEFINITION. The words of the DX1620: bytes, addresses, the numbered places of the enclosure
(00_scope.md section 1.1), and banks, the fixed rows of like records that the blocks keep. -/

namespace Sys2Proof

/-- One byte of a frame, of a request body or of an identity image. -/
abbrev Byte := BitVec 8

/-- A two-byte field of a request body (R184). -/
abbrev Word16 := BitVec 16

/-- A four-byte field of an identity image (R187). -/
abbrev Word32 := BitVec 32

/-- A station address, six octets (00_scope.md section 5). -/
abbrev Addr := BitVec 48

/-- Bays B0 to B15. -/
abbrev Bay := Fin 16

/-- Supply slots P0 to P3. -/
abbrev Psu := Fin 4

/-- Fan slots F0 to F5. -/
abbrev Fan := Fin 6

/-- Fan zones Z0 to Z2. -/
abbrev Zone := Fin 3

/-- Uplinks U0 and U1. -/
abbrev Uplink := Fin 2

/-- The 26 module slots of R28: 0 to 15 the bays, 16 to 19 the supplies, 20 to 25 the fans. -/
abbrev Slot := Fin 26

/-- A row of `n` like records, one for each numbered place. -/
abbrev Bank (α : Type) (n : Nat) := Vector α n

/-- The record of place `i`. -/
def Bank.read {α : Type} {n : Nat} (v : Bank α n) (i : Fin n) : α := v[i.val]

/-- The bank with the record of place `i` replaced. -/
def Bank.put {α : Type} {n : Nat} (v : Bank α n) (i : Fin n) (x : α) : Bank α n := v.set i.val x

/-- The bank whose record at place `i` is `f i`. -/
def Bank.tab {α : Type} {n : Nat} (f : Fin n → α) : Bank α n := Vector.ofFn f

/-- The bank with every record changed by `f`, which also sees the place. -/
def Bank.update {α : Type} {n : Nat} (f : Fin n → α → α) (v : Bank α n) : Bank α n :=
  Bank.tab fun i => f i (Bank.read v i)

/-- The sum of `f` over all `n` places. -/
def sumFin (n : Nat) (f : Fin n → Nat) : Nat := ((List.finRange n).map f).sum

/-- The number of places where `p` holds. -/
def countFin (n : Nat) (p : Fin n → Bool) : Nat := sumFin n fun i => if p i then 1 else 0

/-- A sixteen-byte identity image, bytes 0 to 15 in the order of R187. -/
abbrev Image := Bank Byte 16

/-- A timer: stopped, or running with this many ms left (00_scope.md section 5). -/
abbrev Timer := Option Nat

/-- `n` raised by `k`, staying at `top` once there: a saturating counter (00_scope.md section 5). -/
def satAdd (n k top : Nat) : Nat := min (n + k) top

/-- The quotient rounded up. -/
def ceilDiv (a b : Nat) : Nat := (a + (b - 1)) / b

/-- `n` clamped into `lo` to `hi` (00_scope.md section 5, "clamped"). -/
def clamp (lo hi n : Nat) : Nat := max lo (min hi n)

end Sys2Proof
end

