-- ==== Sys2Proof/Config.lean ====
section
/-! DEFINITION. What the spec fixes for every DX1620: times, limits and fixed figures; and the one free
value, the straps that a soft reset reads. -/

namespace Sys2Proof.Config

/-- Insertion debounce, ms (R2, R48, R106). -/
def insertionDebounce : Nat := 200

/-- Removal debounce, ms (R2, R48, R106). -/
def removalDebounce : Nat := 20

/-- Ramp timer, ms (R7). -/
def rampTime : Nat := 1000

/-- Scan timer, ms (R30). -/
def scanTime : Nat := 20

/-- Retry timer, ms (R35). -/
def retryTime : Nat := 500

/-- Failed scans in a row that end a slot's scanning (R35). -/
def failureLimit : Nat := 4

/-- Adoption hold timer, ms (R85). -/
def holdTime : Nat := 5000

/-- One step of the stagger gap, ms (R55). -/
def gapStep : Nat := 100

/-- Control timer period, ms (R96). -/
def controlPeriod : Nat := 250

/-- Tach window, ms (R105). -/
def tachPeriod : Nat := 1000

/-- Aging sweep period, ms (R141). -/
def sweepPeriod : Nat := 10000

/-- The adoption grant, W (R180). -/
def adoptionGrant : Nat := 500

/-- Standby allowance of a bay without a complete identity, W (R52). -/
def defaultStandby : Nat := 25

/-- Allowance of a fan without a complete identity, W (R53). -/
def defaultFanPower : Nat := 60

/-- Cells of the frame buffer (R154). -/
def poolCells : Nat := 2048

/-- Bytes of one cell (R154). -/
def cellBytes : Nat := 128

/-- Quota of the service input queue, fixed (R157). -/
def svcQuota : Nat := 64

/-- Most frames the service input queue holds (R157). -/
def svcFrames : Nat := 16

/-- Places of the station table (R131). -/
def stationPlaces : Nat := 1024

/-- Least quota that still takes a response of the largest size (R161). -/
def leastResponseQuota : Nat := 13

/-- Shortest and longest frame a port takes, with its check bytes (R132). -/
def shortestFrame : Nat := 64
def longestFrame : Nat := 1600

/-- The Ethernet type of service frames (R163). -/
def serviceType : Nat := 0xD380

/-- The tag type (R182). -/
def tagType : Nat := 0xD381

/-- Part code and revision (R174). -/
def partCode : Nat := 0x1620
def partRevision : Nat := 1

/-- Tops of the saturating counters, by width (00_scope.md section 5). -/
def top8 : Nat := 255
def top16 : Nat := 65535
def top32 : Nat := 4294967295

/-- Full drive, per mille (00_scope.md section 5). -/
def fullDuty : Nat := 1000

/-- The duty below which a fan's windows are not judged, per mille (R113, R116). -/
def judgedDuty : Nat := 200

/-- The level of CHN[3:0] that the n-th soft reset reads: a free value, since the straps may move outside a
reset and no command of the table carries their level to a soft reset (R177). DESIGN CHOICE (log 7), safe. -/
opaque strapLevel : Nat → BitVec 4

end Sys2Proof.Config
end

