-- ==== Sys2Proof/Syntax.lean ====
section
/-! DEFINITION. The commands of the DX1620: one constructor of `Instr` for each of the 75 rows of
spec/opcode_table.json, with the operands its rule names. -/

namespace Sys2Proof

/-- A switch port: a bay port or an uplink port (00_scope.md section 1.1). Each has an egress queue. -/
inductive Port where
  | bay (b : Bay)
  | uplink (u : Uplink)
  deriving DecidableEq, Repr

/-- A frame as a port receives it: its bytes from the destination address up to, not with, the four
check bytes, and whether the frame check passed (R132, log 15). -/
structure RxFrame where
  bytes : List Byte
  checkOk : Bool
  deriving DecidableEq, Repr

/-- What a service request carries beside its body (R163, R167, R183): the port it arrived on, its
source station address, its tag as received (0 where it came untagged) and its request tag. -/
structure Envelope where
  arrival : Port
  source : Addr
  tag : BitVec 14
  requestTag : Word16
  deriving DecidableEq, Repr

/-- The 37 requests of R186 with the fields of their bodies as they stand there, before any check. -/
inductive Request where
  | readBay (bay : Byte)
  | readSlot (slot : Byte)
  | readPower
  | readZone (zone : Byte)
  | readFan (fan : Byte)
  | readUplink (uplink : Byte)
  | readQueue (queue : Byte)
  | readStation (first : Word16) (count : Byte)
  | readEvents
  | clearEvents (classes : Word16)
  | setEventMask (classes : Word16)
  | setAlertTarget (presence uplink : Byte) (address : Addr)
  | setBayPolicy (bay priority : Byte) (cap : Word16) (uplink zone autoRestore : Byte)
  | loadWindow (bay bs cs bb cb : Byte)
  | powerOn (bay : Byte)
  | powerOff (bay form : Byte)
  | setMaint (bay : Byte)
  | clearMaint (bay : Byte)
  | clearFault (bay : Byte)
  | rescan (slot : Byte)
  | setPowerPolicy (redundancy : Byte) (baseLoad : Word16) (gapSteps : Byte) (grace : Word16) (stopTimeout : Byte)
  | setAdmission (gate : Byte)
  | loadCurve (zone : Byte) (points : List (Byte × Word16))
  | setZone (zone mode : Byte) (floor forced : Word16) (staleLimit : Byte) (stepDown : Word16)
  | setFan (fan zone : Byte) (minRun : Word16) (prescale : Byte)
  | setUplink (uplink enabled right : Byte)
  | setQuota (queue : Byte) (quota : Word16)
  | addStatic (address : Addr) (bay : Byte) (bladeTag : Word16)
  | removeStatic (address : Addr) (chassisTag : Word16)
  | setAging (steps : Word16)
  | softReset
  | identifyPart
  | announce (image : Image)
  | thermalReport (margin critical : Byte)
  | powerRequest
  | powerRelease
  | readOwn
  deriving DecidableEq, Repr

/-- The commands, in the order of spec/opcode_table.json. A line change carries the level the line has
changed to; an expiry names the owner of its timer; a request carries its envelope and its body's
fields; the completion of a reset carries the straps CHN[3:0] as they stand (log 7). -/
inductive Instr where
  | bayPresChange (b : Bay) (present : Bool)
  | bayInsertionDebounceExpiry (b : Bay)
  | bayRemovalDebounceExpiry (b : Bay)
  | bayPgAsserted (b : Bay)
  | bayPgLow (b : Bay)
  | rampTimerExpiry (b : Bay)
  | stopTimerExpiry (b : Bay)
  | admissionTaken
  | shedTaken
  | psuPresChange (p : Psu) (present : Bool)
  | psuInsertionDebounceExpiry (p : Psu)
  | psuRemovalDebounceExpiry (p : Psu)
  | psuOkChange (p : Psu) (asserted : Bool)
  | adoptionHoldTimerExpiry
  | graceTimerExpiry
  | staggerGapTimerExpiry
  | sixteenthByteReceived (k : Slot) (image : Image)
  | scanNoAnswer (k : Slot)
  | scanTimerExpiry (k : Slot)
  | retryTimerExpiry (k : Slot)
  | fanPresChange (f : Fan) (present : Bool)
  | fanInsertionDebounceExpiry (f : Fan)
  | fanRemovalDebounceExpiry (f : Fan)
  | fanTachPulse (f : Fan)
  | tachWindowExpiry (f : Fan)
  | controlTimerExpiry
  | bayPortFrame (b : Bay) (frame : RxFrame)
  | uplinkPortFrame (u : Uplink) (frame : RxFrame)
  | transmissionComplete (p : Port)
  | agingSweepTimerExpiry
  | linkUp (u : Uplink)
  | linkDown (u : Uplink)
  | readBay (e : Envelope) (bay : Byte)
  | readSlot (e : Envelope) (slot : Byte)
  | readPower (e : Envelope)
  | readZone (e : Envelope) (zone : Byte)
  | readFan (e : Envelope) (fan : Byte)
  | readUplink (e : Envelope) (uplink : Byte)
  | readQueue (e : Envelope) (queue : Byte)
  | readStation (e : Envelope) (first : Word16) (count : Byte)
  | readEvents (e : Envelope)
  | clearEvents (e : Envelope) (classes : Word16)
  | setEventMask (e : Envelope) (classes : Word16)
  | setAlertTarget (e : Envelope) (presence uplink : Byte) (address : Addr)
  | setBayPolicy (e : Envelope) (bay priority : Byte) (cap : Word16) (uplink zone autoRestore : Byte)
  | loadWindow (e : Envelope) (bay bs cs bb cb : Byte)
  | powerOn (e : Envelope) (bay : Byte)
  | powerOffGraceful (e : Envelope) (bay : Byte)
  | powerOffForced (e : Envelope) (bay : Byte)
  | setMaint (e : Envelope) (bay : Byte)
  | clearMaint (e : Envelope) (bay : Byte)
  | clearFault (e : Envelope) (bay : Byte)
  | rescan (e : Envelope) (slot : Byte)
  | setPowerPolicy (e : Envelope) (redundancy : Byte) (baseLoad : Word16) (gapSteps : Byte) (grace : Word16) (stopTimeout : Byte)
  | setAdmission (e : Envelope) (gate : Byte)
  | loadCurve (e : Envelope) (zone : Byte) (points : List (Byte × Word16))
  | setZone (e : Envelope) (zone mode : Byte) (floor forced : Word16) (staleLimit : Byte) (stepDown : Word16)
  | setFan (e : Envelope) (fan zone : Byte) (minRun : Word16) (prescale : Byte)
  | setUplink (e : Envelope) (uplink enabled right : Byte)
  | setQuota (e : Envelope) (queue : Byte) (quota : Word16)
  | addStatic (e : Envelope) (address : Addr) (bay : Byte) (bladeTag : Word16)
  | removeStatic (e : Envelope) (address : Addr) (chassisTag : Word16)
  | setAging (e : Envelope) (steps : Word16)
  | softReset (e : Envelope)
  | identifyPart (e : Envelope)
  | announce (e : Envelope) (image : Image)
  | thermalReport (e : Envelope) (margin critical : Byte)
  | powerRequest (e : Envelope)
  | powerRelease (e : Envelope)
  | readOwn (e : Envelope)
  | powerOnResetBegin
  | powerOnResetComplete (straps : BitVec 4)
  | resetNAsserted
  | resetNReleased (straps : BitVec 4)
  | serviceFrameTaken
  deriving DecidableEq, Repr

/-- The request and envelope that a request command carries; none for every other command.
POWER_OFF's two rows are the two forms of one request (R186, code 16). -/
def Instr.request? : Instr → Option (Envelope × Request)
  | .readBay e bay => some (e, .readBay bay)
  | .readSlot e slot => some (e, .readSlot slot)
  | .readPower e => some (e, .readPower)
  | .readZone e zone => some (e, .readZone zone)
  | .readFan e fan => some (e, .readFan fan)
  | .readUplink e uplink => some (e, .readUplink uplink)
  | .readQueue e queue => some (e, .readQueue queue)
  | .readStation e first count => some (e, .readStation first count)
  | .readEvents e => some (e, .readEvents)
  | .clearEvents e classes => some (e, .clearEvents classes)
  | .setEventMask e classes => some (e, .setEventMask classes)
  | .setAlertTarget e presence uplink address => some (e, .setAlertTarget presence uplink address)
  | .setBayPolicy e bay priority cap uplink zone autoRestore =>
    some (e, .setBayPolicy bay priority cap uplink zone autoRestore)
  | .loadWindow e bay bs cs bb cb => some (e, .loadWindow bay bs cs bb cb)
  | .powerOn e bay => some (e, .powerOn bay)
  | .powerOffGraceful e bay => some (e, .powerOff bay 0)
  | .powerOffForced e bay => some (e, .powerOff bay 1)
  | .setMaint e bay => some (e, .setMaint bay)
  | .clearMaint e bay => some (e, .clearMaint bay)
  | .clearFault e bay => some (e, .clearFault bay)
  | .rescan e slot => some (e, .rescan slot)
  | .setPowerPolicy e redundancy baseLoad gapSteps grace stopTimeout =>
    some (e, .setPowerPolicy redundancy baseLoad gapSteps grace stopTimeout)
  | .setAdmission e gate => some (e, .setAdmission gate)
  | .loadCurve e zone points => some (e, .loadCurve zone points)
  | .setZone e zone mode floor forced staleLimit stepDown =>
    some (e, .setZone zone mode floor forced staleLimit stepDown)
  | .setFan e fan zone minRun prescale => some (e, .setFan fan zone minRun prescale)
  | .setUplink e uplink enabled right => some (e, .setUplink uplink enabled right)
  | .setQuota e queue quota => some (e, .setQuota queue quota)
  | .addStatic e address bay bladeTag => some (e, .addStatic address bay bladeTag)
  | .removeStatic e address chassisTag => some (e, .removeStatic address chassisTag)
  | .setAging e steps => some (e, .setAging steps)
  | .softReset e => some (e, .softReset)
  | .identifyPart e => some (e, .identifyPart)
  | .announce e image => some (e, .announce image)
  | .thermalReport e margin critical => some (e, .thermalReport margin critical)
  | .powerRequest e => some (e, .powerRequest)
  | .powerRelease e => some (e, .powerRelease)
  | .readOwn e => some (e, .readOwn)
  | .bayPresChange _ _ | .bayInsertionDebounceExpiry _ | .bayRemovalDebounceExpiry _ | .bayPgAsserted _
  | .bayPgLow _ | .rampTimerExpiry _ | .stopTimerExpiry _ | .admissionTaken | .shedTaken
  | .psuPresChange _ _ | .psuInsertionDebounceExpiry _ | .psuRemovalDebounceExpiry _ | .psuOkChange _ _
  | .adoptionHoldTimerExpiry | .graceTimerExpiry | .staggerGapTimerExpiry | .sixteenthByteReceived _ _
  | .scanNoAnswer _ | .scanTimerExpiry _ | .retryTimerExpiry _ | .fanPresChange _ _
  | .fanInsertionDebounceExpiry _ | .fanRemovalDebounceExpiry _ | .fanTachPulse _ | .tachWindowExpiry _
  | .controlTimerExpiry | .bayPortFrame _ _ | .uplinkPortFrame _ _ | .transmissionComplete _
  | .agingSweepTimerExpiry | .linkUp _ | .linkDown _ | .powerOnResetBegin | .powerOnResetComplete _
  | .resetNAsserted | .resetNReleased _ | .serviceFrameTaken => none

end Sys2Proof
end

