-- ==== Sys2Proof/WellFormed.lean ====
section
/-! DEFINITION. Which commands are well formed: those that a port or a line could give. Every other
range is an operand's type already; a value out of a setting's range is a well-formed command that the
part clamps or refuses. -/

namespace Sys2Proof

/-- A bay port reads tags of 12 bits and an uplink port tags of 14 bits (R120, R182). -/
def Envelope.wellFormed (e : Envelope) : Bool :=
  match e.arrival with
  | .bay _ => decide (e.tag.toNat < 4096)
  | .uplink _ => true

/-- The points of LOAD_CURVE are counted in one byte (R184, R186). -/
def Request.wellFormed : Request → Bool
  | .loadCurve _ points => decide (points.length < 256)
  | _ => true

/-- Whether the command is one that the outside can give. -/
def Instr.wellFormed (i : Instr) : Bool :=
  match i.request? with
  | some (e, r) => e.wellFormed && r.wellFormed
  | none => true

end Sys2Proof
end

