-- ==== Sys2Proof/Machine/State.lean ====
section
/-! DEFINITION. The state of the DX1620: the records each block owns (00_scope.md section 2.1), the
input lines, and the queue of commands that wait; and `State.reset`, the part right after a power-on
reset (R179). Plain data throughout. -/

namespace Sys2Proof.Machine

/-! ### Bays (BCB) -/

/-- The ten bay states, in the order R1 lists them. `poweredOn` is the manual's ON. -/
inductive BayState where
  | empty | detected | identifying | standby | waitPower | ramping | poweredOn | stopping | fault | maint
  deriving DecidableEq, Repr

/-- The bay record of R1, with the bay's three output lines (00_scope.md section 3). -/
structure BayRec where
  state : BayState
  priority : Nat
  cap : Nat
  prefUplink : Uplink
  zone : Zone
  autoRestore : Bool
  grant : Nat
  adopted : Bool
  shedMark : Bool
  critical : Bool
  emergencyCause : Bool
  airflowCause : Bool
  insertions : Nat
  overflows : Nat
  noUplink : Nat
  refused : Nat
  insertTimer : Timer
  removeTimer : Timer
  rampTimer : Timer
  stopTimer : Timer
  pen : Bool
  sdr : Bool
  thr : Bool
  deriving DecidableEq, Repr

/-! ### Identity scanning (ISE) -/

/-- Slot kinds, in the order R27 lists them. -/
inductive SlotKind where
  | bay | psu | fan
  deriving DecidableEq, Repr

/-- Identity status, in the order R27 lists it. -/
inductive IdStatus where
  | none | scanning | complete | unidentified
  deriving DecidableEq, Repr

/-- Identity source, in the order R27 lists it; `none` of R27 is the absence of a source. -/
inductive IdSource where
  | line | announce
  deriving DecidableEq, Repr

/-- Scan stage, in the order R27 lists it. -/
inductive ScanStage where
  | idle | queued | inFlight | retryWait
  deriving DecidableEq, Repr

/-- Failure names of a scan, in the order R27 lists them. -/
inductive ScanFailure where
  | noAnswer | timeout | check | format | kind | range
  deriving DecidableEq, Repr

/-- Class data by slot kind (R27). -/
inductive ClassData where
  | bay (maxPower standby : Nat)
  | psu (capacity : Nat)
  | fan (speed power ppr : Nat)
  deriving DecidableEq, Repr

/-- The identity values, present together or absent together (R27). -/
structure Identity where
  word : Word32
  signature : Word32
  data : ClassData
  deriving DecidableEq, Repr

/-- The inventory record of R27, less the slot kind, which the slot number fixes (R28). -/
structure SlotRec where
  present : Bool
  status : IdStatus
  source : Option IdSource
  stage : ScanStage
  ident : Option Identity
  failures : Nat
  lastFailure : Option ScanFailure
  retryTimer : Timer
  deriving DecidableEq, Repr

/-- The scan in flight: its slot and its scan timer's ms left (R30). -/
structure Scan where
  slot : Slot
  timer : Nat
  deriving DecidableEq, Repr

/-- What the ISE owns: the records, the scan request queue and the scan in flight (R27, R32, R33). -/
structure Ise where
  slots : Bank SlotRec 26
  queue : List Slot
  scan : Option Scan
  deriving DecidableEq, Repr

/-! ### Power (PBU) -/

/-- Supply conditions, in the order R47 lists them. -/
inductive Condition where
  | absent | pending | unidentified | notOk | ok
  deriving DecidableEq, Repr

/-- The supply record of R47. -/
structure SupplyRec where
  present : Bool
  psuOk : Bool
  condition : Condition
  capacity : Nat
  insertTimer : Timer
  removeTimer : Timer
  deriving DecidableEq, Repr

/-- Redundancy policies, in the order R51 lists them. -/
inductive Redundancy where
  | none | one | half
  deriving DecidableEq, Repr

/-- The power policy of R55. -/
structure PowerPolicy where
  redundancy : Redundancy
  baseLoad : Nat
  gapSteps : Nat
  grace : Nat
  stopTimeout : Nat
  deriving DecidableEq, Repr

/-- The admission gate (R57). -/
inductive Gate where
  | opened | closed
  deriving DecidableEq, Repr

/-- One entry of the power wait list: its bay and entry stamp; its priority is the bay's policy (R58). -/
structure Waiting where
  bay : Bay
  stamp : Nat
  deriving DecidableEq, Repr

/-- The ramp sequencer, naming its bay in every state but IDLE (R63). -/
inductive Sequencer where
  | idle
  | admitting (b : Bay)
  | ramp (b : Bay)
  | gap (b : Bay)
  deriving DecidableEq, Repr

/-- Emergency phases, in the order R71 lists them. -/
inductive EmgPhase where
  | none | grace | shedding | exhausted
  deriving DecidableEq, Repr

/-- The emergency record of R71. `runShed` says whether the present run of shedding has shed a bay, on
which R81 lets SHED depend (log 12). -/
structure Emergency where
  phase : EmgPhase
  graceTimer : Timer
  shedBay : Option Bay
  shedCount : Nat
  lastShed : Option Bay
  runShed : Bool
  deriving DecidableEq, Repr

/-- The figures of the last budget evaluation (R51, R52, R56). -/
structure Figures where
  supplySum : Nat
  supplyCount : Nat
  reserve : Nat
  available : Nat
  base : Nat
  standby : Nat
  grants : Nat
  fans : Nat
  deriving DecidableEq, Repr

/-- Allocated power, the sum of its four parts (R52). -/
def Figures.allocated (f : Figures) : Nat := f.base + f.standby + f.grants + f.fans

/-- What the PBU owns. -/
structure Pbu where
  supplies : Bank SupplyRec 4
  policy : PowerPolicy
  ae : Gate
  ae2 : Gate
  waitList : List Waiting
  nextStamp : Nat
  seq : Sequencer
  gapTimer : Timer
  emg : Emergency
  hold : Bool
  holdTimer : Timer
  figures : Figures
  deriving DecidableEq, Repr

/-! ### Thermal reports and zones (THU) -/

/-- The thermal report entry of R88. -/
structure ThermalEntry where
  margin : Option Nat
  critical : Bool
  current : Bool
  age : Nat
  deriving DecidableEq, Repr

/-- Zone modes, in the order R92 lists them. -/
inductive ZoneMode where
  | disabled | auto | forced
  deriving DecidableEq, Repr

/-- A curve point: a margin and a duty (R92). -/
structure CurvePoint where
  margin : Nat
  duty : Nat
  deriving DecidableEq, Repr

/-- The THU's part of the zone record (R92). -/
structure ZoneRec where
  mode : ZoneMode
  floor : Nat
  forced : Nat
  staleLimit : Nat
  stepDown : Nat
  curve : List CurvePoint
  target : Nat
  contributing : Nat
  staleBays : Nat
  deriving DecidableEq, Repr

/-- What the THU owns. -/
structure Thu where
  entries : Bank ThermalEntry 16
  zones : Bank ZoneRec 3
  controlTimer : Timer
  deriving DecidableEq, Repr

/-! ### Fans (FDU) -/

/-- Fan states, in the order R105 lists them. -/
inductive FanState where
  | absent | spinup | running | failed
  deriving DecidableEq, Repr

/-- The fan record of R105, with the fan's output line FAN_DRV (`drive`, R108). -/
structure FanRec where
  state : FanState
  zone : Zone
  minRun : Nat
  prescale : Nat
  residue : Nat
  count : Nat
  minDuty : Nat
  tachTimer : Timer
  rpm : Option Nat
  spinup : Nat
  low : Nat
  good : Nat
  duty : Nat
  insertTimer : Timer
  removeTimer : Timer
  drive : Nat
  deriving DecidableEq, Repr

/-- Airflow status, in the order R109 lists it. -/
inductive Airflow where
  | normal | noAirflow
  deriving DecidableEq, Repr

/-- The FDU's part of the zone record (R109) with the counts M (`assigned`) and h (`turning`) that
stage 3 last used (R110). -/
structure ZoneAir where
  compensated : Nat
  applied : Nat
  airflow : Airflow
  assigned : Nat
  turning : Nat
  deriving DecidableEq, Repr

/-- What the FDU owns. -/
structure Fdu where
  fans : Bank FanRec 6
  air : Bank ZoneAir 3
  deriving DecidableEq, Repr

/-! ### Tags (TTU) and stations (STB) -/

/-- The translation window of R122. -/
structure Window where
  bs : Nat
  cs : Nat
  bb : Nat
  cb : Nat
  deriving DecidableEq, Repr

/-- Station entry kinds; a DYNAMIC entry holds an idle count (R131). -/
inductive EntryKind where
  | dynamic (idle : Nat)
  | fixed
  deriving DecidableEq, Repr

/-- A station entry (R131). `fixed` is the manual's STATIC. -/
structure StationEntry where
  address : Addr
  chassisTag : Nat
  bay : Bay
  bladeTag : Nat
  kind : EntryKind
  deriving DecidableEq, Repr

/-- A place of the station table that holds an entry. -/
structure Place where
  index : Nat
  entry : StationEntry
  deriving DecidableEq, Repr

/-- What the STB owns. The places that hold an entry stand in rising order of index; every place not
listed is empty (R131). -/
structure Stb where
  places : List Place
  learnMiss : Nat
  agingSteps : Nat
  sweepTimer : Timer
  deriving DecidableEq, Repr

/-! ### Uplinks (ULB) and the frame buffer (FBM) -/

/-- The uplink record of R147. -/
structure UplinkRec where
  link : Bool
  enabled : Bool
  right : Bool
  refused : Nat
  deriving DecidableEq, Repr

/-- What made a frame copy: the FWE, or the SVE as a response or an alert. The response of a SOFT_RESET
is marked, because its end begins the reset (R175). -/
inductive CopyKind where
  | forwarded | response | resetResponse | alert
  deriving DecidableEq, Repr

/-- A frame copy in an egress queue: the tag it will be sent with (0 for none, R121) and its bytes
without tag field and check bytes. -/
structure Copy where
  kind : CopyKind
  tag : Nat
  bytes : List Byte
  deriving DecidableEq, Repr

/-- A bay or uplink egress queue (R155). `sending` says that the head copy is being transmitted. -/
structure Queue where
  frames : List Copy
  held : Nat
  quota : Nat
  enqueued : Nat
  dropped : Nat
  sending : Bool
  deriving DecidableEq, Repr

/-- A frame in the service input queue, with its arrival port (R155, R163); `barred` says that its uplink lost the
management right while it waited (R153). -/
structure SvcFrame where
  arrival : Port
  frame : RxFrame
  barred : Bool := false
  deriving DecidableEq, Repr

/-- The service input queue (R155, R157). -/
structure SvcQueue where
  frames : List SvcFrame
  held : Nat
  enqueued : Nat
  dropped : Nat
  deriving DecidableEq, Repr

/-- What the FBM owns: the free cells of the pool and the 19 queues (R154, R155). -/
structure Fbm where
  free : Nat
  bayQ : Bank Queue 16
  upQ : Bank Queue 2
  svc : SvcQueue
  deriving DecidableEq, Repr

/-! ### Events and the part (SVE) -/

/-- Queue names in a cause record and in requests (R155). -/
inductive QueueName where
  | egress (p : Port)
  | svc
  deriving DecidableEq, Repr

/-- The source of an emergency's entry or end (R74). -/
inductive EmgSource where
  | supply (p : Psu)
  | bay (b : Bay)
  | fan (f : Fan)
  | policy
  | hold
  | start
  | none
  deriving DecidableEq, Repr

/-- Phases in an EMERGENCY cause record, in the order of R185. -/
inductive EmgReport where
  | began | exhausted | ended
  deriving DecidableEq, Repr

/-- Qualifiers of an UPLINK_CHANGE, in the order of R185. -/
inductive UplinkChange where
  | linkUp | linkDown | setting
  deriving DecidableEq, Repr

/-- The ten event classes with the fields of their cause records, in the order of R169. -/
inductive Cause where
  | bayChange (b : Bay)
  | identity (k : Slot)
  | emergency (phase : EmgReport) (source : EmgSource)
  | shed (b : Bay)
  | fanFault (f : Fan) (recovered : Bool)
  | zoneAlarm (z : Zone) (left : Bool)
  | uplinkChange (u : Uplink) (change : UplinkChange)
  | queueDrop (q : QueueName)
  | stationFull (b : Bay)
  | translateDrop (b : Bay) (fixedEntry : Bool)
  deriving DecidableEq, Repr

/-- An event class by its position in R169. -/
abbrev EventClass := Fin 10

/-- An event flag with its cause record (R169). -/
structure EventRec where
  raised : Bool
  cause : Option Cause
  deriving DecidableEq, Repr

/-- Reset causes, in the order R174 lists them. -/
inductive ResetCause where
  | powerOn | resetLine | softReset
  deriving DecidableEq, Repr

/-- What the SVE owns. `softReset` is the arrival uplink of a pending soft reset (R175). No request in
progress is held: the whole request is carried out within the event that takes it (R164). -/
structure Sve where
  flags : Bank EventRec 10
  unmasked : Bank Bool 10
  alertTarget : Option (Uplink × Addr)
  chassisNumber : BitVec 4
  resetCause : ResetCause
  adoptedCount : Nat
  softReset : Option Uplink
  deriving DecidableEq, Repr

/-! ### Lines, reset and the whole part -/

/-- Whether the part is in reset, and in which (R177). A power-on reset notes whether its supply is
already stable while RESET_N still holds it (log 8). -/
inductive Mode where
  | running
  | powerOnReset (stable : Bool)
  | lineReset
  deriving DecidableEq, Repr

/-- The levels of the input lines as the outside last set them (00_scope.md section 3). `chn` is the level of
the straps at the last completion of a reset, and `strapReads`, the model's own field, counts the soft resets:
it numbers the free levels that they read (log 7). -/
structure Pins where
  bayPres : Bank Bool 16
  bayPg : Bank Bool 16
  psuPres : Bank Bool 4
  psuOk : Bank Bool 4
  fanPres : Bank Bool 6
  link : Bank Bool 2
  chn : BitVec 4
  resetN : Bool
  strapReads : Nat
  deriving DecidableEq, Repr

/-- The state of the part, block by block, and the commands that wait, first in first out. -/
structure State where
  mode : Mode
  pins : Pins
  bays : Bank BayRec 16
  ise : Ise
  pbu : Pbu
  thu : Thu
  fdu : Fdu
  windows : Bank Window 16
  stb : Stb
  uplinks : Bank UplinkRec 2
  fbm : Fbm
  sve : Sve
  pending : List Instr
  deriving DecidableEq, Repr

/-- A command never faults: the spec names no condition that stops the part (INVENTORY.md, Faults).
No constructor: nobody raises one, which is safe. -/
inductive Fault where
  deriving DecidableEq, Repr

/-- A command is refused only while the model gives it no meaning. -/
inductive Refusal where
  /-- Raised by `exec` for a command that has no meaning in the model, naming its row. Safe. No arm
  raises it: every row has its meaning. -/
  | notModelled (mnemonic : String)
  deriving DecidableEq, Repr

/-! ### Reset values -/

/-- A bay's zone after reset (R1). -/
def resetBayZone (b : Bay) : Zone := if b.val ≤ 5 then 0 else if b.val ≤ 10 then 1 else 2

/-- The reset values of R1. -/
def resetBay (b : Bay) : BayRec :=
  { state := .empty, priority := 4, cap := 0, prefUplink := 0, zone := resetBayZone b, autoRestore := false,
    grant := 0, adopted := false, shedMark := false, critical := false, emergencyCause := false,
    airflowCause := false, insertions := 0, overflows := 0, noUplink := 0, refused := 0, insertTimer := none,
    removeTimer := none, rampTimer := none, stopTimer := none, pen := false, sdr := false, thr := false }

/-- The reset values of R27. -/
def resetSlot : SlotRec :=
  { present := false, status := .none, source := none, stage := .idle, ident := none, failures := 0,
    lastFailure := none, retryTimer := none }

/-- The ISE after a reset (R46). -/
def resetIse : Ise := { slots := Bank.tab fun _ => resetSlot, queue := [], scan := none }

/-- The reset values of R47, PSU_OK being the line's level at the reset. -/
def resetSupply (psuOk : Bool) : SupplyRec :=
  { present := false, psuOk := psuOk, condition := .absent, capacity := 0, insertTimer := none, removeTimer := none }

/-- The reset values of R55. -/
def resetPolicy : PowerPolicy :=
  { redundancy := .one, baseLoad := 100, gapSteps := 5, grace := 300, stopTimeout := 30 }

/-- The reset values of R71. -/
def resetEmergency : Emergency :=
  { phase := .none, graceTimer := none, shedBay := none, shedCount := 0, lastShed := none, runShed := false }

/-- The figures of the first evaluation with nothing present: the 100 W base load alone (R179). -/
def resetFigures : Figures :=
  { supplySum := 0, supplyCount := 0, reserve := 0, available := 0, base := 100, standby := 0, grants := 0, fans := 0 }

/-- The PBU's values after a reset (R70), before any evaluation. DESIGN CHOICE, safe: the entry stamps restart
at 0 (log 30). -/
def resetPbu (pins : Pins) : Pbu :=
  { supplies := Bank.tab fun p => resetSupply (Bank.read pins.psuOk p), policy := resetPolicy,
    ae := .opened, ae2 := .opened, waitList := [], nextStamp := 0, seq := .idle, gapTimer := none,
    emg := resetEmergency, hold := false, holdTimer := none, figures := resetFigures }

/-- The reset values of R88. -/
def resetThermal : ThermalEntry := { margin := none, critical := false, current := false, age := 0 }

/-- The reset values of R92. -/
def resetZone : ZoneRec :=
  { mode := .disabled, floor := 300, forced := 1000, staleLimit := 4, stepDown := 20, curve := [],
    target := 1000, contributing := 0, staleBays := 0 }

/-- The THU after a reset: the control timer starts afresh (R104). -/
def resetThu : Thu :=
  { entries := Bank.tab fun _ => resetThermal, zones := Bank.tab fun _ => resetZone,
    controlTimer := some Config.controlPeriod }

/-- A fan's zone after reset (R105). -/
def resetFanZone (f : Fan) : Zone := if f.val ≤ 1 then 0 else if f.val ≤ 3 then 1 else 2

/-- The reset values of R105; FAN_DRV of an absent slot that is not debouncing carries 0 (R108). -/
def resetFan (f : Fan) : FanRec :=
  { state := .absent, zone := resetFanZone f, minRun := 200, prescale := 1, residue := 0, count := 0,
    minDuty := 1000, tachTimer := none, rpm := none, spinup := 0, low := 0, good := 0, duty := 1000,
    insertTimer := none, removeTimer := none, drive := 0 }

/-- The reset values of R109; DESIGN CHOICE: M and h, which no computation has used yet, read 0
(log 10). Unsafe. -/
def resetAir : ZoneAir :=
  { compensated := 1000, applied := 1000, airflow := .normal, assigned := 0, turning := 0 }

/-- The FDU after a reset. -/
def resetFdu : Fdu := { fans := Bank.tab resetFan, air := Bank.tab fun _ => resetAir }

/-- The identity window of R122. -/
def resetWindow : Window := { bs := 16, cs := 16, bb := 0, cb := 0 }

/-- The station table after a reset (R146): 30 steps of 10 s. -/
def resetStb : Stb :=
  { places := [], learnMiss := 0, agingSteps := 30, sweepTimer := some Config.sweepPeriod }

/-- The reset values of R147. -/
def resetUplink (link : Bool) : UplinkRec := { link := link, enabled := true, right := true, refused := 0 }

/-- An empty queue with its reset quota (R155). -/
def resetQueue (quota : Nat) : Queue :=
  { frames := [], held := 0, quota := quota, enqueued := 0, dropped := 0, sending := false }

/-- The frame buffer after a reset (R162). -/
def resetFbm : Fbm :=
  { free := Config.poolCells, bayQ := Bank.tab fun _ => resetQueue 96, upQ := Bank.tab fun _ => resetQueue 512,
    svc := { frames := [], held := 0, enqueued := 0, dropped := 0 } }

/-- The SVE after a reset (R176). -/
def resetSve (cause : ResetCause) (chn : BitVec 4) : Sve :=
  { flags := Bank.tab fun _ => { raised := false, cause := none }, unmasked := Bank.tab fun _ => false,
    alertTarget := none, chassisNumber := chn, resetCause := cause, adoptedCount := 0, softReset := none }

/-- Every block at its reset values, under the given lines (R177, R178), before the first evaluation
of a power-on reset and before the takeover of a warm one. -/
def resetBlocks (cause : ResetCause) (pins : Pins) (pending : List Instr) : State :=
  { mode := .running, pins := pins, bays := Bank.tab resetBay, ise := resetIse, pbu := resetPbu pins,
    thu := resetThu, fdu := resetFdu, windows := Bank.tab fun _ => resetWindow, stb := resetStb,
    uplinks := Bank.tab fun u => resetUplink (Bank.read pins.link u), fbm := resetFbm,
    sve := resetSve cause pins.chn, pending := pending }

/-- No module present, no supply good, both links down, the straps at 0 and RESET_N released.
DESIGN CHOICE (log 6), unsafe. -/
def quietPins : Pins :=
  { bayPres := Bank.tab fun _ => false, bayPg := Bank.tab fun _ => false, psuPres := Bank.tab fun _ => false,
    psuOk := Bank.tab fun _ => false, fanPres := Bank.tab fun _ => false, link := Bank.tab fun _ => false,
    chn := 0, resetN := false, strapReads := 0 }

/-- The part right after a power-on reset has completed (R179) with every line quiet: the 100 W base
load stands above an available power of 0, so the start-up emergency has begun. AE is closed with AE2
open, every bay carries the emergency cause, the grace timer runs and EMERGENCY is set with BEGAN and
START under the reset mask (R72, R176). -/
def State.reset : State :=
  let s := resetBlocks .powerOn quietPins []
  { s with
    bays := Bank.tab fun b => { resetBay b with emergencyCause := true }
    pbu := { s.pbu with
      ae := .closed
      emg := { resetEmergency with phase := .grace, graceTimer := some 300 } }
    sve := { s.sve with
      flags := Bank.put s.sve.flags 2 { raised := true, cause := some (.emergency .began .start) } } }

end Sys2Proof.Machine
end

