-- ==== Sys2Proof/Machine/Bytes.lean ====
section
/-! DEFINITION. The byte layouts of 13_formats.md: numbers in frames, the parts of a received frame,
the frames the part sends, and the encodings of body values (R182, R183, R184). -/

namespace Sys2Proof.Machine

/-! ### Numbers, most significant byte first (13_formats.md) -/

def byteOf (n : Nat) : Byte := BitVec.ofNat 8 n

def encode16 (n : Nat) : List Byte := [byteOf (n / 256), byteOf n]

def encode32 (n : Nat) : List Byte := encode16 (n / 65536) ++ encode16 n

def encodeAddr (a : Addr) : List Byte := encode16 (a.toNat / 4294967296) ++ encode32 a.toNat

def byteAt (l : List Byte) (i : Nat) : Byte := l.getD i 0

def read16 (l : List Byte) (i : Nat) : Nat := (byteAt l i).toNat * 256 + (byteAt l (i + 1)).toNat

def read32 (l : List Byte) (i : Nat) : Nat := read16 l i * 65536 + read16 l (i + 2)

def readWord16 (l : List Byte) (i : Nat) : Word16 := BitVec.ofNat 16 (read16 l i)

def readAddr (l : List Byte) (i : Nat) : Addr := BitVec.ofNat 48 (read16 l i * 4294967296 + read32 l (i + 2))

/-! ### A received frame (R182, R163) -/

/-- The frame's length L, its four check bytes counted (R132, R184). -/
def frameLength (f : RxFrame) : Nat := f.bytes.length + 4

/-- The frame check passed and the length lies in 64 to 1600 bytes (R132). -/
def frameSound (f : RxFrame) : Bool :=
  f.checkOk && decide (Config.shortestFrame ≤ frameLength f) && decide (frameLength f ≤ Config.longestFrame)

def frameDst (f : RxFrame) : Addr := readAddr f.bytes 0

def frameSrc (f : RxFrame) : Addr := readAddr f.bytes 6

/-- The two bytes after the source address are the tag type (R182). -/
def hasTagField (f : RxFrame) : Bool := read16 f.bytes 12 == Config.tagType

/-- The Ethernet type, after the tag field where there is one (R182). -/
def etherType (f : RxFrame) : Nat := read16 f.bytes (if hasTagField f then 16 else 12)

/-- The tag the frame was received with on this port: the low 12 bits of the tag word on a bay port, the
low 14 on an uplink port, and 0 without a tag field (R120, R182). -/
def frameTag (p : Port) (f : RxFrame) : Nat :=
  if hasTagField f then
    match p with
    | .bay _ => read16 f.bytes 14 % 4096
    | .uplink _ => read16 f.bytes 14 % 16384
  else 0

/-- The bytes after the Ethernet type. -/
def framePayload (f : RxFrame) : List Byte := f.bytes.drop (if hasTagField f then 18 else 14)

/-- The frame's bytes without its tag field, as a copy of it is held. -/
def frameUntagged (f : RxFrame) : List Byte := f.bytes.take 12 ++ f.bytes.drop (if hasTagField f then 16 else 12)

/-- The service address 02-D5-1C-00-0C-nn (R163). -/
def serviceAddress (chn : BitVec 4) : Addr := BitVec.ofNat 48 (0x02D51C000C00 + chn.toNat)

/-- Destination the service address, and type 0xD380 (R163). -/
def isServiceFrame (chn : BitVec 4) (f : RxFrame) : Bool :=
  frameDst f == serviceAddress chn && etherType f == Config.serviceType

/-- The lowest-order bit of the first octet is 1 (R132). -/
def isGroup (a : Addr) : Bool := a.getLsbD 40

/-! ### Frame copies (R121, R154, R182) -/

/-- Bytes that a tag adds to a frame sent with it; tag 0 is sent without a tag field (R182). -/
def tagFieldLength (tag : Nat) : Nat := if tag = 0 then 0 else 4

/-- The length L of a copy as it will be sent (R154). -/
def copyLength (c : Copy) : Nat := c.bytes.length + tagFieldLength c.tag + 4

/-- The cells that L bytes take (R154). -/
def cellsOf (length : Nat) : Nat := ceilDiv length Config.cellBytes

def copyCells (c : Copy) : Nat := cellsOf (copyLength c)

/-- The bytes of a copy as the port sends them, before the check bytes that the port appends (R182). -/
def copyWire (c : Copy) : List Byte :=
  c.bytes.take 12 ++ (if c.tag = 0 then [] else encode16 Config.tagType ++ encode16 c.tag) ++ c.bytes.drop 12

/-! ### Service frames (R183, R184) -/

/-- Kinds in a service header (R183). -/
def kindRequest : Nat := 1
def kindResponse : Nat := 2
def kindAlert : Nat := 3

/-- The frame length that agrees with a body length (R184). -/
def agreedLength (tagField bodyLength : Nat) : Nat := max 64 (14 + tagField + 8 + bodyLength + 4)

/-- The padding of a service frame that the part sends, 0 bytes up to the agreed length (R184). -/
def servicePadding (tag bodyLength : Nat) : List Byte :=
  List.replicate (agreedLength (tagFieldLength tag) bodyLength - (14 + tagFieldLength tag + 8 + bodyLength + 4)) 0

/-- A service frame of the part, without tag field and check bytes (R167, R173, R183). -/
def serviceBytes (dst src : Addr) (tag kind code status requestTag : Nat) (body : List Byte) : List Byte :=
  encodeAddr dst ++ encodeAddr src ++ encode16 Config.serviceType
    ++ [1, byteOf kind, byteOf code, byteOf status] ++ encode16 requestTag ++ encode16 body.length
    ++ body ++ servicePadding tag body.length

/-- The header of a received service frame (R183). -/
def headerVersion (f : RxFrame) : Nat := (byteAt (framePayload f) 0).toNat
def headerKind (f : RxFrame) : Nat := (byteAt (framePayload f) 1).toNat
def headerCode (f : RxFrame) : Nat := (byteAt (framePayload f) 2).toNat
def headerTag (f : RxFrame) : Word16 := readWord16 (framePayload f) 4
def headerBodyLength (f : RxFrame) : Nat := read16 (framePayload f) 6

/-- The body of a received service frame, as long as its header says. -/
def frameBody (f : RxFrame) : List Byte := ((framePayload f).drop 8).take (headerBodyLength f)

/-- The body length agrees with the frame's length (R184). -/
def lengthAgrees (f : RxFrame) : Bool :=
  frameLength f == agreedLength (if hasTagField f then 4 else 0) (headerBodyLength f)

/-! ### Statuses (R183) -/

/-- The statuses of a response, in the order of their codes (R183). -/
inductive Status where
  | ok | accepted | queued | denied | badArg | badState | selfCut | noIdentity | full | unknownCommand | length
  deriving DecidableEq, Repr

def statusCode : Status → Nat
  | .ok => 0 | .accepted => 1 | .queued => 2 | .denied => 3 | .badArg => 4 | .badState => 5
  | .selfCut => 6 | .noIdentity => 7 | .full => 8 | .unknownCommand => 9 | .length => 10

/-! ### Body values (R184) -/

def encode8 (n : Nat) : List Byte := [byteOf n]

/-- yes/no, set/clear, held/not held, asserted/low, UP/DOWN, in force/not: the first-named is 0, the
second 1 (R184). -/
def encodeFirst (first : Bool) : List Byte := [if first then 0 else 1]

/-- stopped is 0 and running 1 (R184). -/
def encodeTimer (t : Timer) : List Byte := [if t.isSome then 1 else 0]

/-- "none", or an absent bay, slot or zone, is 0xFF (R184). -/
def encodeOrNone (n : Option Nat) : List Byte := [match n with | some k => byteOf k | none => 0xFF]

/-- An optional field of `width` bytes: a presence byte, then the field, 0 when absent (R184). -/
def encodeOptional (width : Nat) (field : Option (List Byte)) : List Byte :=
  match field with
  | some bytes => 1 :: bytes
  | none => 0 :: List.replicate width 0

/-- A list: a count byte, then the entries (R184). -/
def encodeList (entries : List (List Byte)) : List Byte := byteOf entries.length :: entries.flatten

/-! ### Identity images (R29, R187) -/

def imageByte (image : Image) (i : Fin 16) : Nat := (Bank.read image i).toNat

def image16 (image : Image) (i j : Fin 16) : Nat := imageByte image i * 256 + imageByte image j

/-- The identity word, bytes 0 to 3. -/
def imageWord (image : Image) : Word32 := BitVec.ofNat 32 (image16 image 0 1 * 65536 + image16 image 2 3)

/-- The user signature, bytes 4 to 7. -/
def imageSignature (image : Image) : Word32 := BitVec.ofNat 32 (image16 image 4 5 * 65536 + image16 image 6 7)

/-- The kind field, the top four bits of the identity word (R187). -/
def imageKind (image : Image) : Nat := imageByte image 0 / 16

/-- The kind number that matches a slot kind (R28). -/
def kindNumber : SlotKind → Nat
  | .bay => 1
  | .psu => 2
  | .fan => 3

/-- The class data that an image of this slot kind carries (R187). -/
def imageClass (kind : SlotKind) (image : Image) : ClassData :=
  match kind with
  | .bay => .bay (image16 image 8 9) (imageByte image 10)
  | .psu => .psu (image16 image 8 9)
  | .fan => .fan (image16 image 8 9) (imageByte image 10) (imageByte image 11)

/-- Every class data field lies in its range (R27). -/
def classInRange : ClassData → Bool
  | .bay maxPower standby => decide (50 ≤ maxPower ∧ maxPower ≤ 2000 ∧ standby ≤ 50)
  | .psu capacity => decide (100 ≤ capacity ∧ capacity ≤ 5000)
  | .fan speed power ppr =>
    decide (1000 ≤ speed ∧ speed ≤ 30000 ∧ 1 ≤ power ∧ power ≤ 100 ∧ 1 ≤ ppr ∧ ppr ≤ 4)

/-- The four checks of R29 in their order: the identity values of a valid image, or the name of the
first check that failed. -/
def judgeImage (kind : SlotKind) (image : Image) : Except ScanFailure Identity :=
  if sumFin 16 (imageByte image) % 256 ≠ 0 then .error .check
  else if imageByte image 14 ≠ 1 then .error .format
  else if imageKind image ≠ kindNumber kind then .error .kind
  else if classInRange (imageClass kind image) then
    .ok { word := imageWord image, signature := imageSignature image, data := imageClass kind image }
  else .error .range

end Sys2Proof.Machine
end

