-- ==== Sys2Proof/Machine/Ops.lean ====
section
/-! DEFINITION. The named operations over the part's records: reading and writing a bay, slot, fan or
queue; the timers; admission to a queue, a queue's flush and the end of a transmission (R154 to R159);
the counters of a port. Every block's own operations are written over these. -/

namespace Sys2Proof.Machine

/-! ### Slots (R28) -/

def slotOfBay (b : Bay) : Slot := ⟨b.val, by omega⟩
def slotOfPsu (p : Psu) : Slot := ⟨16 + p.val, by omega⟩
def slotOfFan (f : Fan) : Slot := ⟨20 + f.val, by omega⟩

/-- Whose module a slot holds. -/
inductive SlotOwner where
  | bay (b : Bay)
  | psu (p : Psu)
  | fan (f : Fan)
  deriving DecidableEq, Repr

def slotOwner (k : Slot) : SlotOwner :=
  if hb : k.val < 16 then .bay ⟨k.val, hb⟩
  else if hp : k.val < 20 then .psu ⟨k.val - 16, by omega⟩
  else .fan ⟨k.val - 20, by omega⟩

/-- The kind fixed by the slot number (R28). -/
def slotKind (k : Slot) : SlotKind :=
  match slotOwner k with
  | .bay _ => .bay
  | .psu _ => .psu
  | .fan _ => .fan

/-! ### Reading the records -/

def bayRec (s : State) (b : Bay) : BayRec := Bank.read s.bays b
def bayState (s : State) (b : Bay) : BayState := (bayRec s b).state
def slotRec (s : State) (k : Slot) : SlotRec := Bank.read s.ise.slots k
def supplyRec (s : State) (p : Psu) : SupplyRec := Bank.read s.pbu.supplies p
def thermalEntry (s : State) (b : Bay) : ThermalEntry := Bank.read s.thu.entries b
def zoneRec (s : State) (z : Zone) : ZoneRec := Bank.read s.thu.zones z
def fanRec (s : State) (f : Fan) : FanRec := Bank.read s.fdu.fans f
def zoneAir (s : State) (z : Zone) : ZoneAir := Bank.read s.fdu.air z
def window (s : State) (b : Bay) : Window := Bank.read s.windows b
def uplinkRec (s : State) (u : Uplink) : UplinkRec := Bank.read s.uplinks u
def flagRec (s : State) (c : EventClass) : EventRec := Bank.read s.sve.flags c

/-- The egress queue of a port (R155). -/
def queueOf (s : State) (p : Port) : Queue :=
  match p with
  | .bay b => Bank.read s.fbm.bayQ b
  | .uplink u => Bank.read s.fbm.upQ u

/-- Out of reset (R177). -/
def isRunning (s : State) : Bool := s.mode == .running

/-- The identity of a slot is COMPLETE. -/
def isComplete (s : State) (k : Slot) : Bool := (slotRec s k).status == .complete

/-- The accepting states of a bay port (R21). -/
def accepting (st : BayState) : Bool :=
  match st with
  | .empty | .maint => false
  | .detected | .identifying | .standby | .waitPower | .ramping | .poweredOn | .stopping | .fault => true

/-- RAMPING, ON and STOPPING: the states that hold a grant and can be shed (R24, section 4.5). -/
def hasMain (st : BayState) : Bool :=
  match st with
  | .ramping | .poweredOn | .stopping => true
  | .empty | .detected | .identifying | .standby | .waitPower | .fault | .maint => false

/-- ON and STOPPING: where BAY_THR can be driven (R20) and reports are taken (R89). -/
def isUp (st : BayState) : Bool :=
  match st with
  | .poweredOn | .stopping => true
  | .empty | .detected | .identifying | .standby | .waitPower | .ramping | .fault | .maint => false

/-- Link UP and admin enabled (R147). -/
def usable (s : State) (u : Uplink) : Bool := (uplinkRec s u).link && (uplinkRec s u).enabled

/-- A bay queue is served while the bay is in an accepting state, an uplink queue while the uplink is
usable (R158). -/
def served (s : State) (p : Port) : Bool :=
  match p with
  | .bay b => accepting (bayState s b)
  | .uplink u => usable s u

/-! ### Writing the records -/

/-- BAY_THR follows both causes and the state as they change (R20). -/
def followThrottle (r : BayRec) : BayRec :=
  { r with thr := (r.emergencyCause || r.airflowCause) && isUp r.state }

/-- A bay record changed by `f`, BAY_THR following (R20). -/
def updBay (b : Bay) (f : BayRec → BayRec) (s : State) : State :=
  { s with bays := Bank.put s.bays b (followThrottle (f (bayRec s b))) }

/-- Every bay record changed by `f`, BAY_THR following (R20). -/
def updBays (f : Bay → BayRec → BayRec) (s : State) : State :=
  { s with bays := Bank.update (fun b r => followThrottle (f b r)) s.bays }

def updSlot (k : Slot) (f : SlotRec → SlotRec) (s : State) : State :=
  { s with ise := { s.ise with slots := Bank.put s.ise.slots k (f (slotRec s k)) } }

def updIse (f : Ise → Ise) (s : State) : State := { s with ise := f s.ise }

def updPbu (f : Pbu → Pbu) (s : State) : State := { s with pbu := f s.pbu }

def updEmg (f : Emergency → Emergency) (s : State) : State :=
  { s with pbu := { s.pbu with emg := f s.pbu.emg } }

def updSupply (p : Psu) (f : SupplyRec → SupplyRec) (s : State) : State :=
  { s with pbu := { s.pbu with supplies := Bank.put s.pbu.supplies p (f (supplyRec s p)) } }

def updThermal (b : Bay) (f : ThermalEntry → ThermalEntry) (s : State) : State :=
  { s with thu := { s.thu with entries := Bank.put s.thu.entries b (f (thermalEntry s b)) } }

def updZone (z : Zone) (f : ZoneRec → ZoneRec) (s : State) : State :=
  { s with thu := { s.thu with zones := Bank.put s.thu.zones z (f (zoneRec s z)) } }

def updAir (z : Zone) (f : ZoneAir → ZoneAir) (s : State) : State :=
  { s with fdu := { s.fdu with air := Bank.put s.fdu.air z (f (zoneAir s z)) } }

/-- FAN_DRV carries the applied duty, and 0 while the slot is ABSENT and its insertion debounce timer is
not running (R108). -/
def followDrive (r : FanRec) : FanRec :=
  { r with drive := if r.state = .absent ∧ r.insertTimer = none then 0 else r.duty }

/-- A fan record changed by `f`, FAN_DRV following (R108). -/
def updFan (i : Fan) (f : FanRec → FanRec) (s : State) : State :=
  { s with fdu := { s.fdu with fans := Bank.put s.fdu.fans i (followDrive (f (fanRec s i))) } }

/-- Every fan record changed by `f`, FAN_DRV following (R108). -/
def updFans (f : Fan → FanRec → FanRec) (s : State) : State :=
  { s with fdu := { s.fdu with fans := Bank.update (fun i r => followDrive (f i r)) s.fdu.fans } }

def updUplink (u : Uplink) (f : UplinkRec → UplinkRec) (s : State) : State :=
  { s with uplinks := Bank.put s.uplinks u (f (uplinkRec s u)) }

def updWindow (b : Bay) (w : Window) (s : State) : State :=
  { s with windows := Bank.put s.windows b w }

def updStb (f : Stb → Stb) (s : State) : State := { s with stb := f s.stb }

def updSve (f : Sve → Sve) (s : State) : State := { s with sve := f s.sve }

def updPins (f : Pins → Pins) (s : State) : State := { s with pins := f s.pins }

def updFbm (f : Fbm → Fbm) (s : State) : State := { s with fbm := f s.fbm }

/-- A queue replaced. -/
def putQueue (p : Port) (q : Queue) (s : State) : State :=
  match p with
  | .bay b => { s with fbm := { s.fbm with bayQ := Bank.put s.fbm.bayQ b q } }
  | .uplink u => { s with fbm := { s.fbm with upQ := Bank.put s.fbm.upQ u q } }

/-- The event acts only out of reset; in reset the part takes no events (R177). -/
def whenRunning (s t : State) : State := if isRunning s then t else s

/-! ### The frame buffer (R154 to R159) -/

/-- The cells that a service frame takes, by its length as received (R154, log 14). -/
def svcCells (f : RxFrame) : Nat := cellsOf (frameLength f)

/-- A copy dropped at admission is counted in its queue (R156). -/
def countDropped (n : Nat) (p : Port) (s : State) : State :=
  putQueue p { queueOf s p with dropped := satAdd (queueOf s p).dropped n Config.top32 } s

/-- A copy of `n` cells fits within the queue's quota and the pool (R156). -/
def fits (s : State) (p : Port) (n : Nat) : Bool :=
  decide ((queueOf s p).held + n ≤ (queueOf s p).quota) && decide (n ≤ s.fbm.free)

/-- The copy enters at the tail, its cells pass from the pool to the queue, and the port begins to send
if the queue is served and sends nothing (R156, R158). -/
def enqueueCopy (p : Port) (c : Copy) (s : State) : State :=
  let q := queueOf s p
  let n := copyCells c
  let s := putQueue p
    { q with frames := q.frames ++ [c], held := q.held + n,
             enqueued := satAdd q.enqueued 1 Config.top32, sending := q.sending || served s p } s
  updFbm (fun m => { m with free := m.free - n }) s

/-- What becomes of an offered copy: whether it was admitted, lost for want of quota or pool, or lost
because its uplink is not usable (R150, R156). -/
inductive Offered where
  | admitted | lost | lostQuietly
  deriving DecidableEq, Repr

/-- The verdict on a copy offered to a port's egress queue (R150, R156). -/
def offerVerdict (p : Port) (c : Copy) (s : State) : Offered :=
  match p with
  | .uplink u =>
    if usable s u then (if fits s p (copyCells c) then .admitted else .lost) else .lostQuietly
  | .bay _ => if fits s p (copyCells c) then .admitted else .lost

/-- The copy is admitted or counted as dropped, without the raising that a drop calls for (R156). -/
def offerQuiet (p : Port) (c : Copy) (s : State) : State :=
  match offerVerdict p c s with
  | .admitted => enqueueCopy p c s
  | .lost | .lostQuietly => countDropped 1 p s

/-- The cells held by a list of copies. -/
def cellsHeld (frames : List Copy) : Nat := (frames.map copyCells).sum

/-- A flush: every copy is removed and counted as dropped, its cells return, and the transmission is
abandoned (R159). -/
def flush (p : Port) (s : State) : State :=
  let q := queueOf s p
  let s := putQueue p
    { q with frames := [], held := 0, dropped := satAdd q.dropped q.frames.length Config.top32, sending := false } s
  updFbm (fun m => { m with free := m.free + q.held }) s

/-- The completion of the head copy's transmission: the copy leaves, its cells return, and the next copy
begins if the queue is served and not empty (R158). -/
def completeTransmission (p : Port) (s : State) : State :=
  let q := queueOf s p
  match q.frames with
  | [] => s
  | c :: rest =>
    let n := copyCells c
    let s := putQueue p
      { q with frames := rest, held := q.held - n, sending := !rest.isEmpty && served s p } s
    updFbm (fun m => { m with free := m.free + n }) s

/-- A service frame fits the service input queue: fewer than 16 frames, and both cell tests (R157). -/
def svcFits (s : State) (f : RxFrame) : Bool :=
  decide (s.fbm.svc.frames.length < Config.svcFrames)
    && decide (s.fbm.svc.held + svcCells f ≤ Config.svcQuota) && decide (svcCells f ≤ s.fbm.free)

/-- The frame enters the service input queue with its arrival port (R157, R163). -/
def svcAdmit (p : Port) (f : RxFrame) (s : State) : State :=
  updFbm (fun m =>
    { m with
      free := m.free - svcCells f
      svc := { m.svc with frames := m.svc.frames ++ [{ arrival := p, frame := f }],
                          held := m.svc.held + svcCells f,
                          enqueued := satAdd m.svc.enqueued 1 Config.top32 } }) s

/-- A service frame lost at admission is counted (R157). -/
def svcCountDropped (s : State) : State :=
  updFbm (fun m => { m with svc := { m.svc with dropped := satAdd m.svc.dropped 1 Config.top32 } }) s

/-- Taking the head removes the frame and returns its cells at once (R157). -/
def svcPop (s : State) : State :=
  match s.fbm.svc.frames with
  | [] => s
  | f :: rest =>
    updFbm (fun m =>
      { m with
        free := m.free + svcCells f.frame
        svc := { m.svc with frames := rest, held := m.svc.held - svcCells f.frame } }) s

/-- The waiting frame after an uplink has lost the management right (R153). -/
def barFrame (u : Uplink) (f : SvcFrame) : SvcFrame := if f.arrival = .uplink u then { f with barred := true } else f

/-- The frames of an uplink that wait in the service input queue when it loses the management right are refused when
they are taken, whatever its right is then (R153, log 32). -/
def barWaiting (u : Uplink) (s : State) : State :=
  updFbm (fun m => { m with svc := { m.svc with frames := m.svc.frames.map (barFrame u) } }) s

/-- What a port is sending: the bytes of its head copy while a transmission is under way (R158). -/
def portOutput (s : State) (p : Port) : Option (List Byte) :=
  if (queueOf s p).sending then (queueOf s p).frames.head?.map copyWire else none

/-- ID_CLK of a slot is driven exactly while its scan is in flight (R30). -/
def idLinesActive (s : State) (k : Slot) : Bool :=
  match s.ise.scan with
  | some sc => sc.slot == k
  | none => false

/-! ### Counters of a port (R25, R147) -/

/-- The arrival port's refused service frames counter rises (R21, R151, R164, R165). -/
def countRefused (p : Port) (s : State) : State :=
  match p with
  | .bay b => updBay b (fun r => { r with refused := satAdd r.refused 1 Config.top16 }) s
  | .uplink u => updUplink u (fun r => { r with refused := satAdd r.refused 1 Config.top16 }) s

end Sys2Proof.Machine
end

