-- ==== Sys2Proof/Machine/Flags.lean ====
section
/-! DEFINITION. Event flags, cause records and alerts (R169 to R173, R185), and the two operations that
raise QUEUE_DROP: offering a copy to an egress queue and a frame to the service input queue (R156, R157). -/

namespace Sys2Proof.Machine

/-- The class of a cause, by its position in R169. -/
def causeClass : Cause → EventClass
  | .bayChange _ => 0
  | .identity _ => 1
  | .emergency _ _ => 2
  | .shed _ => 3
  | .fanFault _ _ => 4
  | .zoneAlarm _ _ => 5
  | .uplinkChange _ _ => 6
  | .queueDrop _ => 7
  | .stationFull _ => 8
  | .translateDrop _ _ => 9

/-- A queue's byte: bays 0 to 15, U0 16, U1 17, SVC 18 (R184). -/
def queueByte : QueueName → Nat
  | .egress (.bay b) => b.val
  | .egress (.uplink u) => 16 + u.val
  | .svc => 18

/-- The object byte of an EMERGENCY (R185). -/
def sourceByte : EmgSource → Nat
  | .supply p => (slotOfPsu p).val
  | .bay b => (slotOfBay b).val
  | .fan f => (slotOfFan f).val
  | .policy => 26
  | .hold => 27
  | .start => 28
  | .none => 255

def reportByte : EmgReport → Nat
  | .began => 0 | .exhausted => 1 | .ended => 2

def uplinkChangeByte : UplinkChange → Nat
  | .linkUp => 0 | .linkDown => 1 | .setting => 2

/-- The object and qualifier bytes of an event record (R185). -/
def causeBytes : Cause → Nat × Nat
  | .bayChange b => (b.val, 0)
  | .identity k => (k.val, 0)
  | .emergency phase source => (sourceByte source, reportByte phase)
  | .shed b => (b.val, 0)
  | .fanFault f recovered => (f.val, if recovered then 1 else 0)
  | .zoneAlarm z left => (z.val, if left then 1 else 0)
  | .uplinkChange u change => (u.val, uplinkChangeByte change)
  | .queueDrop q => (queueByte q, 0)
  | .stationFull b => (b.val, 0)
  | .translateDrop b fixedEntry => (b.val, if fixedEntry then 1 else 0)

/-- The three bytes of an event record: class, object, qualifier (R185). -/
def eventRecord (c : Cause) : List Byte :=
  [byteOf (causeClass c).val, byteOf (causeBytes c).1, byteOf (causeBytes c).2]

/-- The flag of the cause's class is set and its record written, whether or not it was set (R169). -/
def setFlag (c : Cause) (s : State) : State :=
  updSve (fun v => { v with flags := Bank.put v.flags (causeClass c) { raised := true, cause := some c } }) s

/-- A raising calls for an alert when it changes the flag from clear to set and the class is unmasked
(R173). -/
def alertDue (c : Cause) (s : State) : Bool :=
  !(flagRec s (causeClass c)).raised && Bank.read s.sve.unmasked (causeClass c)

/-- The alert frame: to the target from the service address, untagged, kind ALERT, command code 0 and
request tag 0, the event record as its body (R173, R183, R185). -/
def alertCopy (s : State) (target : Addr) (c : Cause) : Copy :=
  { kind := .alert, tag := 0,
    bytes := serviceBytes target (serviceAddress s.sve.chassisNumber) 0 kindAlert 0 0 0 (eventRecord c) }

/-- One alert frame is offered to the target's uplink while that is usable; otherwise none is sent and
nothing is counted (R173). -/
def sendAlert (c : Cause) (s : State) : State :=
  match s.sve.alertTarget with
  | none => s
  | some (u, a) => if usable s u then offerQuiet (.uplink u) (alertCopy s a c) s else s

/-- The uplink whose queue loses the alert, if it does (R173). -/
def alertLost (c : Cause) (s : State) : Option Uplink :=
  match s.sve.alertTarget with
  | none => none
  | some (u, a) =>
    if usable s u && offerVerdict (.uplink u) (alertCopy s a c) s == .lost then some u else none

/-- Raising an event class (R169, R173): the flag and record are written, and an alert follows a change
from clear to set of an unmasked class. A lost alert raises QUEUE_DROP, which sends a further alert only
if QUEUE_DROP was clear and is unmasked; the loss of that one finds QUEUE_DROP already set. -/
def raise (c : Cause) (s : State) : State :=
  let s1 := setFlag c s
  if alertDue c s then
    let s2 := sendAlert c s1
    match alertLost c s1 with
    | none => s2
    | some u =>
      let d := Cause.queueDrop (.egress (.uplink u))
      if alertDue d s2 then sendAlert d (setFlag d s2) else setFlag d s2
  else s1

/-- A copy offered to an egress queue: admitted, or dropped with QUEUE_DROP, or dropped without it where
the uplink is not usable (R150, R156). -/
def offer (p : Port) (c : Copy) (s : State) : State :=
  if offerVerdict p c s = .lost then raise (.queueDrop (.egress p)) (offerQuiet p c s) else offerQuiet p c s

/-- A service frame offered to the service input queue (R157). -/
def offerService (p : Port) (f : RxFrame) (s : State) : State :=
  if svcFits s f then svcAdmit p f s else raise (.queueDrop .svc) (svcCountDropped s)

/-- A bay enters a state, which raises BAY_CHANGE with the bay as cause (R26). -/
def enterState (b : Bay) (st : BayState) (s : State) : State :=
  raise (.bayChange b) (updBay b (fun r => { r with state := st }) s)

end Sys2Proof.Machine
end

