-- ==== Sys2Proof/Machine/Power.lean ====
section
/-! DEFINITION. The Power Budget Unit: figures, the budget evaluation, the wait list and the head
evaluation, the ramp sequencer, emergencies and the adoption hold (03_power_budget_and_admission.md,
04_power_emergencies.md). -/

namespace Sys2Proof.Machine

/-! ### Grants and figures (R7, R24, R51, R52, R53) -/

/-- min(class max, cap), a cap of 0 standing for no cap (R7). -/
def capGrant (classMax cap : Nat) : Nat := if cap = 0 then classMax else min classMax cap

/-- The class max of a bay slot's identity values; 0 where none are held, which no waiting or powered bay
reaches (log 18). -/
def classMax (s : State) (b : Bay) : Nat :=
  match (slotRec s (slotOfBay b)).ident with
  | some { data := .bay maxPower _, .. } => maxPower
  | _ => 0

/-- The grant that a bay's identity and policy give (R7, R24, R61). -/
def classGrant (s : State) (b : Bay) : Nat := capGrant (classMax s b) (bayRec s b).cap

/-- The standby allowance of a bay (R52); the class standby where the identity is COMPLETE. -/
def standbyOf (s : State) (b : Bay) : Nat :=
  match bayState s b with
  | .empty | .maint => 0
  | _ =>
    if isComplete s (slotOfBay b) then
      match (slotRec s (slotOfBay b)).ident with
      | some { data := .bay _ standby, .. } => standby
      | _ => Config.defaultStandby
    else Config.defaultStandby

/-- The grant that counts: that of a bay in RAMPING, ON or STOPPING (R52). -/
def grantOf (s : State) (b : Bay) : Nat := if hasMain (bayState s b) then (bayRec s b).grant else 0

/-- The allowance of a fan slot: the rated power while COMPLETE and 60 W otherwise, for a present fan
(R53). -/
def fanPowerOf (s : State) (f : Fan) : Nat :=
  match (fanRec s f).state with
  | .absent => 0
  | _ =>
    if isComplete s (slotOfFan f) then
      match (slotRec s (slotOfFan f)).ident with
      | some { data := .fan _ power _, .. } => power
      | _ => Config.defaultFanPower
    else Config.defaultFanPower

/-- The counted capacities of the supplies in OK, largest first (R51). -/
def okCapacities (s : State) : List Nat :=
  ((List.finRange 4).filterMap fun p =>
    if (supplyRec s p).condition = .ok then some (supplyRec s p).capacity else none).insertionSort (· ≥ ·)

/-- How many of the largest supplies the policy holds in reserve (R51). -/
def reserveCount (r : Redundancy) (k : Nat) : Nat :=
  match r with
  | .none => 0
  | .one => 1
  | .half => k / 2

/-- The figures of the state as it stands (R51, R52). -/
def figuresOf (s : State) : Figures :=
  let caps := okCapacities s
  let total := caps.sum
  let reserve := (caps.take (reserveCount s.pbu.policy.redundancy caps.length)).sum
  { supplySum := total, supplyCount := caps.length, reserve := reserve, available := total - reserve,
    base := s.pbu.policy.baseLoad, standby := sumFin 16 (standbyOf s), grants := sumFin 16 (grantOf s),
    fans := sumFin 6 (fanPowerOf s) }

/-- Allocated power exceeds available power, by the figures of the last evaluation (R54). -/
def overBudget (s : State) : Bool := decide (s.pbu.figures.available < s.pbu.figures.allocated)

/-! ### The wait list (R58 to R60) -/

/-- `x` stands before a bay of this priority and stamp: a higher priority, or the same and an older
stamp (R58). -/
def standsBefore (prio : Bay → Nat) (x e : Waiting) : Bool :=
  decide (prio x.bay < prio e.bay) || (decide (prio x.bay = prio e.bay) && decide (x.stamp < e.stamp))

/-- An entry placed after every entry that stands before it (R58, R59). -/
def insertWaiting (prio : Bay → Nat) (e : Waiting) : List Waiting → List Waiting
  | [] => [e]
  | x :: rest => if standsBefore prio x e then x :: insertWaiting prio e rest else e :: x :: rest

/-- A bay's priority in its policy. -/
def priorityOf (s : State) (b : Bay) : Nat := (bayRec s b).priority

/-- A bay enters the wait list with the next entry stamp (R59). -/
def joinWaitList (b : Bay) (s : State) : State :=
  updPbu (fun p => { p with
    waitList := insertWaiting (priorityOf s) { bay := b, stamp := p.nextStamp } p.waitList
    nextStamp := p.nextStamp + 1 }) s

/-- A bay leaves the wait list; the others keep their order and stamps (R60). -/
def leaveWaitList (b : Bay) (s : State) : State :=
  updPbu (fun p => { p with waitList := p.waitList.filter fun w => w.bay ≠ b }) s

/-- A waiting bay is moved to the place its priority now gives, keeping its stamp (R23, R59). -/
def moveInWaitList (b : Bay) (s : State) : State :=
  match s.pbu.waitList.find? (fun w => w.bay == b) with
  | none => s
  | some e =>
    updPbu (fun p => { p with
      waitList := insertWaiting (priorityOf s) e (p.waitList.filter fun w => w.bay ≠ b) }) s

/-! ### The head evaluation (R61) -/

/-- The five conditions of R61 for a bay at the head. -/
def admissible (s : State) (b : Bay) : Bool :=
  s.pbu.ae == .opened && s.pbu.emg.phase == .none && !s.pbu.hold && s.pbu.seq == .idle
    && isComplete s (slotOfBay b)
    && decide (s.pbu.figures.allocated + classGrant s b ≤ s.pbu.figures.available)

/-- The PBU evaluates the head of the wait list; where all five conditions hold, the sequencer enters
ADMITTING for it (R61, R64). -/
def evaluateHead (s : State) : State :=
  match s.pbu.waitList with
  | [] => s
  | w :: _ => if admissible s w.bay then updPbu (fun p => { p with seq := .admitting w.bay }) s else s

/-! ### Emergencies (R72 to R83) -/

/-- The entry of an emergency (R72). -/
def beginEmergency (source : EmgSource) (s : State) : State :=
  let s := updPbu (fun p => { p with ae2 := p.ae, ae := .closed }) s
  let s := updBays (fun _ r => { r with emergencyCause := true }) s
  let s := updEmg (fun e => { e with graceTimer := some s.pbu.policy.grace, phase := .grace, shedCount := 0 }) s
  raise (.emergency .began source) s

/-- SHED is raised where a run of shedding stops having shed a bay, with the last shed bay (R81). -/
def endRun (s : State) : State :=
  let t := updEmg (fun e => { e with runShed := false }) s
  match s.pbu.emg.runShed, s.pbu.emg.lastShed with
  | true, some b => raise (.shed b) t
  | _, _ => t

/-- The end of an emergency (R83), less the head evaluation that follows it. -/
def endEmergency (source : EmgSource) (s : State) : State :=
  let s := updEmg (fun e => { e with graceTimer := none, phase := .none, shedBay := none }) s
  let s := updBays (fun _ r => { r with emergencyCause := false }) s
  let s := updPbu (fun p => { p with ae := p.ae2 }) s
  raise (.emergency .ended source) (endRun s)

/-- The better of two bays to shed in R77's second group: the higher priority number, and within one the
higher bay number (the later one, as the bays are tried in rising order). -/
def laterShed (s : State) (best : Option Bay) (b : Bay) : Option Bay :=
  if isUp (bayState s b) then
    match best with
    | none => some b
    | some a => if priorityOf s a ≤ priorityOf s b then some b else some a
  else best

/-- The bay to shed as the bays stand: the one in RAMPING, then those in ON or STOPPING by priority from
7 to 0 and bay number from B15 to B0 (R77). -/
def chooseShed (s : State) : Option Bay :=
  match (List.finRange 16).find? (fun b => bayState s b == .ramping) with
  | some b => some b
  | none => (List.finRange 16).foldl (laterShed s) none

/-- The phase becomes EXHAUSTED (R82). -/
def enterExhausted (s : State) : State :=
  let s := updEmg (fun e => { e with phase := .exhausted, shedBay := none }) s
  raise (.emergency .exhausted .none) (endRun s)

/-- The next shed request is handed to the BCB, or the phase becomes EXHAUSTED where no bay is sheddable
(R76, R78, R82). -/
def handShed (s : State) : State :=
  match chooseShed s with
  | some b => updEmg (fun e => { e with phase := .shedding, shedBay := some b }) s
  | none => enterExhausted s

/-- A run of shedding begins, in which no bay has been shed yet (R81). -/
def beginRun (s : State) : State := handShed (updEmg (fun e => { e with runShed := false }) s)

/-! ### The budget evaluation (R54) -/

/-- The figures are recomputed (R54). -/
def recordFigures (s : State) : State := updPbu (fun p => { p with figures := figuresOf s }) s

/-- What the comparison of a budget evaluation does in each phase (R54, R72, R75, R78, R82, R83). -/
def compareBudget (source : EmgSource) (s : State) : State :=
  match s.pbu.emg.phase, overBudget s with
  | .none, true => if s.pbu.hold then s else beginEmergency source s
  | .grace, false => endEmergency source s
  | .exhausted, false => endEmergency source s
  | .exhausted, true => if (chooseShed s).isSome then beginRun s else s
  | .none, false | .grace, true | .shedding, _ => s

/-- A budget evaluation: the figures, the comparison, and the head of the wait list (R54). -/
def evaluate (source : EmgSource) (s : State) : State :=
  evaluateHead (compareBudget source (recordFigures s))

/-! ### The ramp sequencer (R63 to R67) -/

/-- The report that the bay's ramp has ended with the bay powered (R65). -/
def rampEndPowered (b : Bay) (s : State) : State :=
  if s.pbu.seq = .ramp b then
    if s.pbu.policy.gapSteps = 0 then evaluateHead (updPbu (fun p => { p with seq := .idle }) s)
    else updPbu (fun p => { p with seq := .gap b, gapTimer := some (p.policy.gapSteps * Config.gapStep) }) s
  else s

/-- The report that the bay's ramp has ended without power: the sequencer becomes IDLE without a gap
(R66). -/
def rampEndUnpowered (b : Bay) (s : State) : State :=
  if s.pbu.seq = .ramp b then evaluateHead (updPbu (fun p => { p with seq := .idle }) s) else s

/-! ### The adoption hold (R85, R86) and the supplies (R47, R50) -/

/-- The adoption hold ends with an evaluation of source HOLD (R86). -/
def endHold (s : State) : State :=
  evaluate .hold (updPbu (fun p => { p with hold := false, holdTimer := none }) s)

/-- A supply record is in PENDING. -/
def anyPending (s : State) : Bool := (List.finRange 4).any fun p => (supplyRec s p).condition == .pending

/-- The test that ends the hold, made at each supply condition change and when the hold starts (R86). -/
def testHold (s : State) : State := if s.pbu.hold && !anyPending s then endHold s else s

/-- The condition of a supply from its three inputs (R47). -/
def conditionOf (present psuOk : Bool) (status : IdStatus) : Condition :=
  if !present then .absent
  else
    match status with
    | .none | .scanning => .pending
    | .unidentified => .unidentified
    | .complete => if psuOk then .ok else .notOk

/-- The capacity in a supply slot's class data. -/
def classCapacity (s : State) (p : Psu) : Nat :=
  match (slotRec s (slotOfPsu p)).ident with
  | some { data := .psu capacity, .. } => capacity
  | _ => 0

/-- The condition and counted capacity that a supply's inputs give (R47). -/
def supplyNow (s : State) (p : Psu) : SupplyRec :=
  let r := supplyRec s p
  let c := conditionOf r.present r.psuOk (slotRec s (slotOfPsu p)).status
  { r with condition := c, capacity := if c = .ok then classCapacity s p else 0 }

/-- The condition is recomputed (R47). -/
def recomputeSupply (p : Psu) (s : State) : State := updSupply p (fun _ => supplyNow s p) s

/-- A supply's input has changed: the condition is recomputed, a change of counted capacity makes an
evaluation (R50), and a change of condition tests the hold (R86). -/
def supplyChanged (p : Psu) (s : State) : State :=
  let old := supplyRec s p
  let new := supplyNow s p
  let t := recomputeSupply p s
  let t := if old.capacity = new.capacity then t else evaluate (.supply p) t
  if old.condition = new.condition then t else testHold t

end Sys2Proof.Machine
end

