-- ==== Sys2Proof/Machine/Identity.lean ====
section
/-! DEFINITION. The Identity Scan Engine: the scan request queue, the engine, the ends of a scan, the
reports to the other blocks, aborts, and announced identity (02_inventory_and_identity_scanning.md). -/

namespace Sys2Proof.Machine

/-! ### What the ISE tells its neighbours (R44) -/

/-- The BCB takes the completion of a bay slot's identity (R4). -/
def completeAtBay (b : Bay) (s : State) : State :=
  match bayState s b, (bayRec s b).adopted with
  | .identifying, _ => enterState b .standby s
  | .poweredOn, true | .stopping, true =>
    updBay b (fun r => { r with adopted := false, grant := classGrant s b }) s
  | .ramping, false | .poweredOn, false | .stopping, false =>
    updBay b (fun r => { r with grant := classGrant s b }) s
  | _, _ => s

/-- A slot's status has become COMPLETE: for a bay the BCB and then the PBU take it, with one evaluation;
for a supply or fan the PBU (R44, R50, R53). -/
def reportComplete (k : Slot) (s : State) : State :=
  match slotOwner k with
  | .bay b => evaluate (.bay b) (completeAtBay b s)
  | .psu p => supplyChanged p s
  | .fan f => evaluate (.fan f) s

/-- A slot's status has changed other than to COMPLETE: fallback, UNIDENTIFIED, or NONE on a new scan
request (R44). The bay state and grant stay as they are (R4). -/
def reportStatus (k : Slot) (s : State) : State :=
  match slotOwner k with
  | .bay b => evaluate (.bay b) s
  | .psu p => supplyChanged p s
  | .fan f => evaluate (.fan f) s

/-! ### The engine (R30, R33) -/

/-- While no scan is in flight and the queue is not empty, the engine takes the slot at the head in
flight and starts its scan timer (R33, R30). -/
def engineTakes (s : State) : State :=
  match s.ise.scan, s.ise.queue with
  | none, k :: rest =>
    updIse (fun i => { i with queue := rest, scan := some { slot := k, timer := Config.scanTime } })
      (updSlot k (fun r => { r with stage := .inFlight, status := .scanning }) s)
  | _, _ => s

/-! ### Scan requests (R32, R41) -/

/-- A scan request queues the slot or is absorbed, by its scan stage (R32). -/
def queueSlot (k : Slot) (s : State) : State :=
  match (slotRec s k).stage with
  | .idle | .retryWait =>
    updIse (fun i => { i with queue := i.queue ++ [k] })
      (updSlot k (fun r => { r with stage := .queued, retryTimer := none }) s)
  | .queued | .inFlight => s

/-- What a fresh request sets in the record (R41). -/
def freshRecord (r : SlotRec) : SlotRec :=
  { r with
    present := true
    source := some .line
    failures := 0
    status := if r.status = .complete ∨ r.status = .unidentified then .none else r.status }

/-- The record and the queue as a fresh scan request leaves them (R32, R41). -/
def freshRequest (k : Slot) (s : State) : State := queueSlot k (updSlot k freshRecord s)

/-- A fresh scan request: the record starts afresh, the slot is queued or absorbed, an idle engine takes
it, and a status that stops being COMPLETE or UNIDENTIFIED is reported (R32, R33, R41, R42). -/
def requestScan (k : Slot) (s : State) : State :=
  let was := (slotRec s k).status
  let t := engineTakes (freshRequest k s)
  if was = .complete ∨ was = .unidentified then reportStatus k t else t

/-! ### How a scan ends (R34 to R38) -/

/-- A complete scan: the record takes the image's values, the completion is reported, IDENTITY is
raised, and the engine takes the next slot (R34, R44, R45). -/
def scanComplete (k : Slot) (ident : Identity) (s : State) : State :=
  let s := updSlot k (fun r => { r with
    ident := some ident, status := .complete, source := some .line, failures := 0, lastFailure := none,
    stage := .idle }) s
  engineTakes (raise (.identity k) (reportComplete k s))

/-- The fourth failure of a bay slot: fallback to ANNOUNCE (R37). -/
def fallBack (k : Slot) (s : State) : State :=
  let s := updSlot k (fun r => { r with stage := .idle, source := some .announce }) s
  raise (.identity k) (reportStatus k s)

/-- The fourth failure of a supply or fan slot: UNIDENTIFIED, with the identity values cleared (R38). -/
def becomeUnidentified (k : Slot) (s : State) : State :=
  let s := updSlot k (fun r => { r with stage := .idle, status := .unidentified, source := none, ident := none }) s
  raise (.identity k) (reportStatus k s)

/-- What follows a failure, by the new count: a retry after 500 ms, or the end of the slot's scanning
(R35). -/
def afterFailure (k : Slot) (s : State) : State :=
  if (slotRec s k).failures < Config.failureLimit then
    updSlot k (fun r => { r with stage := .retryWait, retryTimer := some Config.retryTime }) s
  else
    match slotOwner k with
    | .bay _ => fallBack k s
    | .psu _ | .fan _ => becomeUnidentified k s

/-- A failed scan (R35), after which the engine takes the next slot. -/
def scanFailed (k : Slot) (failure : ScanFailure) (s : State) : State :=
  let s := updSlot k (fun r => { r with
    lastFailure := some failure, failures := r.failures + 1, status := .none }) s
  engineTakes (afterFailure k s)

/-- The scan in flight is over: its transaction is closed, its timer stopped and its lines idle
(R30, R31). -/
def endTransaction (s : State) : State := updIse (fun i => { i with scan := none }) s

/-- The slot's scan is the one in flight. -/
def scanning (s : State) (k : Slot) : Bool := idLinesActive s k

/-- The sixteenth byte of the scan in flight: the image is judged (R30, R34, R35). -/
def judgeScan (k : Slot) (image : Image) (s : State) : State :=
  match judgeImage (slotKind k) image with
  | .ok ident => scanComplete k ident (endTransaction s)
  | .error failure => scanFailed k failure (endTransaction s)

/-! ### Aborts (R39, R40) -/

/-- Whatever scanning work the slot has is stopped: the scan in flight, its place in the queue, or its
retry timer (R39). -/
def stopScanning (k : Slot) (s : State) : State :=
  updIse (fun i => { i with
    scan := if scanning s k then none else i.scan
    queue := i.queue.filter (· ≠ k) }) s

/-- A module's removal aborts the slot's scanning and clears its record (R39). -/
def clearSlot (k : Slot) (s : State) : State :=
  engineTakes (updSlot k (fun _ => resetSlot) (stopScanning k s))

/-- Entry to MAINT aborts the slot's scanning and keeps its record, a status of SCANNING becoming NONE
(R40). -/
def abortScan (k : Slot) (s : State) : State :=
  engineTakes (updSlot k (fun r => { r with
    stage := .idle, retryTimer := none, status := if r.status = .scanning then .none else r.status })
    (stopScanning k s))

/-! ### Announced identity (R43) -/

/-- A valid announced image completes the slot's identity (R43). -/
def acceptAnnounce (k : Slot) (ident : Identity) (s : State) : State :=
  let s := updSlot k (fun r => { r with ident := some ident, status := .complete, lastFailure := none }) s
  raise (.identity k) (reportComplete k s)

end Sys2Proof.Machine
end

