-- ==== Sys2Proof/Machine/Cooling.lean ====
section
/-! DEFINITION. Zone demand and fan drive: the THU's zone computation and the FDU's stages 3 to 5, and
the tachometer windows (05_thermal_reports_and_zone_demand.md,
06_fan_drive_and_tachometer_supervision.md). -/

namespace Sys2Proof.Machine

/-! ### The zone computation (R97 to R101) -/

/-- The classes of a bay that takes part (R97). -/
inductive ThermalClass where
  | critical | stale | reporting | awaiting
  deriving DecidableEq, Repr

/-- The class of an entry under a stale limit in s, tried in the order of R97; an age equal to the limit
is not stale (R91). -/
def thermalClass (staleLimit : Nat) (e : ThermalEntry) : ThermalClass :=
  if e.current && (e.critical || e.margin == some 0) then .critical
  else if staleLimit * 1000 < e.age then .stale
  else if e.current then .reporting
  else .awaiting

/-- The value between two neighbouring points, rounded up (R99). -/
def interpolate (p q : CurvePoint) (m : Nat) : Nat :=
  if p.duty ≤ q.duty then p.duty + ceilDiv ((q.duty - p.duty) * (m - p.margin)) (q.margin - p.margin)
  else p.duty - (p.duty - q.duty) * (m - p.margin) / (q.margin - p.margin)

/-- The demand of margin `m` on a curve (R99). A curve looked up is never empty (R93, R98). -/
def curveDemand (m : Nat) : List CurvePoint → Nat
  | [] => 0
  | [p] => p.duty
  | p :: q :: rest =>
    if m ≤ p.margin then p.duty
    else if m < q.margin then interpolate p q m
    else curveDemand m (q :: rest)

/-- A bay takes part in a zone's computation when it is in ON or STOPPING and its policy names the zone
(R97). -/
def takesPart (s : State) (z : Zone) (b : Bay) : Bool := isUp (bayState s b) && (bayRec s b).zone == z

/-- The class of a bay in a zone's computation; none where the bay takes no part (R97). -/
def classIn (s : State) (z : Zone) (b : Bay) : Option ThermalClass :=
  if takesPart s z b then some (thermalClass (zoneRec s z).staleLimit (thermalEntry s b)) else none

/-- The demand of a bay in a zone: 0 where it contributes none (R98). -/
def demandIn (s : State) (z : Zone) (b : Bay) : Nat :=
  match classIn s z b with
  | some .critical | some .stale => Config.fullDuty
  | some .reporting => curveDemand ((thermalEntry s b).margin.getD 0) (zoneRec s z).curve
  | some .awaiting | none => 0

/-- The largest demand of a zone's bays. -/
def largestDemand (s : State) (z : Zone) : Nat := ((List.finRange 16).map (demandIn s z)).foldl max 0

/-- Some bay of the zone is in the critical class. -/
def anyCritical (s : State) (z : Zone) : Bool := (List.finRange 16).any fun b => classIn s z b == some .critical

/-- A zone's target by its mode (R100, R101). -/
def zoneTarget (s : State) (z : Zone) : Nat :=
  match (zoneRec s z).mode with
  | .disabled => Config.fullDuty
  | .forced => if anyCritical s z then Config.fullDuty else (zoneRec s z).forced
  | .auto => max (zoneRec s z).floor (largestDemand s z)

/-- Contributing bays: the first three classes (R97). -/
def contributingIn (s : State) (z : Zone) : Nat :=
  countFin 16 fun b => (classIn s z b).isSome && classIn s z b != some .awaiting

/-- Stale bays (R97). -/
def staleIn (s : State) (z : Zone) : Nat := countFin 16 fun b => classIn s z b == some .stale

/-- A zone's record with the results of the computation recorded (R102). -/
def computeZone (s : State) (z : Zone) (r : ZoneRec) : ZoneRec :=
  { r with target := zoneTarget s z, contributing := contributingIn s z, staleBays := staleIn s z }

/-- All three zones computed from the same readings (R96, R102). -/
def computeZones (s : State) : State :=
  { s with thu := { s.thu with zones := Bank.update (computeZone s) s.thu.zones } }

/-! ### Stages 3 to 5 (R110 to R113) -/

/-- M: the fan slots whose zone field names the zone (R110). -/
def fansAssigned (s : State) (z : Zone) : Nat := countFin 6 fun f => (fanRec s f).zone == z

/-- h: those of them in SPINUP or RUNNING (R110). -/
def fansTurning (s : State) (z : Zone) : Nat :=
  countFin 6 fun f => (fanRec s f).zone == z && ((fanRec s f).state == .spinup || (fanRec s f).state == .running)

/-- The compensated value (R110). -/
def compensate (target assigned turning : Nat) : Nat :=
  if assigned = 0 then target
  else if turning = 0 then Config.fullDuty
  else min Config.fullDuty (ceilDiv (target * assigned) turning)

/-- The airflow status after a computation (R110). -/
def airflowOf (assigned turning : Nat) : Airflow :=
  if assigned ≠ 0 ∧ turning = 0 then .noAirflow else .normal

/-- A change of airflow status raises ZONE_ALARM and sets or clears the airflow cause of every bay whose
policy names the zone (R111). -/
def changeAirflow (z : Zone) (now : Airflow) (s : State) : State :=
  if (zoneAir s z).airflow = now then s
  else
    let s := raise (.zoneAlarm z (now == .normal)) (updAir z (fun a => { a with airflow := now }) s)
    updBays (fun _ r => if r.zone = z then { r with airflowCause := now == .noAirflow } else r) s

/-- Stage 3: compensation (R110, R111). -/
def stageCompensate (z : Zone) (s : State) : State :=
  let m := fansAssigned s z
  let h := fansTurning s z
  changeAirflow z (airflowOf m h)
    (updAir z (fun a => { a with
      compensated := compensate (zoneRec s z).target m h, assigned := m, turning := h }) s)

/-- The applied value that stage 4 gives (R112). -/
def slew (mode : ZoneMode) (applied compensated stepDown : Nat) : Nat :=
  match mode with
  | .disabled => Config.fullDuty
  | .auto | .forced => if applied ≤ compensated then compensated else max compensated (applied - stepDown)

/-- Stage 4: slew (R112). -/
def stageSlew (z : Zone) (s : State) : State :=
  updAir z (fun a => { a with
    applied := slew (zoneRec s z).mode a.applied a.compensated (zoneRec s z).stepDown }) s

/-- A fan's applied duty under an applied value (R113). -/
def fanDuty (applied minRun : Nat) : Nat := min Config.fullDuty (max applied minRun)

/-- A fan's applied duty changes, with the two consequences of R113. -/
def setDuty (d : Nat) (r : FanRec) : FanRec :=
  if d = r.duty then r
  else
    let t := { r with duty := d, minDuty := min r.minDuty d }
    if r.duty < Config.judgedDuty ∧ Config.judgedDuty ≤ d ∧ (r.state = .spinup ∨ r.state = .running) then
      { t with state := .spinup, spinup := 0, low := 0, good := 0 }
    else t

/-- Stage 5: per-fan drive (R113). -/
def stageDrive (z : Zone) (s : State) : State :=
  updFans (fun _ r => if r.zone = z then setDuty (fanDuty (zoneAir s z).applied r.minRun) r else r) s

/-- Stages 3 to 5 of one zone, in order (R109). -/
def driveZone (z : Zone) (s : State) : State := stageDrive z (stageSlew z (stageCompensate z s))

/-! ### Tachometer windows (R115 to R118) -/

/-- One pulse through the prescaler (R115). -/
def countPulse (r : FanRec) : FanRec :=
  if r.residue + 1 < r.prescale then { r with residue := r.residue + 1 }
  else { r with residue := 0, count := satAdd r.count 1 Config.top16 }

/-- A fan's class data while its identity is COMPLETE: rated speed and ppr (R119). -/
def fanIdentity (s : State) (f : Fan) : Option (Nat × Nat) :=
  if isComplete s (slotOfFan f) then
    match (slotRec s (slotOfFan f)).ident with
    | some { data := .fan speed _ ppr, .. } => some (speed, ppr)
    | _ => none
  else none

/-- The speed of a window (R116). -/
def windowRpm (r : FanRec) (ppr : Nat) : Nat := r.count * r.prescale * 60 / ppr

/-- A window is low when its speed is below half the expected speed (R116). -/
def windowLow (r : FanRec) (speed rpm : Nat) : Bool := decide (rpm < speed * r.minDuty / 1000 / 2)

/-- What a judged window does to the record: the counters, and FAILED or RUNNING at three in a row
(R118). -/
def judgeWindow (low : Bool) (r : FanRec) : FanRec :=
  match r.state, low with
  | .running, true =>
    if r.low + 1 < 3 then { r with low := r.low + 1, good := 0 }
    else { r with state := .failed, low := 0, good := 0 }
  | .running, false => { r with good := satAdd r.good 1 3, low := 0 }
  | .failed, true => { r with low := satAdd r.low 1 3, good := 0 }
  | .failed, false =>
    if r.good + 1 < 3 then { r with good := r.good + 1, low := 0 }
    else { r with state := .running, low := 0, good := 0 }
  | .absent, _ | .spinup, _ => r

/-- A fan in SPINUP counts a window and enters RUNNING at the second (R117). -/
def countSpinup (r : FanRec) : FanRec :=
  if r.spinup + 1 < 2 then { r with spinup := r.spinup + 1 }
  else { r with spinup := 2, state := .running, low := 0, good := 0 }

/-- Steps 1 to 3 of a window's end (R116): the speed, and the spin-up grace or the judging. -/
def endWindow (ident : Option (Nat × Nat)) (r : FanRec) : FanRec :=
  let r := { r with rpm := ident.map fun (i : Nat × Nat) => windowRpm r i.2 }
  match r.state, ident with
  | .spinup, _ => countSpinup r
  | .running, some (speed, ppr) | .failed, some (speed, ppr) =>
    if Config.judgedDuty ≤ r.minDuty then judgeWindow (windowLow r speed (windowRpm r ppr)) r else r
  | _, _ => r

/-- Step 4: the next window begins (R116). -/
def nextWindow (r : FanRec) : FanRec :=
  { r with count := 0, minDuty := r.duty, tachTimer := some Config.tachPeriod }

/-- FAN_FAULT is raised where a judged window moves the fan to FAILED or back to RUNNING (R118). -/
def raiseFanFault (f : Fan) (before after : FanState) (s : State) : State :=
  match before, after with
  | .running, .failed => raise (.fanFault f false) s
  | .failed, .running => raise (.fanFault f true) s
  | _, _ => s

/-- The end of a fan's tach window (R116). -/
def tachWindow (f : Fan) (s : State) : State :=
  let r := fanRec s f
  let t := endWindow (fanIdentity s f) r
  raiseFanFault f r.state t.state (updFan f (fun _ => nextWindow t) s)

/-! ### Presence (R106, R107) -/

/-- The record of a fan taken as inserted (R106). -/
def insertedFan (r : FanRec) : FanRec :=
  { r with state := .spinup, spinup := 0, low := 0, good := 0, residue := 0, count := 0, minDuty := r.duty,
           tachTimer := some Config.tachPeriod, insertTimer := none }

/-- The record of a fan removed (R107). -/
def removedFan (r : FanRec) : FanRec :=
  { r with state := .absent, tachTimer := none, residue := 0, count := 0, rpm := none, spinup := 0, low := 0,
           good := 0, removeTimer := none }

end Sys2Proof.Machine
end

