-- ==== Sys2Proof/Machine/Stations.lean ====
section
/-! DEFINITION. Tag translation and the station table: forward and reverse translation (R126, R128),
lookup, learning, purges, aging, static entries and the recomputation of a window change
(07_tag_translation.md, 08_station_table_and_forwarding.md). -/

namespace Sys2Proof.Machine

/-! ### Translation (R120, R126, R128) -/

/-- The chassis page of a blade page under a window, before the test for overflow (R126). -/
def forwardPage (w : Window) (p : Nat) : Nat :=
  if p < w.bs then p else if p < w.cs then w.bb + (p - w.bs) else w.cb + (p - w.cs)

/-- Forward translation: the chassis tag of a blade tag, or none where it overflows (R126). -/
def forwardTag (w : Window) (t : Nat) : Option Nat :=
  let page := forwardPage w (t / 256)
  if page ≤ 63 then some (page * 256 + t % 256) else none

/-- The blade page that a chassis page reverses to: upper, bank, lower, the first that holds it (R128). -/
def reversePage (w : Window) (q : Nat) : Option Nat :=
  if w.cs < 16 ∧ w.cb ≤ q ∧ q ≤ w.cb + 15 - w.cs then some (w.cs + q - w.cb)
  else if w.bs < w.cs ∧ w.bb ≤ q ∧ q ≤ w.bb + w.cs - 1 - w.bs then some (w.bs + q - w.bb)
  else if q < w.bs then some q
  else none

/-- Reverse translation: the blade tag of a chassis tag, or none where no area holds its page (R128). -/
def reverseTag (w : Window) (c : Nat) : Option Nat :=
  (reversePage w (c / 256)).map fun p => p * 256 + c % 256

/-! ### Places and keys (R131) -/

/-- The entry has this key. -/
def hasKey (a : Addr) (c : Nat) (p : Place) : Bool := p.entry.address == a && p.entry.chassisTag == c

/-- The place that holds the key, if any (R131). -/
def findStation (s : State) (a : Addr) (c : Nat) : Option Place := s.stb.places.find? (hasKey a c)

/-- The lowest index from `n` on that a list of places in rising order leaves empty. -/
def lowestFrom (n : Nat) : List Place → Nat
  | [] => n
  | p :: rest => if p.index = n then lowestFrom (n + 1) rest else n

/-- The lowest-numbered empty place, if one of the 1024 is empty (R131). -/
def lowestEmpty (s : State) : Option Nat :=
  let n := lowestFrom 0 s.stb.places
  if n < Config.stationPlaces then some n else none

/-- A new place among the others, in rising order of index. -/
def insertPlace (p : Place) : List Place → List Place
  | [] => [p]
  | q :: rest => if q.index < p.index then q :: insertPlace p rest else p :: q :: rest

def updPlaces (f : List Place → List Place) (s : State) : State :=
  updStb (fun t => { t with places := f t.places }) s

/-- The entry of one place replaced. -/
def writePlace (i : Nat) (e : StationEntry) (s : State) : State :=
  updPlaces (fun ps => ps.map fun p => if p.index = i then { p with entry := e } else p) s

/-- One place emptied. -/
def emptyPlace (i : Nat) (s : State) : State := updPlaces (fun ps => ps.filter fun p => p.index ≠ i) s

def isDynamic (e : StationEntry) : Bool :=
  match e.kind with
  | .dynamic _ => true
  | .fixed => false

/-- A STATIC entry is dormant while its bay is not in ON (R131). -/
def dormant (s : State) (e : StationEntry) : Bool :=
  match e.kind with
  | .fixed => bayState s e.bay != .poweredOn
  | .dynamic _ => false

/-- Every DYNAMIC entry naming the bay is purged (R139). -/
def purge (b : Bay) (s : State) : State :=
  updPlaces (fun ps => ps.filter fun p => !(isDynamic p.entry && p.entry.bay == b)) s

/-! ### Learning (R133, R134) -/

/-- The source `a` of a frame from bay `b` with blade tag `t` is learned under (a, c) (R133). -/
def learn (b : Bay) (a : Addr) (t c : Nat) (s : State) : State :=
  if isGroup a then s else
  match findStation s a c with
  | some p =>
    match p.entry.kind with
    | .dynamic _ => writePlace p.index { p.entry with bay := b, bladeTag := t, kind := .dynamic 0 } s
    | .fixed => s
  | none =>
    match lowestEmpty s with
    | some i =>
      let e : StationEntry := { address := a, chassisTag := c, bay := b, bladeTag := t, kind := .dynamic 0 }
      updPlaces (insertPlace { index := i, entry := e }) s
    | none =>
      raise (.stationFull b) (updStb (fun x => { x with learnMiss := satAdd x.learnMiss 1 Config.top32 }) s)

/-! ### Aging (R141) -/

/-- What a sweep leaves of a place: a DYNAMIC entry's idle count rises, and at the limit it goes. -/
def agePlace (limit : Nat) (p : Place) : Option Place :=
  match p.entry.kind with
  | .fixed => some p
  | .dynamic idle =>
    let n := satAdd idle 1 Config.top8
    if limit ≤ n then none else some { p with entry := { p.entry with kind := .dynamic n } }

/-- One aging sweep (R141). -/
def ageStations (s : State) : State :=
  updPlaces (fun ps => ps.filterMap (agePlace s.stb.agingSteps)) s

/-! ### Window changes (R124, R125) -/

/-- A STATIC entry standing in the way of the new key of the bay's entry at place `i`: of another bay, or
of this bay and already recomputed (R125). -/
def blocksKey (b : Bay) (i : Nat) (a : Addr) (c : Nat) (p : Place) : Bool :=
  p.index != i && hasKey a c p && !isDynamic p.entry && (p.entry.bay != b || decide (p.index < i))

/-- A STATIC entry is removed by the recomputation (R125). -/
def dropStatic (b : Bay) (i : Nat) (s : State) : State := raise (.translateDrop b true) (emptyPlace i s)

/-- The bay's STATIC entry at one place is settled under the bay's window (R125). -/
def settleStatic (b : Bay) (p : Place) (s : State) : State :=
  match forwardTag (window s b) p.entry.bladeTag with
  | none => dropStatic b p.index s
  | some c =>
    if s.stb.places.any (blocksKey b p.index p.entry.address c) then dropStatic b p.index s
    else
      writePlace p.index { p.entry with chassisTag := c }
        (updPlaces (fun ps => ps.filter fun q =>
          !(q.index != p.index && hasKey p.entry.address c q && isDynamic q.entry)) s)

/-- The bay's STATIC entries, in ascending order of index. -/
def staticsOf (b : Bay) (s : State) : List Place :=
  s.stb.places.filter fun p => !isDynamic p.entry && p.entry.bay == b

/-- The recomputation takes the bay's STATIC entries one at a time, in ascending order (R125). -/
def recomputeStatics (b : Bay) (s : State) : State := (staticsOf b s).foldl (fun t p => settleStatic b p t) s

end Sys2Proof.Machine
end

