-- ==== Sys2Proof/Machine/Bays.lean ====
section
/-! DEFINITION. The Bay Control Block: presence, detection, the ramp, the ways out of main power,
removal, maintenance, shedding and policy (01_bays.md), with what the PBU does on each answer. -/

namespace Sys2Proof.Machine

/-! ### Presence (R2) -/

/-- What a change of BAY_PRES to `present` starts or stops in the bay record (R2). -/
def bayPresence (present : Bool) (r : BayRec) : BayRec :=
  match present, r.state with
  | true, .empty => { r with insertTimer := some Config.insertionDebounce }
  | true, _ => { r with removeTimer := none }
  | false, .empty => { r with insertTimer := none }
  | false, _ => { r with removeTimer := some Config.removalDebounce }

/-! ### Detection (R3, R19) -/

/-- The bay enters DETECTED: its standby allowance counts, a fresh scan of its slot is requested, and on
the acceptance it moves to IDENTIFYING (R3, R19, R41). -/
def enterDetected (b : Bay) (s : State) : State :=
  let t := requestScan (slotOfBay b) (evaluate (.bay b) (enterState b .detected s))
  if bayState t b = .detected then enterState b .identifying t else t

/-- Insertion of a bay's module (R3). -/
def insertBay (b : Bay) (s : State) : State :=
  enterDetected b
    (updBay b (fun r => { r with insertTimer := none, insertions := satAdd r.insertions 1 Config.top8 }) s)

/-! ### Main power on (R7, R8) -/

/-- The bay's ramp completes (R8, R90, R65). -/
def completeRamp (b : Bay) (s : State) : State :=
  let t := enterState b .poweredOn (updBay b (fun r => { r with rampTimer := none }) s)
  rampEndPowered b (updThermal b (fun e => { e with current := false, age := 0 }) t)

/-- The record of a bay whose admission is taken, with its grant (R7). -/
def rampingRec (grant : Nat) (r : BayRec) : BayRec :=
  { r with grant := grant, shedMark := false, pen := true, rampTimer := some Config.rampTime }

/-- The BCB takes an admission of a bay in WAIT_POWER: the bay ramps and leaves the list, the sequencer
enters RAMP, and the grant is counted (R7, R60, R64). -/
def takeAdmission (b : Bay) (s : State) : State :=
  let t := enterState b .ramping (updBay b (rampingRec (classGrant s b)) (leaveWaitList b s))
  evaluate (.bay b) (updPbu (fun p => { p with seq := .ramp b }) t)

/-- The hand-over of an admission is answered: taken, with a BAY_PG that is already asserted taken at
once as R8's assertion, or not taken (R7, R64). -/
def answerAdmission (b : Bay) (s : State) : State :=
  if bayState s b = .waitPower then
    let t := takeAdmission b s
    if Bank.read s.pins.bayPg b then completeRamp b t else t
  else evaluateHead (updPbu (fun p => { p with seq := .idle }) s)

/-! ### Main power off (R5, R9 to R14) -/

/-- The record of a bay that loses main power: both lines released, both timers stopped, no grant and no
adoption (R9, R12, R13, R14, R16, R17, R18). -/
def unpowered (r : BayRec) : BayRec :=
  { r with pen := false, sdr := false, grant := 0, adopted := false, rampTimer := none, stopTimer := none }

/-- Where a bay that goes to STANDBY arrives, by its identity (R5). -/
def standbyState (s : State) (b : Bay) : BayState :=
  if isComplete s (slotOfBay b) then .standby else .identifying

/-- The egress queue is flushed and the bay's DYNAMIC entries are purged (R10). -/
def leaveOn (b : Bay) (s : State) : State := purge b (flush (.bay b) s)

/-- The bay loses power, enters `st`, and its freed grant is evaluated. -/
def dropTo (b : Bay) (st : BayState) (s : State) : State :=
  evaluate (.bay b) (enterState b st (updBay b unpowered s))

/-- Expiry of the ramp timer (R9). -/
def rampFault (b : Bay) (s : State) : State := rampEndUnpowered b (dropTo b .fault s)

/-- A power fault in ON or STOPPING (R14); the purge finds no entry in STOPPING (R139). -/
def powerFault (b : Bay) (s : State) : State :=
  match bayState s b with
  | .poweredOn => dropTo b .fault (leaveOn b s)
  | .stopping => dropTo b .fault (flush (.bay b) s)
  | _ => s

/-- The end of a graceful stop (R12). -/
def endStop (b : Bay) (s : State) : State := dropTo b (standbyState s b) s

/-- A graceful stop begins (R11). DEDUCED, safe: no evaluation follows a bay state change that starts or stops no
counting (R54 against R52, log 25). -/
def beginStop (b : Bay) (s : State) : State :=
  enterState b .stopping
    (updBay b (fun r => { r with sdr := true, stopTimer := some (s.pbu.policy.stopTimeout * 1000) }) (leaveOn b s))

/-- The bay leaves WAIT_POWER for STANDBY (R13). -/
def cancelWait (b : Bay) (s : State) : State :=
  evaluateHead (enterState b (standbyState s b) (updBay b (fun r => { r with adopted := false }) (leaveWaitList b s)))

/-- POWER_OFF FORCED in the four states where it applies (R13). -/
def forceOff (b : Bay) (s : State) : State :=
  match bayState s b with
  | .poweredOn => dropTo b (standbyState s b) (leaveOn b s)
  | .stopping => dropTo b (standbyState s b) s
  | .ramping => rampEndUnpowered b (dropTo b (standbyState s b) s)
  | .waitPower => cancelWait b s
  | _ => s

/-! ### Shedding (R16, R78) -/

/-- The BCB takes a shed request of a bay in RAMPING, ON or STOPPING (R16). -/
def shedTo (b : Bay) (s : State) : State :=
  let t := updBay b (fun r => { unpowered r with shedMark := true }) (leaveOn b s)
  if (bayRec s b).autoRestore && isComplete s (slotOfBay b) then enterState b .waitPower (joinWaitList b t)
  else enterState b (standbyState s b) t

/-- A shed that was taken: the bay, the emergency record, the evaluation that the freed grant calls for,
and the sequencer where the bay was ramping (R16, R78, R66). -/
def takeShed (b : Bay) (s : State) : State :=
  let t := updEmg (fun e => { e with shedCount := e.shedCount + 1, lastShed := some b, runShed := true }) (shedTo b s)
  rampEndUnpowered b (evaluate (.bay b) t)

/-- The source of an emergency's end at the answer to a shed request: the last shed bay (R74, log 11). -/
def lastShedSource (s : State) : EmgSource :=
  match s.pbu.emg.lastShed with
  | some b => .bay b
  | none => .none

/-- The PBU acts on the figures after the answer to a shed request (R78). -/
def answerShed (s : State) : State :=
  if overBudget s then handShed s else evaluateHead (endEmergency (lastShedSource s) s)

/-- The outstanding shed request is answered, taken or not (R78, R79). -/
def shedAnswered (b : Bay) (s : State) : State :=
  answerShed (if hasMain (bayState s b) then takeShed b s else evaluate (.bay b) s)

/-! ### Removal and maintenance (R17, R18, R19) -/

/-- Removal of a bay's module (R17). -/
def removeBay (b : Bay) (s : State) : State :=
  let t := clearSlot (slotOfBay b) (leaveWaitList b (leaveOn b s))
  let t := updThermal b (fun _ => resetThermal) t
  let t := updBay b (fun r => { unpowered r with shedMark := false, critical := false, removeTimer := none }) t
  rampEndUnpowered b (evaluate (.bay b) (enterState b .empty t))

/-- Entry to MAINT (R18, R40). -/
def isolate (b : Bay) (s : State) : State :=
  let t := abortScan (slotOfBay b) (leaveWaitList b (leaveOn b s))
  rampEndUnpowered b (dropTo b .maint t)

/-! ### Requests for power (R6) -/

/-- The bay enters WAIT_POWER and its list (R6, R59). -/
def requestPower (b : Bay) (s : State) : State :=
  evaluateHead (enterState b .waitPower (joinWaitList b s))

/-! ### Policy (R23) -/

/-- A cap as stored: 0 for no cap, otherwise 50 to 2000 W (R23). -/
def storedCap (cap : Nat) : Nat := if cap = 0 then 0 else clamp 50 2000 cap

/-- The five policy fields, with the airflow cause of a bay that moves to another zone (R20, R23). -/
def policyRec (s : State) (priority cap : Nat) (u : Uplink) (z : Zone) (restore : Bool) (r : BayRec) : BayRec :=
  { r with
    priority := min priority 7
    cap := storedCap cap
    prefUplink := u
    zone := z
    autoRestore := restore
    airflowCause := if r.zone = z then r.airflowCause else (zoneAir s z).airflow == .noAirflow }

/-- The grant of a powered bay is recomputed after a change of its cap (R23, R24). -/
def recomputeGrant (b : Bay) (s : State) : State :=
  let r := bayRec s b
  if hasMain r.state && !r.adopted && decide (r.grant ≠ classGrant s b) then
    evaluate (.bay b) (updBay b (fun r => { r with grant := classGrant s b }) s)
  else s

/-- A waiting bay moves in the list, and the head is evaluated (R23, R59). DEDUCED, unsafe: it is evaluated also
where the request leaves the priority as it was, so that a lowered cap alone may admit the head (log 29). -/
def replaceInList (b : Bay) (s : State) : State :=
  if bayState s b = .waitPower then evaluateHead (moveInWaitList b s) else s

/-- SET_BAY_POLICY that is not refused (R23). -/
def setBayPolicy (b : Bay) (priority cap : Nat) (u : Uplink) (z : Zone) (restore : Bool) (s : State) : State :=
  recomputeGrant b (replaceInList b (updBay b (policyRec s priority cap u z restore) s))

end Sys2Proof.Machine
end

