-- ==== Sys2Proof/Machine/BayEvents.lean ====
section
/-! DEFINITION. The commands of the bay lines and timers and the PBU's two hand-overs: one meaning each. -/

namespace Sys2Proof.Machine

/-- BAY_PRES changes: a debounce timer starts or stops (R2). A level that the line already has is no
change (log 22); in reset only the line moves (R177). -/
def bayPresChanged (b : Bay) (present : Bool) (s : State) : State :=
  if Bank.read s.pins.bayPres b = present then s
  else
    let t := updPins (fun p => { p with bayPres := Bank.put p.bayPres b present }) s
    if isRunning s then updBay b (bayPresence present) t else t

def execBayPresChange (b : Bay) (present : Bool) (s : State) : Host.Outcome State Fault Refusal :=
  .next (bayPresChanged b present s)

/-- The insertion debounce timer, which runs only in EMPTY, runs out: the insertion (R2, R3). -/
def execBayInsertionDebounceExpiry (b : Bay) (s : State) : Host.Outcome State Fault Refusal :=
  .next (whenRunning s
    (if (bayRec s b).insertTimer.isSome && bayState s b == .empty then insertBay b s else s))

/-- The removal debounce timer runs out: the removal, in every state but EMPTY (R17). -/
def execBayRemovalDebounceExpiry (b : Bay) (s : State) : Host.Outcome State Fault Refusal :=
  .next (whenRunning s
    (if (bayRec s b).removeTimer.isSome && bayState s b != .empty then removeBay b s else s))

/-- BAY_PG is asserted: a ramp completes; in any other state the record is unchanged (R8). -/
def bayPgAsserted (b : Bay) (s : State) : State :=
  let t := updPins (fun p => { p with bayPg := Bank.put p.bayPg b true }) s
  if isRunning s && bayState s b == .ramping then completeRamp b t else t

def execBayPgAsserted (b : Bay) (s : State) : Host.Outcome State Fault Refusal := .next (bayPgAsserted b s)

/-- BAY_PG becomes low: a power fault in ON or STOPPING; in any other state the record is unchanged
(R14). -/
def bayPgLow (b : Bay) (s : State) : State :=
  let t := updPins (fun p => { p with bayPg := Bank.put p.bayPg b false }) s
  if isRunning s then powerFault b t else t

def execBayPgLow (b : Bay) (s : State) : Host.Outcome State Fault Refusal := .next (bayPgLow b s)

/-- The ramp timer runs out in RAMPING: a ramp fault (R9). -/
def execRampTimerExpiry (b : Bay) (s : State) : Host.Outcome State Fault Refusal :=
  .next (whenRunning s
    (if (bayRec s b).rampTimer.isSome && bayState s b == .ramping then rampFault b s else s))

/-- The stop timer runs out in STOPPING: the stop ends (R12). -/
def execStopTimerExpiry (b : Bay) (s : State) : Host.Outcome State Fault Refusal :=
  .next (whenRunning s
    (if (bayRec s b).stopTimer.isSome && bayState s b == .stopping then endStop b s else s))

/-- The BCB takes the admission that is handed over (R7, R64). -/
def takeHandedAdmission (s : State) : State :=
  match s.pbu.seq with
  | .admitting b => answerAdmission b s
  | .idle | .ramp _ | .gap _ => s

def execAdmissionTaken (s : State) : Host.Outcome State Fault Refusal :=
  .next (whenRunning s (takeHandedAdmission s))

/-- The BCB takes the shed request that is outstanding (R16, R78). -/
def takeHandedShed (s : State) : State :=
  match s.pbu.emg.phase, s.pbu.emg.shedBay with
  | .shedding, some b => shedAnswered b s
  | _, _ => s

def execShedTaken (s : State) : Host.Outcome State Fault Refusal := .next (whenRunning s (takeHandedShed s))

end Sys2Proof.Machine
end

