-- ==== Sys2Proof/Machine/FanEvents.lean ====
section
/-! DEFINITION. The commands of the fan lines, the tach window and the control timer: one meaning each. -/

namespace Sys2Proof.Machine

/-- What a change of FAN_PRES starts or stops in the fan record (R106). -/
def fanPresence (present : Bool) (r : FanRec) : FanRec :=
  match present, r.state with
  | true, .absent => { r with insertTimer := some Config.insertionDebounce }
  | true, _ => { r with removeTimer := none }
  | false, .absent => { r with insertTimer := none }
  | false, _ => { r with removeTimer := some Config.removalDebounce }

/-- FAN_PRES changes (R106, log 22). -/
def fanPresChanged (f : Fan) (present : Bool) (s : State) : State :=
  if Bank.read s.pins.fanPres f = present then s
  else
    let t := updPins (fun x => { x with fanPres := Bank.put x.fanPres f present }) s
    if isRunning s then updFan f (fanPresence present) t else t

def execFanPresChange (f : Fan) (present : Bool) (s : State) : Host.Outcome State Fault Refusal :=
  .next (fanPresChanged f present s)

/-- The insertion of a fan: the record, a fresh scan, and the PBU's evaluation (R106, R53). -/
def insertFan (f : Fan) (s : State) : State :=
  evaluate (.fan f) (requestScan (slotOfFan f) (updFan f insertedFan s))

/-- The insertion debounce timer of an ABSENT fan runs out (R106). -/
def execFanInsertionDebounceExpiry (f : Fan) (s : State) : Host.Outcome State Fault Refusal :=
  .next (whenRunning s (if (fanRec s f).insertTimer.isSome && (fanRec s f).state == .absent then insertFan f s else s))

/-- The removal of a fan: the record, its slot cleared, and the PBU's evaluation (R107). -/
def removeFan (f : Fan) (s : State) : State :=
  evaluate (.fan f) (clearSlot (slotOfFan f) (updFan f removedFan s))

/-- The removal debounce timer of a present fan runs out (R107). -/
def execFanRemovalDebounceExpiry (f : Fan) (s : State) : Host.Outcome State Fault Refusal :=
  .next (whenRunning s (if (fanRec s f).removeTimer.isSome && (fanRec s f).state != .absent then removeFan f s else s))

/-- A pulse on FAN_TACH: counted while the fan is present (R115). -/
def execFanTachPulse (f : Fan) (s : State) : Host.Outcome State Fault Refusal :=
  .next (whenRunning s (if (fanRec s f).state = .absent then s else updFan f countPulse s))

/-- The fan's tach window ends (R116). -/
def execTachWindowExpiry (f : Fan) (s : State) : Host.Outcome State Fault Refusal :=
  .next (whenRunning s (if (fanRec s f).tachTimer.isSome then tachWindow f s else s))

/-- The control timer runs out and restarts: the THU computes all three zones, and the FDU drives each
(R96, R109). DEDUCED, unsafe: the rules give no order among the zones, and in the order Z0, Z1, Z2 an alert
of ZONE_ALARM names the lowest zone whose airflow status changes and the record the highest (log 9). -/
def controlZones (s : State) : State :=
  let t := computeZones { s with thu := { s.thu with controlTimer := some Config.controlPeriod } }
  driveZone 2 (driveZone 1 (driveZone 0 t))

def execControlTimerExpiry (s : State) : Host.Outcome State Fault Refusal :=
  .next (whenRunning s (if s.thu.controlTimer.isSome then controlZones s else s))

end Sys2Proof.Machine
end

