-- ==== Sys2Proof/Machine/Frames.lean ====
section
/-! DEFINITION. The forwarding engine's two paths, a frame's arrival at its port, the choice of the uplink, and
what an uplink's loss does (R21, R132 to R138, R149 to R151). -/

namespace Sys2Proof.Machine

/-- The other uplink. -/
def otherUplink (u : Uplink) : Uplink := if u = 0 then 1 else 0

/-- The selected uplink of a bay (R149). -/
def selectedUplink (s : State) (b : Bay) : Option Uplink :=
  let p := (bayRec s b).prefUplink
  if usable s p then some p else if usable s (otherUplink p) then some (otherUplink p) else none

/-- A copy of a received frame, with the tag it will be sent with (R121). -/
def frameCopy (f : RxFrame) (tag : Nat) : Copy := { kind := .forwarded, tag := tag, bytes := frameUntagged f }

/-- The copy for the selected uplink, or a no-uplink drop where neither is usable (R136). -/
def sendUplink (b : Bay) (f : RxFrame) (c : Nat) (s : State) : State :=
  match selectedUplink s b with
  | some u => offer (.uplink u) (frameCopy f c) s
  | none => updBay b (fun r => { r with noUplink := satAdd r.noUplink 1 Config.top16 }) s

/-- The flood copy for one bay in ON whose window gives the chassis tag a reverse image; none for the
frame's own bay (R129, R137, R138). -/
def floodBay (skip : Option Bay) (f : RxFrame) (c : Nat) (s : State) (b : Bay) : State :=
  if bayState s b = .poweredOn ∧ skip ≠ some b then
    match reverseTag (window s b) c with
    | some t => offer (.bay b) (frameCopy f t) s
    | none => s
  else s

/-- Flood copies, offered in turn to the bays in rising order (R137, R138, log 17). -/
def flood (skip : Option Bay) (f : RxFrame) (c : Nat) (s : State) : State :=
  (List.finRange 16).foldl (floodBay skip f c) s

/-- The destination of an upstream frame from bay `b` with chassis tag `c` (R135). -/
def upstreamDestination (b : Bay) (f : RxFrame) (c : Nat) (s : State) : State :=
  if isGroup (frameDst f) then flood (some b) f c (sendUplink b f c s)
  else
    match findStation s (frameDst f) c with
    | some p =>
      if p.entry.bay = b then s
      else if bayState s p.entry.bay = .poweredOn then offer (.bay p.entry.bay) (frameCopy f p.entry.bladeTag) s
      else sendUplink b f c s
    | none => sendUplink b f c s

/-- An upstream frame whose translation overflows is dropped and counted (R127). -/
def dropOverflow (b : Bay) (s : State) : State :=
  raise (.translateDrop b false) (updBay b (fun r => { r with overflows := satAdd r.overflows 1 Config.top16 }) s)

/-- A frame to the service address that is no service frame is discarded by the FWE (R132). -/
def strayService (s : State) (f : RxFrame) : Bool := frameDst f == serviceAddress s.sve.chassisNumber

/-- The upstream path: translation, learning, destination (R133). DEDUCED, unsafe: a frame to the service
address that is no service frame is discarded before its tag is translated, so that R132's discard without a
counter stands before R127's count of an overflow (log 28). -/
def upstream (b : Bay) (f : RxFrame) (s : State) : State :=
  if strayService s f then s else
  match forwardTag (window s b) (frameTag (.bay b) f) with
  | none => dropOverflow b s
  | some c => upstreamDestination b f c (learn b (frameSrc f) (frameTag (.bay b) f) c s)

/-- The downstream path: one copy on a hit, otherwise a flood (R138). -/
def downstream (u : Uplink) (f : RxFrame) (s : State) : State :=
  if strayService s f then s else
  let c := frameTag (.uplink u) f
  if isGroup (frameDst f) then flood none f c s
  else
    match findStation s (frameDst f) c with
    | some p =>
      if dormant s p.entry then flood none f c s
      else offer (.bay p.entry.bay) (frameCopy f p.entry.bladeTag) s
    | none => flood none f c s

/-- A frame counted in its port's queue as dropped without having been offered to it (R160). -/
def refuseFrame (p : Port) (s : State) : State := countDropped 1 p s

/-- A frame that the bay port has received whole (R21). -/
def bayFrame (b : Bay) (f : RxFrame) (s : State) : State :=
  if isServiceFrame s.sve.chassisNumber f then
    if accepting (bayState s b) then offerService (.bay b) f s else countRefused (.bay b) s
  else if bayState s b = .poweredOn then upstream b f s
  else refuseFrame (.bay b) s

/-- A frame that the uplink port has received whole (R151). -/
def uplinkFrame (u : Uplink) (f : RxFrame) (s : State) : State :=
  let r := uplinkRec s u
  if isServiceFrame s.sve.chassisNumber f then
    if r.enabled && r.right then offerService (.uplink u) f s else countRefused (.uplink u) s
  else if r.enabled then downstream u f s
  else refuseFrame (.uplink u) s

/-- A frame reaches a port: one whose check or length fails is discarded uncounted (R132), and an uplink port
receives only while its link is UP (R151, log 20). -/
def receiveFrame (p : Port) (f : RxFrame) (s : State) : State :=
  match p with
  | .bay b => if frameSound f then bayFrame b f s else s
  | .uplink u => if frameSound f && (uplinkRec s u).link then uplinkFrame u f s else s

/-- An uplink's record changes, and where that makes a usable uplink unusable its queue is flushed in the
same event (R150). -/
def changeUplink (u : Uplink) (f : UplinkRec → UplinkRec) (s : State) : State :=
  let t := updUplink u f s
  if usable s u && !usable t u then flush (.uplink u) t else t

end Sys2Proof.Machine
end

