-- ==== Sys2Proof/Machine/Reset.lean ====
section
/-! DEFINITION. The three resets: what the beginning of a reset ends, the completion of a power-on
reset, and the takeover that completes a warm reset (12_start_up_and_warm_takeover.md). -/

namespace Sys2Proof.Machine

/-! ### The beginning of a reset (R178) -/

/-- A bay's timers stop, BAY_SDR and BAY_THR are released, and BAY_PEN is released at a power-on reset and
for a bay in RAMPING (R178). -/
def endBayWork (powerOn : Bool) (r : BayRec) : BayRec :=
  { r with insertTimer := none, removeTimer := none, rampTimer := none, stopTimer := none,
           pen := r.pen && !powerOn && r.state != .ramping, sdr := false, thr := false }

/-- A slot's scanning work ends (R46, R178). -/
def endSlotWork (r : SlotRec) : SlotRec :=
  { r with stage := .idle, retryTimer := none, status := if r.status = .scanning then .none else r.status }

def endSupplyWork (r : SupplyRec) : SupplyRec := { r with insertTimer := none, removeTimer := none }

/-- A fan's timers stop, and FAN_DRV carries 1000 per mille (R108, R178). -/
def endFanWork (r : FanRec) : FanRec :=
  { r with tachTimer := none, insertTimer := none, removeTimer := none, drive := Config.fullDuty }

/-- The PBU's timers stop, and an outstanding shed request ends (R178). -/
def endPbuWork (p : Pbu) : Pbu :=
  { p with supplies := Bank.update (fun _ => endSupplyWork) p.supplies
           gapTimer := none
           holdTimer := none
           emg := { p.emg with graceTimer := none, shedBay := none } }

/-- Every copy and transmission of a queue ends, without a count (R162, R178). -/
def endQueueWork (q : Queue) : Queue := { q with frames := [], held := 0, sending := false }

def endFbmWork (m : Fbm) : Fbm :=
  { free := Config.poolCells
    bayQ := Bank.update (fun _ => endQueueWork) m.bayQ
    upQ := Bank.update (fun _ => endQueueWork) m.upQ
    svc := { m.svc with frames := [], held := 0 } }

/-- The beginning of a reset: all work in progress ends without its ordinary completion, and the outputs
take their levels (R178). The records keep their values until the completion. -/
def beginReset (powerOn : Bool) (m : Mode) (s : State) : State :=
  { s with
    mode := m
    bays := Bank.update (fun _ => endBayWork powerOn) s.bays
    ise := { slots := Bank.update (fun _ => endSlotWork) s.ise.slots, queue := [], scan := none }
    pbu := endPbuWork s.pbu
    thu := { s.thu with controlTimer := none }
    fdu := { s.fdu with fans := Bank.update (fun _ => endFanWork) s.fdu.fans }
    stb := { s.stb with sweepTimer := none }
    fbm := endFbmWork s.fbm
    sve := { s.sve with softReset := none } }

/-! ### Completion of a power-on reset (R179) -/

/-- A bay record whose insertion debounce timer starts where the module is present (R1, R179). -/
def debounceBay (present : Bool) (r : BayRec) : BayRec :=
  if present then { r with insertTimer := some Config.insertionDebounce } else r

def debounceSupply (present : Bool) (r : SupplyRec) : SupplyRec :=
  if present then { r with insertTimer := some Config.insertionDebounce } else r

def debounceFan (present : Bool) (r : FanRec) : FanRec :=
  if present then { r with insertTimer := some Config.insertionDebounce } else r

/-- Every module that is present starts its insertion debounce (R179). -/
def startDebounces (s : State) : State :=
  let s := updBays (fun b => debounceBay (Bank.read s.pins.bayPres b)) s
  let s := updPbu (fun p => { p with
    supplies := Bank.update (fun i => debounceSupply (Bank.read s.pins.psuPres i)) p.supplies }) s
  updFans (fun i => debounceFan (Bank.read s.pins.fanPres i)) s

/-- The lines with the straps as the completion reads them (R177, log 7). -/
def withStraps (straps : BitVec 4) (pins : Pins) : Pins := { pins with chn := straps }

/-- The completion of a power-on reset: every block at its reset values, the debounces, and the first
evaluation with source START (R177, R179). -/
def completePowerOn (straps : BitVec 4) (s : State) : State :=
  evaluate .start (startDebounces (resetBlocks .powerOn (withStraps straps s.pins) s.pending))

/-! ### The takeover (R180, R181) -/

/-- A bay is adopted when its module is present, its power is good and its BAY_PEN was held driven through
the reset (R180). -/
def adopts (s : State) (b : Bay) : Bool :=
  Bank.read s.pins.bayPres b && Bank.read s.pins.bayPg b && (bayRec s b).pen

/-- The record of an adopted bay (R180). -/
def adoptedRec (r : BayRec) : BayRec :=
  { r with state := .poweredOn, adopted := true, grant := Config.adoptionGrant, pen := true }

/-- The bays as the takeover leaves them: adopted, debouncing or empty (R180). -/
def takeBays (adopted present : Bay → Bool) (s : State) : State :=
  updBays (fun b r => if adopted b then adoptedRec r else debounceBay (present b) r) s

/-- BAY_CHANGE for each adopted bay (R180, R26). DEDUCED, unsafe: the rule gives no order among them, and in
rising bay number the record is left with the highest adopted bay (log 9). -/
def raiseAdopted (adopted : Bay → Bool) (s : State) : State :=
  ((List.finRange 16).filter adopted).foldl (fun t b => raise (.bayChange b) t) s

/-- The supplies that are present are taken as inserted at once, PENDING (R48, R181). -/
def takeSupply (present : Bool) (r : SupplyRec) : SupplyRec :=
  if present then { r with present := true, condition := .pending } else r

def takeFan (present : Bool) (r : FanRec) : FanRec := if present then insertedFan r else r

/-- The supplies and fans that are present are inserted at once (R181). -/
def takeModules (s : State) : State :=
  let s := updPbu (fun p => { p with
    supplies := Bank.update (fun i => takeSupply (Bank.read s.pins.psuPres i)) p.supplies }) s
  updFans (fun i => takeFan (Bank.read s.pins.fanPres i)) s

/-- The scan requests of the takeover, in the batch order of R46. -/
def takeoverBatch (adopted : Bay → Bool) (pins : Pins) : List Slot :=
  ((List.finRange 4).filter (Bank.read pins.psuPres)).map slotOfPsu
    ++ ((List.finRange 16).filter adopted).map slotOfBay
    ++ ((List.finRange 6).filter (Bank.read pins.fanPres)).map slotOfFan

/-- The adoption hold starts: flag and timer, the figures recorded, and the test at once (R85, R86). -/
def startHold (s : State) : State :=
  testHold (recordFigures (updPbu (fun p => { p with hold := true, holdTimer := some Config.holdTime }) s))

/-- The completion of a warm reset, with its takeover (R177, R180, R181). -/
def takeover (cause : ResetCause) (straps : BitVec 4) (s : State) : State :=
  let pins := withStraps straps s.pins
  let t := takeBays (adopts s) (Bank.read pins.bayPres) (resetBlocks cause pins s.pending)
  let t := takeModules (raiseAdopted (adopts s) t)
  let t := (takeoverBatch (adopts s) pins).foldl (fun t k => requestScan k t) t
  startHold (updSve (fun v => { v with adoptedCount := countFin 16 (adopts s) }) t)

/-! ### Soft reset (R175, R177) -/

/-- A soft reset begins and completes in the same event, and reads the straps as they then stand, which is a
free value (R177, log 7). -/
def softResetNow (s : State) : State :=
  let t := updPins (fun p => { p with strapReads := p.strapReads + 1 }) s
  takeover .softReset (Config.strapLevel s.pins.strapReads) (beginReset false .lineReset t)

/-- The uplink's queue holds the response of the pending soft reset (R175). -/
def awaitsReset (u : Uplink) (s : State) : Bool :=
  s.sve.softReset == some u && (queueOf s (.uplink u)).frames.any (fun c => c.kind == .resetResponse)

/-- The head copy of the port is the response of the pending soft reset (R175). -/
def headAwaitsReset (p : Port) (s : State) : Bool :=
  match p, (queueOf s p).frames with
  | .uplink u, c :: _ => s.sve.softReset == some u && c.kind == .resetResponse
  | _, _ => false

end Sys2Proof.Machine
end

