-- ==== Sys2Proof/Machine/FrameEvents.lean ====
section
/-! DEFINITION. The commands of the ports: a frame received, a transmission completed, a link report, and
the aging sweep: one meaning each. -/

namespace Sys2Proof.Machine

/-- A frame received whole on a bay port (R21, R132); in reset frames are lost (R177). -/
def execBayPortFrame (b : Bay) (f : RxFrame) (s : State) : Host.Outcome State Fault Refusal :=
  .next (whenRunning s (receiveFrame (.bay b) f s))

/-- A frame received whole on an uplink port (R132, R151); in reset frames are lost (R177). -/
def execUplinkPortFrame (u : Uplink) (f : RxFrame) (s : State) : Host.Outcome State Fault Refusal :=
  .next (whenRunning s (receiveFrame (.uplink u) f s))

/-- The head copy of a port has been sent (R158); the end of the response of a SOFT_RESET begins the reset
(R175). -/
def endTransmission (p : Port) (s : State) : State :=
  if headAwaitsReset p s then softResetNow (completeTransmission p s) else completeTransmission p s

def execTransmissionComplete (p : Port) (s : State) : Host.Outcome State Fault Refusal :=
  .next (whenRunning s (if (queueOf s p).sending then endTransmission p s else s))

/-- The aging sweep timer runs out and restarts: one sweep (R141). -/
def sweep (s : State) : State := updStb (fun t => { t with sweepTimer := some Config.sweepPeriod }) (ageStations s)

def execAgingSweepTimerExpiry (s : State) : Host.Outcome State Fault Refusal :=
  .next (whenRunning s (if s.stb.sweepTimer.isSome then sweep s else s))

/-- A link becomes UP (R148). -/
def linkComesUp (u : Uplink) (s : State) : State :=
  raise (.uplinkChange u .linkUp) (updUplink u (fun r => { r with link := true }) s)

/-- LINK_UP: the port's level moves, and a report that repeats the recorded level changes nothing more
(R148). -/
def linkUpReported (u : Uplink) (s : State) : State :=
  let t := updPins (fun p => { p with link := Bank.put p.link u true }) s
  if isRunning s && !(uplinkRec s u).link then linkComesUp u t else t

def execLinkUp (u : Uplink) (s : State) : Host.Outcome State Fault Refusal := .next (linkUpReported u s)

/-- A link becomes DOWN: the event, the flush of a usable uplink's queue, and the reset that waits for a
response in it (R148, R150, R175). -/
def linkGoesDown (u : Uplink) (s : State) : State :=
  let t := raise (.uplinkChange u .linkDown) (updUplink u (fun r => { r with link := false }) s)
  if usable s u then
    if awaitsReset u s then softResetNow (flush (.uplink u) t) else flush (.uplink u) t
  else t

/-- LINK_DOWN (R148). -/
def linkDownReported (u : Uplink) (s : State) : State :=
  let t := updPins (fun p => { p with link := Bank.put p.link u false }) s
  if isRunning s && (uplinkRec s u).link then linkGoesDown u t else t

def execLinkDown (u : Uplink) (s : State) : Host.Outcome State Fault Refusal := .next (linkDownReported u s)

end Sys2Proof.Machine
end

