-- ==== Sys2Proof/Machine/PowerEvents.lean ====
section
/-! DEFINITION. The commands of the supply lines and of the PBU's timers: one meaning each. -/

namespace Sys2Proof.Machine

/-- What a change of PSU_PRES starts or stops in the supply record (R48). -/
def supplyPresence (present : Bool) (r : SupplyRec) : SupplyRec :=
  match present, r.present with
  | true, false => { r with insertTimer := some Config.insertionDebounce }
  | true, true => { r with removeTimer := none }
  | false, false => { r with insertTimer := none }
  | false, true => { r with removeTimer := some Config.removalDebounce }

/-- PSU_PRES changes (R48, log 22). -/
def psuPresChanged (p : Psu) (present : Bool) (s : State) : State :=
  if Bank.read s.pins.psuPres p = present then s
  else
    let t := updPins (fun x => { x with psuPres := Bank.put x.psuPres p present }) s
    if isRunning s then updSupply p (supplyPresence present) t else t

def execPsuPresChange (p : Psu) (present : Bool) (s : State) : Host.Outcome State Fault Refusal :=
  .next (psuPresChanged p present s)

/-- The insertion of a supply: PENDING, a fresh scan, an evaluation (R48). -/
def insertSupply (p : Psu) (s : State) : State :=
  let t := updSupply p (fun r => { r with present := true, condition := .pending, capacity := 0, insertTimer := none }) s
  evaluate (.supply p) (requestScan (slotOfPsu p) t)

/-- The insertion debounce timer of an ABSENT supply runs out (R48). -/
def execPsuInsertionDebounceExpiry (p : Psu) (s : State) : Host.Outcome State Fault Refusal :=
  .next (whenRunning s (if (supplyRec s p).insertTimer.isSome && !(supplyRec s p).present then insertSupply p s else s))

/-- The removal of a supply: ABSENT, its slot cleared, an evaluation, and the test of the hold
(R49, R86). -/
def removeSupply (p : Psu) (s : State) : State :=
  let t := updSupply p (fun r => { r with present := false, condition := .absent, capacity := 0, removeTimer := none }) s
  testHold (evaluate (.supply p) (clearSlot (slotOfPsu p) t))

/-- The removal debounce timer of a present supply runs out (R49). -/
def execPsuRemovalDebounceExpiry (p : Psu) (s : State) : Host.Outcome State Fault Refusal :=
  .next (whenRunning s (if (supplyRec s p).removeTimer.isSome && (supplyRec s p).present then removeSupply p s else s))

/-- PSU_OK changes: the level is recorded and the condition recomputed, without debounce (R50). -/
def psuOkChanged (p : Psu) (asserted : Bool) (s : State) : State :=
  let t := updPins (fun x => { x with psuOk := Bank.put x.psuOk p asserted }) s
  if isRunning s then supplyChanged p (updSupply p (fun r => { r with psuOk := asserted }) t) else t

def execPsuOkChange (p : Psu) (asserted : Bool) (s : State) : Host.Outcome State Fault Refusal :=
  .next (psuOkChanged p asserted s)

/-- The hold timer runs out: the adoption hold ends (R86). -/
def execAdoptionHoldTimerExpiry (s : State) : Host.Outcome State Fault Refusal :=
  .next (whenRunning s (if s.pbu.hold && s.pbu.holdTimer.isSome then endHold s else s))

/-- The grace timer runs out in GRACE: a run of shedding begins, or the phase becomes EXHAUSTED (R76). -/
def endGrace (s : State) : State := beginRun (updEmg (fun e => { e with graceTimer := none }) s)

def execGraceTimerExpiry (s : State) : Host.Outcome State Fault Refusal :=
  .next (whenRunning s (if s.pbu.emg.graceTimer.isSome && s.pbu.emg.phase == .grace then endGrace s else s))

/-- The sequencer is in GAP. -/
def inGap (s : State) : Bool :=
  match s.pbu.seq with
  | .gap _ => true
  | .idle | .admitting _ | .ramp _ => false

/-- The stagger gap ends: the sequencer is IDLE and the head is evaluated (R67). -/
def endGap (s : State) : State := evaluateHead (updPbu (fun p => { p with seq := .idle, gapTimer := none }) s)

def execStaggerGapTimerExpiry (s : State) : Host.Outcome State Fault Refusal :=
  .next (whenRunning s (if s.pbu.gapTimer.isSome && inGap s then endGap s else s))

end Sys2Proof.Machine
end

