-- ==== Sys2Proof/Machine/ResetEvents.lean ====
section
/-! DEFINITION. The commands that begin and complete the resets: one meaning each (R177). -/

namespace Sys2Proof.Machine

/-- The supply rises: a power-on reset begins (R177, R178). -/
def execPowerOnResetBegin (s : State) : Host.Outcome State Fault Refusal :=
  .next (beginReset true (.powerOnReset false) s)

/-- The supply is stable: the power-on reset completes, unless RESET_N extends it (R177, log 8). -/
def supplyStable (straps : BitVec 4) (s : State) : State :=
  match s.mode with
  | .powerOnReset _ =>
    if s.pins.resetN then { s with mode := .powerOnReset true } else completePowerOn straps s
  | .running | .lineReset => s

def execPowerOnResetComplete (straps : BitVec 4) (s : State) : Host.Outcome State Fault Refusal :=
  .next (supplyStable straps s)

/-- RESET_N is asserted: a reset-line reset begins; a power-on reset is extended (R177). -/
def lineAsserted (s : State) : State :=
  let t := updPins (fun p => { p with resetN := true }) s
  match s.mode with
  | .running => beginReset false .lineReset t
  | .powerOnReset _ | .lineReset => t

def execResetNAsserted (s : State) : Host.Outcome State Fault Refusal := .next (lineAsserted s)

/-- RESET_N is released: a reset-line reset completes with its takeover, and a power-on reset whose supply
is stable completes (R177, R179, R180). -/
def lineReleased (straps : BitVec 4) (s : State) : State :=
  let t := updPins (fun p => { p with resetN := false }) s
  match s.mode with
  | .lineReset => takeover .resetLine straps t
  | .powerOnReset true => completePowerOn straps t
  | .powerOnReset false | .running => t

def execResetNReleased (straps : BitVec 4) (s : State) : Host.Outcome State Fault Refusal :=
  .next (lineReleased straps s)

end Sys2Proof.Machine
end

