-- ==== Sys2Proof/Machine/ScanEvents.lean ====
section
/-! DEFINITION. The commands that end a scan or a retry pause: one meaning each. -/

namespace Sys2Proof.Machine

/-- The sixteenth byte of the slot's scan: the image is judged (R30, R34, R35). With no scan of the slot
in flight the byte is ignored (R31). -/
def execSixteenthByteReceived (k : Slot) (image : Image) (s : State) : Host.Outcome State Fault Refusal :=
  .next (whenRunning s (if scanning s k then judgeScan k image s else s))

/-- The store left its selection or the read request unacknowledged (R30). -/
def execScanNoAnswer (k : Slot) (s : State) : Host.Outcome State Fault Refusal :=
  .next (whenRunning s (if scanning s k then scanFailed k .noAnswer (endTransaction s) else s))

/-- The scan timer runs out (R31). -/
def execScanTimerExpiry (k : Slot) (s : State) : Host.Outcome State Fault Refusal :=
  .next (whenRunning s (if scanning s k then scanFailed k .timeout (endTransaction s) else s))

/-- The slot's retry pause is over: it is queued, and an idle engine takes it (R36, R33). -/
def retryDue (k : Slot) (s : State) : State := engineTakes (queueSlot k s)

def execRetryTimerExpiry (k : Slot) (s : State) : Host.Outcome State Fault Refusal :=
  .next (whenRunning s
    (if (slotRec s k).retryTimer.isSome && (slotRec s k).stage == .retryWait then retryDue k s else s))

end Sys2Proof.Machine
end

