-- ==== Sys2Proof/Machine/Operands.lean ====
section
/-! DEFINITION. The operand forms of service requests: command codes, body lengths and bodies (R186),
the rights of a sender (R166), the names a body may give (R165 check 6), and the readings of named
values (R184). -/

namespace Sys2Proof.Machine

/-! ### Codes and bodies (R186) -/

/-- The command code of a request (R186). -/
def requestCode : Request → Nat
  | .readBay _ => 1 | .readSlot _ => 2 | .readPower => 3 | .readZone _ => 4 | .readFan _ => 5
  | .readUplink _ => 6 | .readQueue _ => 7 | .readStation _ _ => 8 | .readEvents => 9
  | .clearEvents _ => 10 | .setEventMask _ => 11 | .setAlertTarget _ _ _ => 12
  | .setBayPolicy _ _ _ _ _ _ => 13 | .loadWindow _ _ _ _ _ => 14 | .powerOn _ => 15 | .powerOff _ _ => 16
  | .setMaint _ => 17 | .clearMaint _ => 18 | .clearFault _ => 19 | .rescan _ => 20
  | .setPowerPolicy _ _ _ _ _ => 21 | .setAdmission _ => 22 | .loadCurve _ _ => 23
  | .setZone _ _ _ _ _ _ => 24 | .setFan _ _ _ _ => 25 | .setUplink _ _ _ => 26 | .setQuota _ _ => 27
  | .addStatic _ _ _ => 28 | .removeStatic _ _ => 29 | .setAging _ => 30 | .softReset => 31
  | .identifyPart => 32 | .announce _ => 33 | .thermalReport _ _ => 34 | .powerRequest => 35
  | .powerRelease => 36 | .readOwn => 37

/-- A command code names a request (R165 check 3, R186). -/
def knownCode (code : Nat) : Bool := decide (1 ≤ code ∧ code ≤ 37)

/-- The body length that a command takes, the sum of its request fields; LOAD_CURVE's depends on the
count byte of the body itself (R186). -/
def bodyLengthOf (code : Nat) (body : List Byte) : Nat :=
  match code with
  | 1 | 2 | 4 | 5 | 6 | 7 => 1
  | 8 => 3
  | 10 | 11 => 2
  | 12 => 8
  | 13 => 7
  | 14 => 5
  | 15 | 17 | 18 | 19 | 20 => 1
  | 16 => 2
  | 21 => 7
  | 22 => 1
  | 23 => 2 + 3 * (byteAt body 1).toNat
  | 24 => 9
  | 25 => 5
  | 26 => 3
  | 27 => 3
  | 28 => 9
  | 29 => 8
  | 30 => 2
  | 33 => 16
  | 34 => 2
  | _ => 0

/-- The points of a LOAD_CURVE body, three bytes each. -/
def readPoints : List Byte → List (Byte × Word16)
  | m :: hi :: lo :: rest => (m, BitVec.ofNat 16 (hi.toNat * 256 + lo.toNat)) :: readPoints rest
  | _ => []

/-- The request that a code and a body spell; none where the body's length is not the one the command
takes (R165 check 5, R186). -/
def readRequest (code : Nat) (body : List Byte) : Option Request :=
  if body.length ≠ bodyLengthOf code body then none else
  let b := byteAt body
  let w := readWord16 body
  match code with
  | 1 => some (.readBay (b 0))
  | 2 => some (.readSlot (b 0))
  | 3 => some .readPower
  | 4 => some (.readZone (b 0))
  | 5 => some (.readFan (b 0))
  | 6 => some (.readUplink (b 0))
  | 7 => some (.readQueue (b 0))
  | 8 => some (.readStation (w 0) (b 2))
  | 9 => some .readEvents
  | 10 => some (.clearEvents (w 0))
  | 11 => some (.setEventMask (w 0))
  | 12 => some (.setAlertTarget (b 0) (b 1) (readAddr body 2))
  | 13 => some (.setBayPolicy (b 0) (b 1) (w 2) (b 4) (b 5) (b 6))
  | 14 => some (.loadWindow (b 0) (b 1) (b 2) (b 3) (b 4))
  | 15 => some (.powerOn (b 0))
  | 16 => some (.powerOff (b 0) (b 1))
  | 17 => some (.setMaint (b 0))
  | 18 => some (.clearMaint (b 0))
  | 19 => some (.clearFault (b 0))
  | 20 => some (.rescan (b 0))
  | 21 => some (.setPowerPolicy (b 0) (w 1) (b 3) (w 4) (b 6))
  | 22 => some (.setAdmission (b 0))
  | 23 => some (.loadCurve (b 0) (readPoints (body.drop 2)))
  | 24 => some (.setZone (b 0) (b 1) (w 2) (w 4) (b 6) (w 7))
  | 25 => some (.setFan (b 0) (b 1) (w 2) (b 4))
  | 26 => some (.setUplink (b 0) (b 1) (b 2))
  | 27 => some (.setQuota (b 0) (w 1))
  | 28 => some (.addStatic (readAddr body 0) (b 6) (w 7))
  | 29 => some (.removeStatic (readAddr body 0) (w 6))
  | 30 => some (.setAging (w 0))
  | 31 => some .softReset
  | 32 => some .identifyPart
  | 33 => some (.announce (Bank.tab fun i => b i.val))
  | 34 => some (.thermalReport (b 0) (b 1))
  | 35 => some .powerRequest
  | 36 => some .powerRelease
  | 37 => some .readOwn
  | _ => none

/-- The body of a request as R186 lays it out. -/
def requestBody : Request → List Byte
  | .readBay bay => [bay]
  | .readSlot slot => [slot]
  | .readZone zone => [zone]
  | .readFan fan => [fan]
  | .readUplink uplink => [uplink]
  | .readQueue queue => [queue]
  | .readStation first count => encode16 first.toNat ++ [count]
  | .clearEvents classes => encode16 classes.toNat
  | .setEventMask classes => encode16 classes.toNat
  | .setAlertTarget presence uplink address => [presence, uplink] ++ encodeAddr address
  | .setBayPolicy bay priority cap uplink zone autoRestore =>
    [bay, priority] ++ encode16 cap.toNat ++ [uplink, zone, autoRestore]
  | .loadWindow bay bs cs bb cb => [bay, bs, cs, bb, cb]
  | .powerOn bay => [bay]
  | .powerOff bay form => [bay, form]
  | .setMaint bay => [bay]
  | .clearMaint bay => [bay]
  | .clearFault bay => [bay]
  | .rescan slot => [slot]
  | .setPowerPolicy redundancy baseLoad gapSteps grace stopTimeout =>
    [redundancy] ++ encode16 baseLoad.toNat ++ [gapSteps] ++ encode16 grace.toNat ++ [stopTimeout]
  | .setAdmission gate => [gate]
  | .loadCurve zone points =>
    [zone, byteOf points.length] ++ (points.map fun p => p.1 :: encode16 p.2.toNat).flatten
  | .setZone zone mode floor forced staleLimit stepDown =>
    [zone, mode] ++ encode16 floor.toNat ++ encode16 forced.toNat ++ [staleLimit] ++ encode16 stepDown.toNat
  | .setFan fan zone minRun prescale => [fan, zone] ++ encode16 minRun.toNat ++ [prescale]
  | .setUplink uplink enabled right => [uplink, enabled, right]
  | .setQuota queue quota => [queue] ++ encode16 quota.toNat
  | .addStatic address bay bladeTag => encodeAddr address ++ [bay] ++ encode16 bladeTag.toNat
  | .removeStatic address chassisTag => encodeAddr address ++ encode16 chassisTag.toNat
  | .setAging steps => encode16 steps.toNat
  | .announce image => image.toList
  | .thermalReport margin critical => [margin, critical]
  | .readPower | .readEvents | .softReset | .identifyPart | .powerRequest | .powerRelease | .readOwn => []

/-! ### Names (R165 check 6, R184) -/

def asBay (n : Byte) : Option Bay := if h : n.toNat < 16 then some ⟨n.toNat, h⟩ else none
def asSlot (n : Byte) : Option Slot := if h : n.toNat < 26 then some ⟨n.toNat, h⟩ else none
def asZone (n : Byte) : Option Zone := if h : n.toNat < 3 then some ⟨n.toNat, h⟩ else none
def asFan (n : Byte) : Option Fan := if h : n.toNat < 6 then some ⟨n.toNat, h⟩ else none
def asUplink (n : Byte) : Option Uplink := if h : n.toNat < 2 then some ⟨n.toNat, h⟩ else none

/-- A queue name: bays 0 to 15, U0 16, U1 17, SVC 18 (R184). -/
def asQueue (n : Byte) : Option QueueName :=
  if h : n.toNat < 16 then some (.egress (.bay ⟨n.toNat, h⟩))
  else if n.toNat = 16 then some (.egress (.uplink 0))
  else if n.toNat = 17 then some (.egress (.uplink 1))
  else if n.toNat = 18 then some .svc
  else none

/-- Every bay, slot, zone, fan, uplink or queue that the body names exists (R165 check 6). The uplink of
an alert target of form NONE is an absent field and names nothing (R184, log 21). -/
def namesExist : Request → Bool
  | .readBay bay | .powerOn bay | .powerOff bay _ | .setMaint bay | .clearMaint bay | .clearFault bay
  | .loadWindow bay _ _ _ _ | .addStatic _ bay _ => (asBay bay).isSome
  | .readSlot slot | .rescan slot => (asSlot slot).isSome
  | .readZone zone | .loadCurve zone _ | .setZone zone _ _ _ _ _ => (asZone zone).isSome
  | .readFan fan => (asFan fan).isSome
  | .setFan fan zone _ _ => (asFan fan).isSome && (asZone zone).isSome
  | .readUplink uplink | .setUplink uplink _ _ => (asUplink uplink).isSome
  | .readQueue queue | .setQuota queue _ => (asQueue queue).isSome
  | .setBayPolicy bay _ _ uplink zone _ => (asBay bay).isSome && (asUplink uplink).isSome && (asZone zone).isSome
  | .setAlertTarget presence uplink _ => presence != 1 || (asUplink uplink).isSome
  | .readPower | .readStation _ _ | .readEvents | .clearEvents _ | .setEventMask _ | .setPowerPolicy _ _ _ _ _
  | .setAdmission _ | .removeStatic _ _ | .setAging _ | .softReset | .identifyPart | .announce _
  | .thermalReport _ _ | .powerRequest | .powerRelease | .readOwn => true

/-! ### Rights (R166) -/

/-- The five bay requests: ANNOUNCE, THERMAL_REPORT, POWER_REQUEST, POWER_RELEASE and READ_OWN (R166). -/
def bayRequestCode (code : Nat) : Bool := decide (33 ≤ code ∧ code ≤ 37)

/-- A bay port may send the five bay requests, an uplink every other one (R166). -/
def hasRights (arrival : Port) (code : Nat) : Bool :=
  match arrival with
  | .bay _ => bayRequestCode code
  | .uplink _ => !bayRequestCode code

/-! ### Named values (R184) -/

/-- yes/no, set/clear, held/not held: 0 is the first-named value, 1 the second, and any other byte is
outside the settings (R184). -/
def asFirst (n : Byte) : Option Bool := if n = 0 then some true else if n = 1 then some false else none

def asRedundancy (n : Byte) : Option Redundancy :=
  if n = 0 then some .none else if n = 1 then some .one else if n = 2 then some .half else none

def asGate (n : Byte) : Option Gate := if n = 0 then some .opened else if n = 1 then some .closed else none

def asMode (n : Byte) : Option ZoneMode :=
  if n = 0 then some .disabled else if n = 1 then some .auto else if n = 2 then some .forced else none

/-- A set of event classes: one bit per class, the upper six bits 0 (R184). -/
def asClassSet (n : Word16) : Option (EventClass → Bool) :=
  if n.toNat < 1024 then some (fun c => n.getLsbD c.val) else none

end Sys2Proof.Machine
end

