-- ==== Sys2Proof/Machine/Reads.lean ====
section
/-! DEFINITION. The result bodies of the read requests: each record field by field in the order of its
owning rule's table, the computed fields after them (R184, R186, log 13). -/

namespace Sys2Proof.Machine

/-! ### Named values, by their position in the owning rule's list (R184) -/

def bayStateByte : BayState → Nat
  | .empty => 0 | .detected => 1 | .identifying => 2 | .standby => 3 | .waitPower => 4 | .ramping => 5
  | .poweredOn => 6 | .stopping => 7 | .fault => 8 | .maint => 9

def slotKindByte : SlotKind → Nat
  | .bay => 0 | .psu => 1 | .fan => 2

def idStatusByte : IdStatus → Nat
  | .none => 0 | .scanning => 1 | .complete => 2 | .unidentified => 3

def idSourceByte : IdSource → Nat
  | .line => 0 | .announce => 1

def scanStageByte : ScanStage → Nat
  | .idle => 0 | .queued => 1 | .inFlight => 2 | .retryWait => 3

def scanFailureByte : ScanFailure → Nat
  | .noAnswer => 0 | .timeout => 1 | .check => 2 | .format => 3 | .kind => 4 | .range => 5

def conditionByte : Condition → Nat
  | .absent => 0 | .pending => 1 | .unidentified => 2 | .notOk => 3 | .ok => 4

def redundancyByte : Redundancy → Nat
  | .none => 0 | .one => 1 | .half => 2

def phaseByte : EmgPhase → Nat
  | .none => 0 | .grace => 1 | .shedding => 2 | .exhausted => 3

/-- The sequencer's state (R63) and the bay it names, 0xFF in IDLE. -/
def sequencerBytes : Sequencer → List Byte
  | .idle => [0, 0xFF]
  | .admitting b => [1, byteOf b.val]
  | .ramp b => [2, byteOf b.val]
  | .gap b => [3, byteOf b.val]

def zoneModeByte : ZoneMode → Nat
  | .disabled => 0 | .auto => 1 | .forced => 2

def fanStateByte : FanState → Nat
  | .absent => 0 | .spinup => 1 | .running => 2 | .failed => 3

def airflowByte : Airflow → Nat
  | .normal => 0 | .noAirflow => 1

def resetCauseByte : ResetCause → Nat
  | .powerOn => 0 | .resetLine => 1 | .softReset => 2

/-! ### Bays and slots (R1, R27, R88, R122) -/

/-- The bay record in the order of R1's table. -/
def bayBytes (r : BayRec) : List Byte :=
  encode8 (bayStateByte r.state) ++ encode8 r.priority ++ encode16 r.cap ++ encode8 r.prefUplink.val
    ++ encode8 r.zone.val ++ encodeFirst r.autoRestore ++ encode16 r.grant ++ encodeFirst r.adopted
    ++ encodeFirst r.shedMark ++ encodeFirst r.critical ++ encodeFirst r.emergencyCause
    ++ encodeFirst r.airflowCause ++ encode8 r.insertions ++ encode16 r.overflows ++ encode16 r.noUplink
    ++ encode16 r.refused ++ encodeTimer r.insertTimer ++ encodeTimer r.removeTimer
    ++ encodeTimer r.rampTimer ++ encodeTimer r.stopTimer

/-- The thermal entry in the order of R88's table. -/
def thermalBytes (e : ThermalEntry) : List Byte :=
  encodeOptional 1 (e.margin.map encode8) ++ encodeFirst e.critical ++ encodeFirst e.current ++ encode16 e.age

/-- The window in the order of R122's table. -/
def windowBytes (w : Window) : List Byte := encode8 w.bs ++ encode8 w.cs ++ encode8 w.bb ++ encode8 w.cb

/-- READ_BAY (R1, R88, R122). -/
def readBayBody (s : State) (b : Bay) : List Byte :=
  bayBytes (bayRec s b) ++ thermalBytes (thermalEntry s b) ++ windowBytes (window s b)

/-- The class data of a slot kind (R27). -/
def classBytes : ClassData → List Byte
  | .bay maxPower standby => encode16 maxPower ++ encode8 standby
  | .psu capacity => encode16 capacity
  | .fan speed power ppr => encode16 speed ++ encode8 power ++ encode8 ppr

/-- The bytes that the class data of a slot kind takes. -/
def classWidth : SlotKind → Nat
  | .bay => 3
  | .psu => 2
  | .fan => 4

/-- READ_SLOT, in the order of R27's table. -/
def readSlotBody (s : State) (k : Slot) : List Byte :=
  let r := slotRec s k
  encode8 (slotKindByte (slotKind k)) ++ encodeFirst r.present ++ encode8 (idStatusByte r.status)
    ++ encodeOrNone (r.source.map idSourceByte) ++ encode8 (scanStageByte r.stage)
    ++ encodeOptional 4 (r.ident.map fun i => encode32 i.word.toNat)
    ++ encodeOptional 4 (r.ident.map fun i => encode32 i.signature.toNat)
    ++ encodeOptional (classWidth (slotKind k)) (r.ident.map fun i => classBytes i.data)
    ++ encode8 r.failures ++ encodeOrNone (r.lastFailure.map scanFailureByte) ++ encodeTimer r.retryTimer

/-- READ_OWN: as READ_BAY, then the slot's record (R168, R186). -/
def readOwnBody (s : State) (b : Bay) : List Byte := readBayBody s b ++ readSlotBody s (slotOfBay b)

/-! ### Power (R56, R71) -/

def supplyBytes (r : SupplyRec) : List Byte :=
  encodeFirst r.present ++ encodeFirst r.psuOk ++ encode8 (conditionByte r.condition) ++ encode16 r.capacity

/-- READ_POWER, in the order of R56's list. -/
def readPowerBody (s : State) : List Byte :=
  let p := s.pbu
  encode8 (redundancyByte p.policy.redundancy) ++ encode16 p.policy.baseLoad ++ encode8 p.policy.gapSteps
    ++ encode16 p.policy.grace ++ encode8 p.policy.stopTimeout
    ++ encodeFirst (p.ae == .opened) ++ encodeFirst (p.ae2 == .opened)
    ++ encode8 (phaseByte p.emg.phase) ++ encodeOrNone (p.emg.shedBay.map (·.val)) ++ encode8 p.emg.shedCount
    ++ encodeFirst p.hold
    ++ encode16 p.figures.supplySum ++ encode8 p.figures.supplyCount ++ encode16 p.figures.reserve
    ++ encode16 p.figures.available
    ++ encode16 p.figures.allocated ++ encode16 p.figures.base ++ encode16 p.figures.standby
    ++ encode16 p.figures.grants ++ encode16 p.figures.fans
    ++ ((List.finRange 4).map fun i => supplyBytes (supplyRec s i)).flatten
    ++ sequencerBytes p.seq ++ encodeList (p.waitList.map fun w => encode8 w.bay.val)

/-! ### Zones and fans (R103, R105, R109) -/

/-- READ_ZONE: the THU's part, the FDU's part, M and h (R103, R109). -/
def readZoneBody (s : State) (z : Zone) : List Byte :=
  let r := zoneRec s z
  let a := zoneAir s z
  encode8 (zoneModeByte r.mode) ++ encode16 r.floor ++ encode16 r.forced ++ encode8 r.staleLimit
    ++ encode8 r.stepDown ++ encodeList (r.curve.map fun p => encode8 p.margin ++ encode16 p.duty)
    ++ encode16 r.target ++ encode8 r.contributing ++ encode8 r.staleBays
    ++ encode16 a.compensated ++ encode16 a.applied ++ encode8 (airflowByte a.airflow)
    ++ encode8 a.assigned ++ encode8 a.turning

/-- The identity values in use of a fan, while its identity is COMPLETE (R105, R119). -/
def fanValues (s : State) (f : Fan) : Option (List Byte) :=
  if isComplete s (slotOfFan f) then (slotRec s (slotOfFan f)).ident.map fun i => classBytes i.data else none

/-- READ_FAN, in the order of R105's table, with the identity values in use. -/
def readFanBody (s : State) (f : Fan) : List Byte :=
  let r := fanRec s f
  encode8 (fanStateByte r.state) ++ encode8 r.zone.val ++ encode16 r.minRun ++ encode8 r.prescale
    ++ encode8 r.residue ++ encode16 r.count ++ encode16 r.minDuty ++ encodeTimer r.tachTimer
    ++ encodeOptional 4 (r.rpm.map encode32) ++ encode8 r.spinup ++ encode8 r.low ++ encode8 r.good
    ++ encode16 r.duty ++ encodeTimer r.insertTimer ++ encodeTimer r.removeTimer
    ++ encodeOptional 4 (fanValues s f)

/-! ### Uplinks and queues (R147, R155) -/

/-- The bays in ON whose selection names the uplink (R147, R149). DEDUCED, unsafe: in rising bay number, an
order that no rule gives (log 13). -/
def baysSelecting (s : State) (u : Uplink) : List Bay :=
  (List.finRange 16).filter fun b => bayState s b == .poweredOn && selectedUplink s b == some u

/-- READ_UPLINK (R147). -/
def readUplinkBody (s : State) (u : Uplink) : List Byte :=
  let r := uplinkRec s u
  encodeFirst r.link ++ encodeFirst r.enabled ++ encodeFirst r.right ++ encode16 r.refused
    ++ encodeFirst (usable s u) ++ encodeList ((baysSelecting s u).map fun b => encode8 b.val)

/-- READ_QUEUE: the record of R155 in the order of its table, its frames as their number, and then whether the
queue is served and the free cells of the pool (R184). DEDUCED, unsafe: the number of frames, whose range R155
does not end, takes two bytes (log 13). -/
def readQueueBody (s : State) (q : QueueName) : List Byte :=
  match q with
  | .egress p =>
    let r := queueOf s p
    encode16 r.frames.length ++ encode16 r.held ++ encode16 r.quota ++ encode32 r.enqueued
      ++ encode32 r.dropped ++ encodeFirst (served s p) ++ encode16 s.fbm.free
  | .svc =>
    let r := s.fbm.svc
    encode16 r.frames.length ++ encode16 r.held ++ encode16 Config.svcQuota ++ encode32 r.enqueued
      ++ encode32 r.dropped ++ encodeFirst false ++ encode16 s.fbm.free

/-! ### Stations (R145) -/

/-- The sixteen bytes of one place (R145, R186). DEDUCED, unsafe: of an empty place the thirteen bytes after
the flag are 0, for which no rule gives a value (log 13). -/
def placeBytes (s : State) (i : Nat) : List Byte :=
  match s.stb.places.find? (fun p => p.index == i) with
  | none => encode16 i ++ encodeFirst true ++ List.replicate 13 0
  | some p =>
    encode16 i ++ encodeFirst false ++ encodeAddr p.entry.address ++ encode16 p.entry.chassisTag
      ++ encode8 p.entry.bay.val ++ encode16 p.entry.bladeTag
      ++ (match p.entry.kind with
          | .dynamic idle => encode8 0 ++ encode8 idle
          | .fixed => encode8 1 ++ encodeFirst (dormant s p.entry))

/-- The indexes that READ_STATION returns: from the first upward, stopping after 1023 (R145). -/
def stationIndexes (first count : Nat) : List Nat :=
  (List.range' first (clamp 1 16 count)).filter (· < Config.stationPlaces)

/-- READ_STATION (R145); the aging time in s. -/
def readStationBody (s : State) (first count : Nat) : List Byte :=
  encodeList ((stationIndexes first count).map (placeBytes s)) ++ encode16 s.stb.places.length
    ++ encode32 s.stb.learnMiss ++ encode16 (s.stb.agingSteps * 10)

/-! ### Events and the part (R170, R172, R174) -/

/-- The cause of a class that is both set and unmasked (R170). -/
def reportedCause (s : State) (c : EventClass) : Option Cause :=
  if (flagRec s c).raised && Bank.read s.sve.unmasked c then (flagRec s c).cause else none

/-- READ_EVENTS: the records in class order, then the alert target (R170, R185). -/
def readEventsBody (s : State) : List Byte :=
  encodeList (((List.finRange 10).filterMap (reportedCause s)).map eventRecord)
    ++ encodeOptional 7 (s.sve.alertTarget.map fun t => encode8 t.1.val ++ encodeAddr t.2)

/-- IDENTIFY_PART (R174). -/
def identifyBody (s : State) : List Byte :=
  encode16 Config.partCode ++ encode8 Config.partRevision ++ encode8 s.sve.chassisNumber.toNat
    ++ encode8 (resetCauseByte s.sve.resetCause) ++ encode8 s.sve.adoptedCount

end Sys2Proof.Machine
end

