-- ==== Sys2Proof/Machine/Requests.lean ====
section
/-! DEFINITION. What each service request does and answers, by the rule of the block that owns its state:
one definition for each of the 37 requests of R186. -/

namespace Sys2Proof.Machine

/-- What a request comes to: the state after its effect, the status and result body of its response, and
the kind of copy that carries it (R167). -/
structure Reply where
  state : State
  status : Status
  body : List Byte
  copy : CopyKind
  deriving DecidableEq, Repr

/-- A request that answers this status without a result body, leaving the state `s`. -/
def answered (status : Status) (s : State) : Reply := { state := s, status := status, body := [], copy := .response }

/-- A read that answers OK with its result. -/
def result (body : List Byte) (s : State) : Reply := { state := s, status := .ok, body := body, copy := .response }

/-- A request that names something by a byte: BAD_ARG where it does not exist (R165 check 6). -/
def named {α : Type} (n : Option α) (s : State) (f : α → Reply) : Reply :=
  match n with
  | some x => f x
  | none => answered .badArg s

/-- One of the five bay requests, which act on the arrival bay (R166). -/
def forArrivalBay (e : Envelope) (s : State) (f : Bay → Reply) : Reply :=
  match e.arrival with
  | .bay b => f b
  | .uplink _ => answered .denied s

/-! ### Reads -/

def replyReadBay (bay : Byte) (s : State) : Reply := named (asBay bay) s fun b => result (readBayBody s b) s

def replyReadSlot (slot : Byte) (s : State) : Reply := named (asSlot slot) s fun k => result (readSlotBody s k) s

def replyReadPower (s : State) : Reply := result (readPowerBody s) s

def replyReadZone (zone : Byte) (s : State) : Reply := named (asZone zone) s fun z => result (readZoneBody s z) s

def replyReadFan (fan : Byte) (s : State) : Reply := named (asFan fan) s fun f => result (readFanBody s f) s

def replyReadUplink (uplink : Byte) (s : State) : Reply :=
  named (asUplink uplink) s fun u => result (readUplinkBody s u) s

def replyReadQueue (queue : Byte) (s : State) : Reply := named (asQueue queue) s fun q => result (readQueueBody s q) s

/-- READ_STATION refuses a first index above 1023 (R145). -/
def replyReadStation (first : Word16) (count : Byte) (s : State) : Reply :=
  if Config.stationPlaces ≤ first.toNat then answered .badArg s
  else result (readStationBody s first.toNat count.toNat) s

def replyReadEvents (s : State) : Reply := result (readEventsBody s) s

def replyIdentifyPart (s : State) : Reply := result (identifyBody s) s

def replyReadOwn (e : Envelope) (s : State) : Reply := forArrivalBay e s fun b => result (readOwnBody s b) s

/-! ### Events (R170, R171, R172) -/

/-- The named flags are cleared and their records emptied (R171). -/
def clearFlags (classes : EventClass → Bool) (v : Sve) : Sve :=
  { v with flags := Bank.update (fun c r => if classes c then { raised := false, cause := none } else r) v.flags }

def replyClearEvents (classes : Word16) (s : State) : Reply :=
  named (asClassSet classes) s fun f => answered .ok (updSve (clearFlags f) s)

/-- The mask is replaced by the set of classes to be unmasked (R170). -/
def replySetEventMask (classes : Word16) (s : State) : Reply :=
  named (asClassSet classes) s fun f => answered .ok (updSve (fun v => { v with unmasked := Bank.tab f }) s)

/-- SET_ALERT_TARGET: form NONE or an uplink and an address (R172, log 21). -/
def replySetAlertTarget (presence uplink : Byte) (address : Addr) (s : State) : Reply :=
  if presence = 0 then answered .ok (updSve (fun v => { v with alertTarget := none }) s)
  else if presence = 1 then
    named (asUplink uplink) s fun u =>
      answered .ok (updSve (fun v => { v with alertTarget := some (u, address) }) s)
  else answered .badArg s

/-! ### Bays -/

/-- SET_BAY_POLICY (R23). -/
def replySetBayPolicy (bay priority : Byte) (cap : Word16) (uplink zone autoRestore : Byte) (s : State) : Reply :=
  named (asBay bay) s fun b => named (asUplink uplink) s fun u => named (asZone zone) s fun z =>
    named (asFirst autoRestore) s fun restore =>
      answered .ok (setBayPolicy b priority.toNat cap.toNat u z restore s)

/-- The five checks of a window, after the bay's (R123). -/
def windowValid (w : Window) : Bool :=
  decide (w.bs ≤ 16 ∧ w.cs ≤ 16 ∧ w.bs ≤ w.cs ∧ w.bb ≤ 63 ∧ w.cb ≤ 63)

/-- A LOAD_WINDOW that passes its checks (R124). -/
def loadWindow (b : Bay) (w : Window) (s : State) : State := recomputeStatics b (purge b (updWindow b w s))

def replyLoadWindow (bay bs cs bb cb : Byte) (s : State) : Reply :=
  named (asBay bay) s fun b =>
    let w : Window := { bs := bs.toNat, cs := cs.toNat, bb := bb.toNat, cb := cb.toNat }
    if windowValid w then answered .ok (loadWindow b w s) else answered .badArg s

/-- POWER_ON and POWER_REQUEST at a bay (R6). -/
def askPower (b : Bay) (s : State) : Reply :=
  if bayState s b = .standby then
    if isComplete s (slotOfBay b) then answered .queued (requestPower b s) else answered .noIdentity s
  else answered .badState s

def replyPowerOn (bay : Byte) (s : State) : Reply := named (asBay bay) s fun b => askPower b s

/-- POWER_OFF FORCED at a bay (R13). -/
def powerOffForced (b : Bay) (s : State) : Reply :=
  match bayState s b with
  | .poweredOn | .stopping | .ramping | .waitPower => answered .ok (forceOff b s)
  | .empty | .detected | .identifying | .standby | .fault | .maint => answered .badState s

/-- POWER_OFF GRACEFUL at a bay (R11). -/
def powerOffGraceful (b : Bay) (s : State) : Reply :=
  match bayState s b with
  | .poweredOn => answered .ok (beginStop b s)
  | .stopping => answered .ok s
  | .ramping | .waitPower => powerOffForced b s
  | .empty | .detected | .identifying | .standby | .fault | .maint => answered .badState s

def replyPowerOff (bay form : Byte) (s : State) : Reply :=
  named (asBay bay) s fun b =>
    if form = 0 then powerOffGraceful b s else if form = 1 then powerOffForced b s else answered .badArg s

/-- SET_MAINT (R18). -/
def replySetMaint (bay : Byte) (s : State) : Reply :=
  named (asBay bay) s fun b =>
    match bayState s b with
    | .empty => answered .badState s
    | .maint => answered .ok s
    | .detected | .identifying | .standby | .waitPower | .ramping | .poweredOn | .stopping | .fault =>
      answered .ok (isolate b s)

/-- CLEAR_MAINT (R19). -/
def replyClearMaint (bay : Byte) (s : State) : Reply :=
  named (asBay bay) s fun b =>
    if bayState s b = .maint then answered .ok (enterDetected b s) else answered .badState s

/-- CLEAR_FAULT (R15). -/
def replyClearFault (bay : Byte) (s : State) : Reply :=
  named (asBay bay) s fun b =>
    if bayState s b = .fault then answered .ok (enterState b (standbyState s b) s) else answered .badState s

def replyPowerRequest (e : Envelope) (s : State) : Reply := forArrivalBay e s fun b => askPower b s

/-- POWER_RELEASE (R12, R13). -/
def replyPowerRelease (e : Envelope) (s : State) : Reply :=
  forArrivalBay e s fun b =>
    match bayState s b with
    | .poweredOn => answered .ok (forceOff b s)
    | .stopping => answered .ok (endStop b s)
    | .empty | .detected | .identifying | .standby | .waitPower | .ramping | .fault | .maint =>
      answered .badState s

/-! ### Slots (R42, R43) -/

/-- The slot's bay is in MAINT. -/
def slotInMaint (s : State) (k : Slot) : Bool :=
  match slotOwner k with
  | .bay b => bayState s b == .maint
  | .psu _ | .fan _ => false

/-- RESCAN (R42). -/
def replyRescan (slot : Byte) (s : State) : Reply :=
  named (asSlot slot) s fun k =>
    if (slotRec s k).present && !slotInMaint s k then answered .accepted (requestScan k s)
    else answered .badState s

/-- ANNOUNCE (R43). -/
def replyAnnounce (e : Envelope) (image : Image) (s : State) : Reply :=
  forArrivalBay e s fun b =>
    if (slotRec s (slotOfBay b)).source = some .announce then
      match judgeImage .bay image with
      | .ok ident => answered .ok (acceptAnnounce (slotOfBay b) ident s)
      | .error _ => answered .badArg s
    else answered .badState s

/-! ### Power (R55, R57) -/

/-- The policy as stored, out-of-range values clamped (R55). -/
def storedPolicy (r : Redundancy) (baseLoad gapSteps grace stopTimeout : Nat) : PowerPolicy :=
  { redundancy := r, baseLoad := min baseLoad 500, gapSteps := min gapSteps 20, grace := clamp 100 1000 grace,
    stopTimeout := clamp 1 60 stopTimeout }

/-- SET_POWER_POLICY (R55). -/
def replySetPowerPolicy (redundancy : Byte) (baseLoad : Word16) (gapSteps : Byte) (grace : Word16)
    (stopTimeout : Byte) (s : State) : Reply :=
  named (asRedundancy redundancy) s fun r =>
    let policy := storedPolicy r baseLoad.toNat gapSteps.toNat grace.toNat stopTimeout.toNat
    answered .ok (evaluate .policy (updPbu (fun p => { p with policy := policy }) s))

/-- The gate takes a value, or its saved copy during an emergency (R57, R84). -/
def setGate (g : Gate) (s : State) : State :=
  if s.pbu.emg.phase = .none then
    let t := updPbu (fun p => { p with ae := g }) s
    if s.pbu.ae = .closed ∧ g = .opened then evaluateHead t else t
  else updPbu (fun p => { p with ae2 := g }) s

def replySetAdmission (gate : Byte) (s : State) : Reply :=
  named (asGate gate) s fun g => answered .ok (setGate g s)

/-! ### Zones and fans (R89, R93, R94, R95, R114) -/

/-- The points of a LOAD_CURVE as numbers. -/
def curvePoints (points : List (Byte × Word16)) : List CurvePoint :=
  points.map fun p => { margin := p.1.toNat, duty := min p.2.toNat Config.fullDuty }

/-- Strictly ascending margins (R95). -/
def ascending : List CurvePoint → Bool
  | p :: q :: rest => decide (p.margin < q.margin) && ascending (q :: rest)
  | _ => true

/-- 2 to 8 points in strictly ascending order of margin (R95). -/
def curveValid (curve : List CurvePoint) : Bool :=
  decide (2 ≤ curve.length ∧ curve.length ≤ 8) && ascending curve

def replyLoadCurve (zone : Byte) (points : List (Byte × Word16)) (s : State) : Reply :=
  named (asZone zone) s fun z =>
    if curveValid (curvePoints points) then
      answered .ok (updZone z (fun r => { r with curve := curvePoints points }) s)
    else answered .badArg s

/-- The stale limits that SET_ZONE takes, in s (R93). -/
def staleLimitValid (n : Nat) : Bool := n == 2 || n == 4 || n == 8 || n == 16

/-- The five fields of SET_ZONE as stored (R93). -/
def zoneSettings (mode : ZoneMode) (floor forced staleLimit stepDown : Nat) (r : ZoneRec) : ZoneRec :=
  { r with mode := mode, floor := min floor Config.fullDuty, forced := min forced Config.fullDuty,
           staleLimit := staleLimit, stepDown := clamp 5 100 stepDown }

/-- A zone set DISABLED is driven at full duty at once (R94). -/
def disableZone (z : Zone) (s : State) : State :=
  driveZone z (updZone z (fun r => { r with target := Config.fullDuty }) s)

/-- A SET_ZONE that passes its checks (R93, R94). -/
def setZone (z : Zone) (mode : ZoneMode) (floor forced staleLimit stepDown : Nat) (s : State) : State :=
  let t := updZone z (zoneSettings mode floor forced staleLimit stepDown) s
  if mode = .disabled then disableZone z t else t

def replySetZone (zone mode : Byte) (floor forced : Word16) (staleLimit : Byte) (stepDown : Word16) (s : State) :
    Reply :=
  named (asZone zone) s fun z => named (asMode mode) s fun m =>
    if !staleLimitValid staleLimit.toNat then answered .badArg s
    else if m = .auto ∧ (zoneRec s z).curve = [] then answered .badState s
    else answered .ok (setZone z m floor.toNat forced.toNat staleLimit.toNat stepDown.toNat s)

/-- A fan's record after SET_FAN, with its zone's applied value (R114). -/
def setFanRec (z : Zone) (minRun prescale applied : Nat) (r : FanRec) : FanRec :=
  let t := setDuty (fanDuty applied minRun) { r with zone := z, minRun := minRun, prescale := prescale }
  { t with residue := 0, count := 0, minDuty := t.duty,
           tachTimer := if t.state = .absent then t.tachTimer else some Config.tachPeriod }

/-- The prescales that SET_FAN takes (R114). -/
def prescaleValid (n : Nat) : Bool := n == 1 || n == 2 || n == 4 || n == 8

/-- SET_FAN (R114). -/
def replySetFan (fan zone : Byte) (minRun : Word16) (prescale : Byte) (s : State) : Reply :=
  named (asFan fan) s fun f => named (asZone zone) s fun z =>
    if prescaleValid prescale.toNat then
      answered .ok (updFan f (setFanRec z (min minRun.toNat 500) prescale.toNat (zoneAir s z).applied) s)
    else answered .badArg s

/-- An accepted report (R89). -/
def acceptReport (b : Bay) (margin : Nat) (critical : Bool) (s : State) : State :=
  updBay b (fun r => { r with critical := critical })
    (updThermal b (fun _ => { margin := some margin, critical := critical, current := true, age := 0 }) s)

/-- THERMAL_REPORT (R89). -/
def replyThermalReport (e : Envelope) (margin critical : Byte) (s : State) : Reply :=
  forArrivalBay e s fun b => named (asFirst critical) s fun c =>
    if isUp (bayState s b) then answered .ok (acceptReport b margin.toNat c s) else answered .badState s

/-! ### Uplinks and queues (R152, R153, R161) -/

/-- A SET_UPLINK that passes its checks (R153). -/
def setUplink (u : Uplink) (enabled right : Bool) (s : State) : State :=
  let r := uplinkRec s u
  if r.enabled = enabled ∧ r.right = right then s
  else
    let t := changeUplink u (fun r => { r with enabled := enabled, right := right }) s
    raise (.uplinkChange u .setting) (if r.right && !right then barWaiting u t else t)

/-- SET_UPLINK (R152). -/
def replySetUplink (e : Envelope) (uplink enabled right : Byte) (s : State) : Reply :=
  named (asUplink uplink) s fun u => named (asFirst enabled) s fun en => named (asFirst right) s fun ri =>
    if e.arrival = .uplink u ∧ ¬(en = true ∧ ri = true) then answered .selfCut s
    else answered .ok (setUplink u en ri s)

/-- A quota written (R161). -/
def setQuota (p : Port) (quota : Nat) (s : State) : State :=
  putQueue p { queueOf s p with quota := quota } s

/-- A quota that would cut the management path: too small for a response on the arrival uplink (R161). -/
def cutsSelf (arrival p : Port) (cells : Nat) : Bool :=
  match p with
  | .uplink _ => p == arrival && decide (cells < Config.leastResponseQuota)
  | .bay _ => false

/-- SET_QUOTA (R161). -/
def replySetQuota (e : Envelope) (queue : Byte) (quota : Word16) (s : State) : Reply :=
  match asQueue queue with
  | some (.egress p) =>
    let cells := min quota.toNat Config.poolCells
    if cutsSelf e.arrival p cells then answered .selfCut s
    else answered .ok (setQuota p cells s)
  | some .svc | none => answered .badArg s

/-! ### Stations (R142, R143, R144) -/

/-- The STATIC entry of an ADD_STATIC. -/
def staticEntry (a : Addr) (c : Nat) (b : Bay) (t : Nat) : StationEntry :=
  { address := a, chassisTag := c, bay := b, bladeTag := t, kind := .fixed }

/-- The answer OK of ADD_STATIC: the entry's index and the chassis tag (R143). -/
def addedStatic (i c : Nat) (s : State) : Reply := result (encode16 i ++ encode16 c) s

/-- ADD_STATIC acts on the key (address, c) (R143). -/
def addStatic (a : Addr) (b : Bay) (t c : Nat) (s : State) : Reply :=
  match findStation s a c with
  | some p => addedStatic p.index c (writePlace p.index (staticEntry a c b t) s)
  | none =>
    match lowestEmpty s with
    | some i => addedStatic i c (updPlaces (insertPlace { index := i, entry := staticEntry a c b t }) s)
    | none => answered .full s

/-- ADD_STATIC (R143). -/
def replyAddStatic (address : Addr) (bay : Byte) (bladeTag : Word16) (s : State) : Reply :=
  named (asBay bay) s fun b =>
    if 4095 < bladeTag.toNat ∨ isGroup address then answered .badArg s
    else named (forwardTag (window s b) bladeTag.toNat) s fun c => addStatic address b bladeTag.toNat c s

/-- REMOVE_STATIC (R144). -/
def replyRemoveStatic (address : Addr) (chassisTag : Word16) (s : State) : Reply :=
  match findStation s address chassisTag.toNat with
  | some p => if isDynamic p.entry then answered .badState s else answered .ok (emptyPlace p.index s)
  | none => answered .badState s

/-- SET_AGING (R142). -/
def replySetAging (steps : Word16) (s : State) : Reply :=
  answered .ok (updStb (fun t => { t with agingSteps := clamp 1 255 steps.toNat }) s)

/-! ### The part (R175) -/

/-- SOFT_RESET answers OK; the copy of its response is marked (R175). -/
def replySoftReset (s : State) : Reply := { state := s, status := .ok, body := [], copy := .resetResponse }

/-! ### All of them -/

/-- A request that has passed the six checks is carried out by its owning block (R165, section 11.4). -/
def carryOut (e : Envelope) (r : Request) (s : State) : Reply :=
  match r with
  | .readBay bay => replyReadBay bay s
  | .readSlot slot => replyReadSlot slot s
  | .readPower => replyReadPower s
  | .readZone zone => replyReadZone zone s
  | .readFan fan => replyReadFan fan s
  | .readUplink uplink => replyReadUplink uplink s
  | .readQueue queue => replyReadQueue queue s
  | .readStation first count => replyReadStation first count s
  | .readEvents => replyReadEvents s
  | .clearEvents classes => replyClearEvents classes s
  | .setEventMask classes => replySetEventMask classes s
  | .setAlertTarget presence uplink address => replySetAlertTarget presence uplink address s
  | .setBayPolicy bay priority cap uplink zone autoRestore =>
    replySetBayPolicy bay priority cap uplink zone autoRestore s
  | .loadWindow bay bs cs bb cb => replyLoadWindow bay bs cs bb cb s
  | .powerOn bay => replyPowerOn bay s
  | .powerOff bay form => replyPowerOff bay form s
  | .setMaint bay => replySetMaint bay s
  | .clearMaint bay => replyClearMaint bay s
  | .clearFault bay => replyClearFault bay s
  | .rescan slot => replyRescan slot s
  | .setPowerPolicy redundancy baseLoad gapSteps grace stopTimeout =>
    replySetPowerPolicy redundancy baseLoad gapSteps grace stopTimeout s
  | .setAdmission gate => replySetAdmission gate s
  | .loadCurve zone points => replyLoadCurve zone points s
  | .setZone zone mode floor forced staleLimit stepDown =>
    replySetZone zone mode floor forced staleLimit stepDown s
  | .setFan fan zone minRun prescale => replySetFan fan zone minRun prescale s
  | .setUplink uplink enabled right => replySetUplink e uplink enabled right s
  | .setQuota queue quota => replySetQuota e queue quota s
  | .addStatic address bay bladeTag => replyAddStatic address bay bladeTag s
  | .removeStatic address chassisTag => replyRemoveStatic address chassisTag s
  | .setAging steps => replySetAging steps s
  | .softReset => replySoftReset s
  | .identifyPart => replyIdentifyPart s
  | .announce image => replyAnnounce e image s
  | .thermalReport margin critical => replyThermalReport e margin critical s
  | .powerRequest => replyPowerRequest e s
  | .powerRelease => replyPowerRelease e s
  | .readOwn => replyReadOwn e s

end Sys2Proof.Machine
end

