-- ==== Sys2Proof/Machine/Service.lean ====
section
/-! DEFINITION. The Service Engine: readiness, the test of the arrival port, the six checks, the
response, the soft reset that begins with the loss of its response, and the arrival and the taking of a request
(R157, R163 to R168, R175). -/

namespace Sys2Proof.Machine

/-- The SVE is ready for a request: out of reset, with no soft reset pending (R157, R175, R177). -/
def serviceReady (s : State) : Bool := isRunning s && s.sve.softReset.isNone

/-- The arrival port as it stands at the take refuses the request: its bay is in EMPTY or MAINT, or its
uplink is not enabled or holds no right (R164). -/
def portRefuses (s : State) (p : Port) : Bool :=
  match p with
  | .bay b => !accepting (bayState s b)
  | .uplink u => !((uplinkRec s u).enabled && (uplinkRec s u).right)

/-- The frame is refused at its take: its port refuses it as it stands then (R164), or its uplink lost the management
right while it waited (R153). DEDUCED, unsafe: such a frame stays refused where the right has been given back, by R153
against R164, which tests the port as it stands at the take; and it is counted at its take, as R164 counts (log 32). -/
def frameRefused (s : State) (f : SvcFrame) : Bool := f.barred || portRefuses s f.arrival

/-! ### Responses (R167, R183) -/

/-- The response to a request: addresses, tag, header and result (R167). -/
def responseCopy (e : Envelope) (code : Nat) (r : Reply) : Copy :=
  { kind := r.copy, tag := e.tag.toNat,
    bytes := serviceBytes e.source (serviceAddress r.state.sve.chassisNumber) e.tag.toNat kindResponse code
      (statusCode r.status) e.requestTag.toNat r.body }

/-- The response of a SOFT_RESET: offered, whereupon a soft reset is pending, or begins at once where the
response is dropped (R175). -/
def offerAndReset (u : Uplink) (c : Copy) (s : State) : State :=
  let t := offer (.uplink u) c s
  if offerVerdict (.uplink u) c s = .admitted then updSve (fun v => { v with softReset := some u }) t
  else softResetNow t

/-- The response is offered to the egress queue of the arrival port (R167, R175). -/
def respond (e : Envelope) (code : Nat) (r : Reply) : State :=
  let c := responseCopy e code r
  match r.copy, e.arrival with
  | .resetResponse, .uplink u => offerAndReset u c r.state
  | _, p => offer p c r.state

/-! ### The checks (R165, R166) -/

/-- No rights: DENIED, counted for a bay (R166). -/
def denied (e : Envelope) (s : State) : Reply :=
  match e.arrival with
  | .bay b => answered .denied (countRefused (.bay b) s)
  | .uplink _ => answered .denied s

/-- Checks 4 and 6, and the request itself (R165). -/
def reply (e : Envelope) (r : Request) (s : State) : Reply :=
  if !hasRights e.arrival (requestCode r) then denied e s
  else if !namesExist r then answered .badArg s
  else carryOut e r s

/-- A request is taken: the arrival port's test, the checks, the effect and the response, in one event
(R164). -/
def serve (e : Envelope) (r : Request) (s : State) : State :=
  if portRefuses s e.arrival then countRefused e.arrival s else respond e (requestCode r) (reply e r s)

/-! ### Frames (R163, R165) -/

/-- What a service frame carries beside its body (R163, R183). -/
def envelopeOf (f : SvcFrame) : Envelope :=
  { arrival := f.arrival, source := frameSrc f.frame, tag := BitVec.ofNat 14 (frameTag f.arrival f.frame),
    requestTag := headerTag f.frame }

/-- Checks 3, 4 and 5 of a frame of kind REQUEST, then check 6 and the request (R165). -/
def replyFrame (f : SvcFrame) (s : State) : Reply :=
  let code := headerCode f.frame
  if !knownCode code then answered .unknownCommand s
  else if !hasRights f.arrival code then denied (envelopeOf f) s
  else
    match readRequest code (frameBody f.frame) with
    | none => answered .length s
    | some r => reply (envelopeOf f) r s

/-- A service frame is taken, whatever it holds (R164, R165). DEDUCED, unsafe: a frame of kind RESPONSE or ALERT
that fails check 1 is answered LENGTH, by the order of R165's table and R184 against R165's "never answered"
(log 31). -/
def serveFrame (f : SvcFrame) (s : State) : State :=
  if frameRefused s f then countRefused f.arrival s
  else if headerVersion f.frame ≠ 1 ∨ lengthAgrees f.frame = false then
    respond (envelopeOf f) (headerCode f.frame) (answered .length s)
  else if headerKind f.frame ≠ kindRequest then countRefused f.arrival s
  else respond (envelopeOf f) (headerCode f.frame) (replyFrame f s)

/-- The frame spells the request, with this envelope, and R153 has not barred it. -/
def spells (f : SvcFrame) (e : Envelope) (r : Request) : Bool :=
  !f.barred && envelopeOf f == e && headerVersion f.frame == 1 && lengthAgrees f.frame
    && headerKind f.frame == kindRequest && headerCode f.frame == requestCode r
    && readRequest (headerCode f.frame) (frameBody f.frame) == some r

/-- The frame that carries a request to the part (R163, R182 to R184). -/
def frameOfRequest (e : Envelope) (r : Request) (s : State) : RxFrame :=
  { checkOk := true
    bytes := copyWire { kind := .forwarded, tag := e.tag.toNat,
                        bytes := serviceBytes (serviceAddress s.sve.chassisNumber) e.source e.tag.toNat kindRequest
                          (requestCode r) 0 e.requestTag.toNat (requestBody r) } }

/-! ### The take (R157, R164) -/

/-- The request of a command is the one that stands at the head of the service input queue. -/
def headSpells (e : Envelope) (r : Request) (s : State) : Bool :=
  match s.fbm.svc.frames with
  | [] => false
  | f :: _ => spells f e r

/-- The frame of a request command reaches its port and the service input queue, which admits or drops it (R21,
R151, R157); where it stands there alone and the SVE is ready, the SVE takes it in the same event (log 4). -/
def requestArrives (e : Envelope) (r : Request) (s : State) : State :=
  let t := receiveFrame e.arrival (frameOfRequest e r s) s
  if serviceReady s && s.fbm.svc.frames.isEmpty && !t.fbm.svc.frames.isEmpty then serve e r (svcPop t) else t

/-- A request command: the SVE, when ready, takes this request where it stands at the head of the service input
queue; otherwise its frame arrives. DESIGN CHOICE, unsafe: how the rows named after requests meet the service input
queue (log 4). -/
def serveCommand (e : Envelope) (r : Request) (s : State) : State :=
  if serviceReady s && headSpells e r s then serve e r (svcPop s) else whenRunning s (requestArrives e r s)

/-- The SVE, when ready, takes the head of the service input queue (R157, R164). -/
def takeFrame (s : State) : State :=
  if serviceReady s then
    match s.fbm.svc.frames with
    | [] => s
    | f :: _ => serveFrame f (svcPop s)
  else s

end Sys2Proof.Machine
end

