-- ==== Sys2Proof/Machine/ServiceCommands.lean ====
section
/-! DEFINITION. The commands of the service requests: each is the arrival of that request's frame and its taking by
the SVE (R157, R164, log 4), and SERVICE_FRAME_TAKEN the taking of whatever stands at the head of the service input
queue. -/

namespace Sys2Proof.Machine

/-- READ_BAY arrives and is taken (R1, R88, R122). -/
def execReadBay (e : Envelope) (bay : Byte) (s : State) : Host.Outcome State Fault Refusal :=
  .next (serveCommand e (.readBay bay) s)

/-- READ_SLOT arrives and is taken (R27). -/
def execReadSlot (e : Envelope) (slot : Byte) (s : State) : Host.Outcome State Fault Refusal :=
  .next (serveCommand e (.readSlot slot) s)

/-- READ_POWER arrives and is taken (R56, R71). -/
def execReadPower (e : Envelope) (s : State) : Host.Outcome State Fault Refusal :=
  .next (serveCommand e .readPower s)

/-- READ_ZONE arrives and is taken (R103, R109). -/
def execReadZone (e : Envelope) (zone : Byte) (s : State) : Host.Outcome State Fault Refusal :=
  .next (serveCommand e (.readZone zone) s)

/-- READ_FAN arrives and is taken (R105). -/
def execReadFan (e : Envelope) (fan : Byte) (s : State) : Host.Outcome State Fault Refusal :=
  .next (serveCommand e (.readFan fan) s)

/-- READ_UPLINK arrives and is taken (R147). -/
def execReadUplink (e : Envelope) (uplink : Byte) (s : State) : Host.Outcome State Fault Refusal :=
  .next (serveCommand e (.readUplink uplink) s)

/-- READ_QUEUE arrives and is taken (R155). -/
def execReadQueue (e : Envelope) (queue : Byte) (s : State) : Host.Outcome State Fault Refusal :=
  .next (serveCommand e (.readQueue queue) s)

/-- READ_STATION arrives and is taken (R145). -/
def execReadStation (e : Envelope) (first : Word16) (count : Byte) (s : State) :
    Host.Outcome State Fault Refusal :=
  .next (serveCommand e (.readStation first count) s)

/-- READ_EVENTS arrives and is taken (R170). -/
def execReadEvents (e : Envelope) (s : State) : Host.Outcome State Fault Refusal :=
  .next (serveCommand e .readEvents s)

/-- CLEAR_EVENTS arrives and is taken (R171). -/
def execClearEvents (e : Envelope) (classes : Word16) (s : State) : Host.Outcome State Fault Refusal :=
  .next (serveCommand e (.clearEvents classes) s)

/-- SET_EVENT_MASK arrives and is taken (R170). -/
def execSetEventMask (e : Envelope) (classes : Word16) (s : State) : Host.Outcome State Fault Refusal :=
  .next (serveCommand e (.setEventMask classes) s)

/-- SET_ALERT_TARGET arrives and is taken (R172). -/
def execSetAlertTarget (e : Envelope) (presence uplink : Byte) (address : Addr) (s : State) :
    Host.Outcome State Fault Refusal :=
  .next (serveCommand e (.setAlertTarget presence uplink address) s)

/-- SET_BAY_POLICY arrives and is taken (R23). -/
def execSetBayPolicy (e : Envelope) (bay priority : Byte) (cap : Word16) (uplink zone autoRestore : Byte) (s : State) :
    Host.Outcome State Fault Refusal :=
  .next (serveCommand e (.setBayPolicy bay priority cap uplink zone autoRestore) s)

/-- LOAD_WINDOW arrives and is taken (R123, R124). -/
def execLoadWindow (e : Envelope) (bay bs cs bb cb : Byte) (s : State) : Host.Outcome State Fault Refusal :=
  .next (serveCommand e (.loadWindow bay bs cs bb cb) s)

/-- POWER_ON arrives and is taken (R6). -/
def execPowerOn (e : Envelope) (bay : Byte) (s : State) : Host.Outcome State Fault Refusal :=
  .next (serveCommand e (.powerOn bay) s)

/-- POWER_OFF GRACEFUL arrives and is taken (R11). -/
def execPowerOffGraceful (e : Envelope) (bay : Byte) (s : State) : Host.Outcome State Fault Refusal :=
  .next (serveCommand e (.powerOff bay 0) s)

/-- POWER_OFF FORCED arrives and is taken (R13). -/
def execPowerOffForced (e : Envelope) (bay : Byte) (s : State) : Host.Outcome State Fault Refusal :=
  .next (serveCommand e (.powerOff bay 1) s)

/-- SET_MAINT arrives and is taken (R18). -/
def execSetMaint (e : Envelope) (bay : Byte) (s : State) : Host.Outcome State Fault Refusal :=
  .next (serveCommand e (.setMaint bay) s)

/-- CLEAR_MAINT arrives and is taken (R19). -/
def execClearMaint (e : Envelope) (bay : Byte) (s : State) : Host.Outcome State Fault Refusal :=
  .next (serveCommand e (.clearMaint bay) s)

/-- CLEAR_FAULT arrives and is taken (R15). -/
def execClearFault (e : Envelope) (bay : Byte) (s : State) : Host.Outcome State Fault Refusal :=
  .next (serveCommand e (.clearFault bay) s)

/-- RESCAN arrives and is taken (R42). -/
def execRescan (e : Envelope) (slot : Byte) (s : State) : Host.Outcome State Fault Refusal :=
  .next (serveCommand e (.rescan slot) s)

/-- SET_POWER_POLICY arrives and is taken (R55). -/
def execSetPowerPolicy (e : Envelope) (redundancy : Byte) (baseLoad : Word16) (gapSteps : Byte) (grace : Word16) (stopTimeout : Byte) (s : State) :
    Host.Outcome State Fault Refusal :=
  .next (serveCommand e (.setPowerPolicy redundancy baseLoad gapSteps grace stopTimeout) s)

/-- SET_ADMISSION arrives and is taken (R57). -/
def execSetAdmission (e : Envelope) (gate : Byte) (s : State) : Host.Outcome State Fault Refusal :=
  .next (serveCommand e (.setAdmission gate) s)

/-- LOAD_CURVE arrives and is taken (R95). -/
def execLoadCurve (e : Envelope) (zone : Byte) (points : List (Byte × Word16)) (s : State) :
    Host.Outcome State Fault Refusal :=
  .next (serveCommand e (.loadCurve zone points) s)

/-- SET_ZONE arrives and is taken (R93, R94). -/
def execSetZone (e : Envelope) (zone mode : Byte) (floor forced : Word16) (staleLimit : Byte) (stepDown : Word16) (s : State) :
    Host.Outcome State Fault Refusal :=
  .next (serveCommand e (.setZone zone mode floor forced staleLimit stepDown) s)

/-- SET_FAN arrives and is taken (R114). -/
def execSetFan (e : Envelope) (fan zone : Byte) (minRun : Word16) (prescale : Byte) (s : State) :
    Host.Outcome State Fault Refusal :=
  .next (serveCommand e (.setFan fan zone minRun prescale) s)

/-- SET_UPLINK arrives and is taken (R152, R153). -/
def execSetUplink (e : Envelope) (uplink enabled right : Byte) (s : State) : Host.Outcome State Fault Refusal :=
  .next (serveCommand e (.setUplink uplink enabled right) s)

/-- SET_QUOTA arrives and is taken (R161). -/
def execSetQuota (e : Envelope) (queue : Byte) (quota : Word16) (s : State) :
    Host.Outcome State Fault Refusal :=
  .next (serveCommand e (.setQuota queue quota) s)

/-- ADD_STATIC arrives and is taken (R143). -/
def execAddStatic (e : Envelope) (address : Addr) (bay : Byte) (bladeTag : Word16) (s : State) :
    Host.Outcome State Fault Refusal :=
  .next (serveCommand e (.addStatic address bay bladeTag) s)

/-- REMOVE_STATIC arrives and is taken (R144). -/
def execRemoveStatic (e : Envelope) (address : Addr) (chassisTag : Word16) (s : State) :
    Host.Outcome State Fault Refusal :=
  .next (serveCommand e (.removeStatic address chassisTag) s)

/-- SET_AGING arrives and is taken (R142). -/
def execSetAging (e : Envelope) (steps : Word16) (s : State) : Host.Outcome State Fault Refusal :=
  .next (serveCommand e (.setAging steps) s)

/-- SOFT_RESET arrives and is taken (R175). -/
def execSoftReset (e : Envelope) (s : State) : Host.Outcome State Fault Refusal :=
  .next (serveCommand e .softReset s)

/-- IDENTIFY_PART arrives and is taken (R174). -/
def execIdentifyPart (e : Envelope) (s : State) : Host.Outcome State Fault Refusal :=
  .next (serveCommand e .identifyPart s)

/-- ANNOUNCE arrives and is taken (R43). -/
def execAnnounce (e : Envelope) (image : Image) (s : State) : Host.Outcome State Fault Refusal :=
  .next (serveCommand e (.announce image) s)

/-- THERMAL_REPORT arrives and is taken (R89). -/
def execThermalReport (e : Envelope) (margin critical : Byte) (s : State) : Host.Outcome State Fault Refusal :=
  .next (serveCommand e (.thermalReport margin critical) s)

/-- POWER_REQUEST arrives and is taken (R6). -/
def execPowerRequest (e : Envelope) (s : State) : Host.Outcome State Fault Refusal :=
  .next (serveCommand e .powerRequest s)

/-- POWER_RELEASE arrives and is taken (R12, R13). -/
def execPowerRelease (e : Envelope) (s : State) : Host.Outcome State Fault Refusal :=
  .next (serveCommand e .powerRelease s)

/-- READ_OWN arrives and is taken (R168). -/
def execReadOwn (e : Envelope) (s : State) : Host.Outcome State Fault Refusal :=
  .next (serveCommand e .readOwn s)

/-- The SVE takes the head of its queue (R157, R164, log 5). -/
def execServiceFrameTaken (s : State) : Host.Outcome State Fault Refusal := .next (takeFrame s)

end Sys2Proof.Machine
end

