-- ==== Sys2Proof/Machine/Dispatch.lean ====
section
/-! DEFINITION. The meaning of each command: one direct call for each constructor of `Instr`. -/

namespace Sys2Proof.Machine

def exec (i : Instr) (s : State) : Host.Outcome State Fault Refusal :=
  match i with
  | .bayPresChange b present => Sys2Proof.Machine.execBayPresChange b present s
  | .bayInsertionDebounceExpiry b => Sys2Proof.Machine.execBayInsertionDebounceExpiry b s
  | .bayRemovalDebounceExpiry b => Sys2Proof.Machine.execBayRemovalDebounceExpiry b s
  | .bayPgAsserted b => Sys2Proof.Machine.execBayPgAsserted b s
  | .bayPgLow b => Sys2Proof.Machine.execBayPgLow b s
  | .rampTimerExpiry b => Sys2Proof.Machine.execRampTimerExpiry b s
  | .stopTimerExpiry b => Sys2Proof.Machine.execStopTimerExpiry b s
  | .admissionTaken => Sys2Proof.Machine.execAdmissionTaken s
  | .shedTaken => Sys2Proof.Machine.execShedTaken s
  | .psuPresChange p present => Sys2Proof.Machine.execPsuPresChange p present s
  | .psuInsertionDebounceExpiry p => Sys2Proof.Machine.execPsuInsertionDebounceExpiry p s
  | .psuRemovalDebounceExpiry p => Sys2Proof.Machine.execPsuRemovalDebounceExpiry p s
  | .psuOkChange p asserted => Sys2Proof.Machine.execPsuOkChange p asserted s
  | .adoptionHoldTimerExpiry => Sys2Proof.Machine.execAdoptionHoldTimerExpiry s
  | .graceTimerExpiry => Sys2Proof.Machine.execGraceTimerExpiry s
  | .staggerGapTimerExpiry => Sys2Proof.Machine.execStaggerGapTimerExpiry s
  | .sixteenthByteReceived k image => Sys2Proof.Machine.execSixteenthByteReceived k image s
  | .scanNoAnswer k => Sys2Proof.Machine.execScanNoAnswer k s
  | .scanTimerExpiry k => Sys2Proof.Machine.execScanTimerExpiry k s
  | .retryTimerExpiry k => Sys2Proof.Machine.execRetryTimerExpiry k s
  | .fanPresChange f present => Sys2Proof.Machine.execFanPresChange f present s
  | .fanInsertionDebounceExpiry f => Sys2Proof.Machine.execFanInsertionDebounceExpiry f s
  | .fanRemovalDebounceExpiry f => Sys2Proof.Machine.execFanRemovalDebounceExpiry f s
  | .fanTachPulse f => Sys2Proof.Machine.execFanTachPulse f s
  | .tachWindowExpiry f => Sys2Proof.Machine.execTachWindowExpiry f s
  | .controlTimerExpiry => Sys2Proof.Machine.execControlTimerExpiry s
  | .bayPortFrame b frame => Sys2Proof.Machine.execBayPortFrame b frame s
  | .uplinkPortFrame u frame => Sys2Proof.Machine.execUplinkPortFrame u frame s
  | .transmissionComplete p => Sys2Proof.Machine.execTransmissionComplete p s
  | .agingSweepTimerExpiry => Sys2Proof.Machine.execAgingSweepTimerExpiry s
  | .linkUp u => Sys2Proof.Machine.execLinkUp u s
  | .linkDown u => Sys2Proof.Machine.execLinkDown u s
  | .readBay e bay => Sys2Proof.Machine.execReadBay e bay s
  | .readSlot e slot => Sys2Proof.Machine.execReadSlot e slot s
  | .readPower e => Sys2Proof.Machine.execReadPower e s
  | .readZone e zone => Sys2Proof.Machine.execReadZone e zone s
  | .readFan e fan => Sys2Proof.Machine.execReadFan e fan s
  | .readUplink e uplink => Sys2Proof.Machine.execReadUplink e uplink s
  | .readQueue e queue => Sys2Proof.Machine.execReadQueue e queue s
  | .readStation e first count => Sys2Proof.Machine.execReadStation e first count s
  | .readEvents e => Sys2Proof.Machine.execReadEvents e s
  | .clearEvents e classes => Sys2Proof.Machine.execClearEvents e classes s
  | .setEventMask e classes => Sys2Proof.Machine.execSetEventMask e classes s
  | .setAlertTarget e presence uplink address => Sys2Proof.Machine.execSetAlertTarget e presence uplink address s
  | .setBayPolicy e bay priority cap uplink zone autoRestore => Sys2Proof.Machine.execSetBayPolicy e bay priority cap uplink zone autoRestore s
  | .loadWindow e bay bs cs bb cb => Sys2Proof.Machine.execLoadWindow e bay bs cs bb cb s
  | .powerOn e bay => Sys2Proof.Machine.execPowerOn e bay s
  | .powerOffGraceful e bay => Sys2Proof.Machine.execPowerOffGraceful e bay s
  | .powerOffForced e bay => Sys2Proof.Machine.execPowerOffForced e bay s
  | .setMaint e bay => Sys2Proof.Machine.execSetMaint e bay s
  | .clearMaint e bay => Sys2Proof.Machine.execClearMaint e bay s
  | .clearFault e bay => Sys2Proof.Machine.execClearFault e bay s
  | .rescan e slot => Sys2Proof.Machine.execRescan e slot s
  | .setPowerPolicy e redundancy baseLoad gapSteps grace stopTimeout => Sys2Proof.Machine.execSetPowerPolicy e redundancy baseLoad gapSteps grace stopTimeout s
  | .setAdmission e gate => Sys2Proof.Machine.execSetAdmission e gate s
  | .loadCurve e zone points => Sys2Proof.Machine.execLoadCurve e zone points s
  | .setZone e zone mode floor forced staleLimit stepDown => Sys2Proof.Machine.execSetZone e zone mode floor forced staleLimit stepDown s
  | .setFan e fan zone minRun prescale => Sys2Proof.Machine.execSetFan e fan zone minRun prescale s
  | .setUplink e uplink enabled right => Sys2Proof.Machine.execSetUplink e uplink enabled right s
  | .setQuota e queue quota => Sys2Proof.Machine.execSetQuota e queue quota s
  | .addStatic e address bay bladeTag => Sys2Proof.Machine.execAddStatic e address bay bladeTag s
  | .removeStatic e address chassisTag => Sys2Proof.Machine.execRemoveStatic e address chassisTag s
  | .setAging e steps => Sys2Proof.Machine.execSetAging e steps s
  | .softReset e => Sys2Proof.Machine.execSoftReset e s
  | .identifyPart e => Sys2Proof.Machine.execIdentifyPart e s
  | .announce e image => Sys2Proof.Machine.execAnnounce e image s
  | .thermalReport e margin critical => Sys2Proof.Machine.execThermalReport e margin critical s
  | .powerRequest e => Sys2Proof.Machine.execPowerRequest e s
  | .powerRelease e => Sys2Proof.Machine.execPowerRelease e s
  | .readOwn e => Sys2Proof.Machine.execReadOwn e s
  | .powerOnResetBegin => Sys2Proof.Machine.execPowerOnResetBegin s
  | .powerOnResetComplete straps => Sys2Proof.Machine.execPowerOnResetComplete straps s
  | .resetNAsserted => Sys2Proof.Machine.execResetNAsserted s
  | .resetNReleased straps => Sys2Proof.Machine.execResetNReleased straps s
  | .serviceFrameTaken => Sys2Proof.Machine.execServiceFrameTaken s

end Sys2Proof.Machine
end

