-- ==== Sys2Proof/Machine/Time.lean ====
section
/-! DEFINITION. What happens while no command waits: the hand-over that is due between two blocks, otherwise
the expiry of a timer that has run out, and otherwise the passing of one ms (log 1, log 2). -/

namespace Sys2Proof.Machine

/-- One ms off a running timer. -/
def tickTimer (t : Timer) : Timer := t.map (· - 1)

def tickBay (r : BayRec) : BayRec :=
  { r with insertTimer := tickTimer r.insertTimer, removeTimer := tickTimer r.removeTimer,
           rampTimer := tickTimer r.rampTimer, stopTimer := tickTimer r.stopTimer }

def tickSlot (r : SlotRec) : SlotRec := { r with retryTimer := tickTimer r.retryTimer }

def tickScan (sc : Scan) : Scan := { sc with timer := sc.timer - 1 }

def tickSupply (r : SupplyRec) : SupplyRec :=
  { r with insertTimer := tickTimer r.insertTimer, removeTimer := tickTimer r.removeTimer }

def tickPbu (p : Pbu) : Pbu :=
  { p with supplies := Bank.update (fun _ => tickSupply) p.supplies
           gapTimer := tickTimer p.gapTimer
           holdTimer := tickTimer p.holdTimer
           emg := { p.emg with graceTimer := tickTimer p.emg.graceTimer } }

/-- The age of a thermal entry runs in every bay state (R88). -/
def tickEntry (e : ThermalEntry) : ThermalEntry := { e with age := satAdd e.age 1 Config.top16 }

def tickFan (r : FanRec) : FanRec :=
  { r with tachTimer := tickTimer r.tachTimer, insertTimer := tickTimer r.insertTimer,
           removeTimer := tickTimer r.removeTimer }

/-- One ms passes (00_scope.md section 5). -/
def tick (s : State) : State :=
  { s with
    bays := Bank.update (fun _ => tickBay) s.bays
    ise := { s.ise with slots := Bank.update (fun _ => tickSlot) s.ise.slots, scan := s.ise.scan.map tickScan }
    pbu := tickPbu s.pbu
    thu := { s.thu with entries := Bank.update (fun _ => tickEntry) s.thu.entries,
                        controlTimer := tickTimer s.thu.controlTimer }
    fdu := { s.fdu with fans := Bank.update (fun _ => tickFan) s.fdu.fans }
    stb := { s.stb with sweepTimer := tickTimer s.stb.sweepTimer } }

/-- The command where the timer has run out. -/
def dueAt (t : Timer) (c : Instr) : List Instr := if t = some 0 then [c] else []

def dueBay (s : State) (b : Bay) : List Instr :=
  let r := bayRec s b
  dueAt r.insertTimer (.bayInsertionDebounceExpiry b) ++ dueAt r.removeTimer (.bayRemovalDebounceExpiry b)
    ++ dueAt r.rampTimer (.rampTimerExpiry b) ++ dueAt r.stopTimer (.stopTimerExpiry b)

def dueSupply (s : State) (p : Psu) : List Instr :=
  let r := supplyRec s p
  dueAt r.insertTimer (.psuInsertionDebounceExpiry p) ++ dueAt r.removeTimer (.psuRemovalDebounceExpiry p)

def dueFan (s : State) (f : Fan) : List Instr :=
  let r := fanRec s f
  dueAt r.insertTimer (.fanInsertionDebounceExpiry f) ++ dueAt r.removeTimer (.fanRemovalDebounceExpiry f)
    ++ dueAt r.tachTimer (.tachWindowExpiry f)

def dueScan (s : State) : List Instr :=
  match s.ise.scan with
  | some sc => if sc.timer = 0 then [.scanTimerExpiry sc.slot] else []
  | none => []

/-- The expiries of the timers that have run out, in a fixed order: DESIGN CHOICE (log 2). Unsafe. -/
def dueCommands (s : State) : List Instr :=
  (List.finRange 16).flatMap (dueBay s) ++ (List.finRange 4).flatMap (dueSupply s)
    ++ (List.finRange 6).flatMap (dueFan s) ++ dueScan s
    ++ (List.finRange 26).flatMap (fun k => dueAt (slotRec s k).retryTimer (.retryTimerExpiry k))
    ++ dueAt s.pbu.gapTimer .staggerGapTimerExpiry ++ dueAt s.pbu.emg.graceTimer .graceTimerExpiry
    ++ dueAt s.pbu.holdTimer .adoptionHoldTimerExpiry ++ dueAt s.thu.controlTimer .controlTimerExpiry
    ++ dueAt s.stb.sweepTimer .agingSweepTimerExpiry

/-- An admission is handed to the BCB (R64). -/
def admissionDue (s : State) : Bool :=
  match s.pbu.seq with
  | .admitting _ => true
  | .idle | .ramp _ | .gap _ => false

/-- A shed request is outstanding (R78). -/
def shedDue (s : State) : Bool := s.pbu.emg.phase == .shedding && s.pbu.emg.shedBay.isSome

/-- The SVE has a frame to take (R157). -/
def serviceDue (s : State) : Bool := serviceReady s && !s.fbm.svc.frames.isEmpty

/-- The hand-over that is due inside the part (log 1). -/
def handOver (s : State) : Option Instr :=
  if admissionDue s then some .admissionTaken
  else if shedDue s then some .shedTaken
  else if serviceDue s then some .serviceFrameTaken
  else none

/-- What the part takes next of itself: the hand-over that is due, and otherwise the expiry of one timer that
has run out. One at a time, so that a timer which that command stops has no expiry to follow (R76). -/
def nextOwn (s : State) : Option Instr :=
  match handOver s with
  | some c => some c
  | none => (dueCommands s).head?

/-- With no command waiting, the part out of reset takes what is due inside it, and otherwise lets one ms
pass; in reset it idles. DESIGN CHOICE (log 1), unsafe. -/
def idle (s : State) : State :=
  if isRunning s then
    match nextOwn s with
    | some c => { s with pending := [c] }
    | none => tick s
  else s

end Sys2Proof.Machine
end

