-- ==== Sys2Proof/Safety.lean ====
section
/-! DEFINITION. What the claims say of a run: which parts of the state a command may touch, the bytes of the
frames that the part sends, what a raising and a reset leave, and the laws that every step keeps. -/

namespace Sys2Proof.Machine

/-! ### Parts of the state

A frame names the parts that a command may touch; every other part is equal before and after. -/

/-- The parts of the state that frames speak of. -/
inductive Part where
  | mode | pins | bays | slots | scanQueue | scan
  | supplies | powerPolicy | gates | waitList | sequencer | emergency | hold | figures
  | thermal | zones | controlTimer | fans | air | windows
  | stations | learnMiss | agingSteps | sweepTimer | uplinks
  | pool | bayQueues | uplinkQueues | svcQueue
  | flags | mask | alertTarget | partIdentity | softReset | pending
  deriving DecidableEq, Repr

/-- The part is equal in both states. -/
def Part.same : Part → State → State → Prop
  | .mode, s, t => t.mode = s.mode
  | .pins, s, t => t.pins = s.pins
  | .bays, s, t => t.bays = s.bays
  | .slots, s, t => t.ise.slots = s.ise.slots
  | .scanQueue, s, t => t.ise.queue = s.ise.queue
  | .scan, s, t => t.ise.scan = s.ise.scan
  | .supplies, s, t => t.pbu.supplies = s.pbu.supplies
  | .powerPolicy, s, t => t.pbu.policy = s.pbu.policy
  | .gates, s, t => t.pbu.ae = s.pbu.ae ∧ t.pbu.ae2 = s.pbu.ae2
  | .waitList, s, t => t.pbu.waitList = s.pbu.waitList ∧ t.pbu.nextStamp = s.pbu.nextStamp
  | .sequencer, s, t => t.pbu.seq = s.pbu.seq ∧ t.pbu.gapTimer = s.pbu.gapTimer
  | .emergency, s, t => t.pbu.emg = s.pbu.emg
  | .hold, s, t => t.pbu.hold = s.pbu.hold ∧ t.pbu.holdTimer = s.pbu.holdTimer
  | .figures, s, t => t.pbu.figures = s.pbu.figures
  | .thermal, s, t => t.thu.entries = s.thu.entries
  | .zones, s, t => t.thu.zones = s.thu.zones
  | .controlTimer, s, t => t.thu.controlTimer = s.thu.controlTimer
  | .fans, s, t => t.fdu.fans = s.fdu.fans
  | .air, s, t => t.fdu.air = s.fdu.air
  | .windows, s, t => t.windows = s.windows
  | .stations, s, t => t.stb.places = s.stb.places
  | .learnMiss, s, t => t.stb.learnMiss = s.stb.learnMiss
  | .agingSteps, s, t => t.stb.agingSteps = s.stb.agingSteps
  | .sweepTimer, s, t => t.stb.sweepTimer = s.stb.sweepTimer
  | .uplinks, s, t => t.uplinks = s.uplinks
  | .pool, s, t => t.fbm.free = s.fbm.free
  | .bayQueues, s, t => t.fbm.bayQ = s.fbm.bayQ
  | .uplinkQueues, s, t => t.fbm.upQ = s.fbm.upQ
  | .svcQueue, s, t => t.fbm.svc = s.fbm.svc
  | .flags, s, t => t.sve.flags = s.sve.flags
  | .mask, s, t => t.sve.unmasked = s.sve.unmasked
  | .alertTarget, s, t => t.sve.alertTarget = s.sve.alertTarget
  | .partIdentity, s, t =>
    t.sve.chassisNumber = s.sve.chassisNumber ∧ t.sve.resetCause = s.sve.resetCause
      ∧ t.sve.adoptedCount = s.sve.adoptedCount
  | .softReset, s, t => t.sve.softReset = s.sve.softReset
  | .pending, s, t => t.pending = s.pending

/-- Every part that is not listed is equal in both states. -/
def KeepsAllBut (touched : List Part) (s t : State) : Prop := ∀ p, p ∉ touched → p.same s t

/-- The part that holds a port's egress queue. -/
def queuePart : Port → Part
  | .bay _ => .bayQueues
  | .uplink _ => .uplinkQueues

/-- The parts that raising an event may touch: the flags, and the uplink queues and the pool by the alerts
that it offers (R169, R173). -/
def reportParts : List Part := [.flags, .uplinkQueues, .pool]

/-- The parts that a budget evaluation may touch: the figures, the emergency with its gate and its throttle
causes, the sequencer by an admission, and the reports (R54, R61, R72, R83). -/
def budgetParts : List Part := [.figures, .emergency, .gates, .sequencer, .bays] ++ reportParts

/-- The parts that a change of a slot's identity may touch: the scanning, the supplies and the hold, beside
what an evaluation touches (R44, R50, R86). -/
def scanParts : List Part := [.slots, .scanQueue, .scan, .supplies, .hold] ++ budgetParts

/-- Only the flags of the listed classes may differ (R169). -/
def FlagsKeptBut (classes : List EventClass) (s t : State) : Prop :=
  ∀ c, c ∉ classes → flagRec t c = flagRec s c

/-- The flag of the cause's class is set with this cause as its record (R169). -/
def Raised (c : Cause) (t : State) : Prop := flagRec t (causeClass c) = { raised := true, cause := some c }

/-- A bay's record but for what an emergency writes on every bay: its cause and BAY_THR (R73). -/
def sameBayRecord (r r' : BayRec) : Prop :=
  r' = { r with emergencyCause := r'.emergencyCause, thr := r'.thr }

/-- Every bay but this one keeps its record, the emergency's cause and BAY_THR apart (R73). -/
def OtherBaysKept (b : Bay) (s t : State) : Prop := ∀ c, c ≠ b → sameBayRecord (bayRec s c) (bayRec t c)

/-- Every other bay's egress queue is as it was. -/
def OtherBayQueuesKept (b : Bay) (s t : State) : Prop :=
  ∀ c, c ≠ b → queueOf t (.bay c) = queueOf s (.bay c)

/-- An uplink's queue keeps its copies and its quota and gains alerts at most, one cell each; an uplink that is
no alert target keeps its queue whole (R156, R173). -/
def AlertsOnlyAt (u : Uplink) (s t : State) : Prop :=
  let q := queueOf s (.uplink u)
  let q' := queueOf t (.uplink u)
  let gained := q'.frames.drop q.frames.length
  (s.sve.alertTarget.map (·.1) ≠ some u → q' = q)
    ∧ q'.quota = q.quota ∧ q'.frames.take q.frames.length = q.frames ∧ (∀ c ∈ gained, c.kind = .alert)
    ∧ q'.held = q.held + gained.length ∧ (gained = [] → q' = { q with dropped := q'.dropped })
    ∧ (gained ≠ [] → q'.enqueued = min (q.enqueued + gained.length) 4294967295)

/-- The uplink queues gain alerts at most (R173). -/
def AlertsOnly (s t : State) : Prop := ∀ u, AlertsOnlyAt u s t

/-! ### Bytes on the wire (R163, R183 to R185)

Numbers stand with the most significant byte first; they are written here from R184, apart from the encoders
that the part uses. -/

def oneByte (n : Nat) : List Byte := [BitVec.ofNat 8 n]
def twoBytes (n : Nat) : List Byte := [BitVec.ofNat 8 (n / 256), BitVec.ofNat 8 n]
def fourBytes (n : Nat) : List Byte := twoBytes (n / 65536) ++ twoBytes n

/-- A station address, its six octets in written order. -/
def sixBytes (a : Addr) : List Byte :=
  [a.extractLsb' 40 8, a.extractLsb' 32 8, a.extractLsb' 24 8, a.extractLsb' 16 8, a.extractLsb' 8 8,
    a.extractLsb' 0 8]

/-- A value of two: 0 for the one named first, 1 for the other (R184). -/
def twoValued (first : Bool) : List Byte := [if first then 0 else 1]

/-- A timer: 0 stopped, 1 running (R184). -/
def timerByte (t : Timer) : List Byte := [if t = none then 0 else 1]

/-- A named value: its position in the list of its rule (R184). -/
def positionIn {α : Type} [DecidableEq α] (values : List α) (v : α) : List Byte := oneByte (values.idxOf v)

/-- A numbered place or a named value, 0xFF where there is none (R184). -/
def orNone (n : Option Nat) : List Byte := oneByte (n.getD 255)

/-- An optional field of this width: 1 and the field, or 0 and zeros (R184). -/
def optionalField (width : Nat) (field : Option (List Byte)) : List Byte :=
  (if field = none then 0 else 1) :: field.getD (List.replicate width 0)

/-- A counted list (R184). -/
def countedList (entries : List (List Byte)) : List Byte := oneByte entries.length ++ entries.flatten

/-- A service frame of the part, without tag field and check bytes: both addresses, the service address being
02-D5-1C-00-0C-nn, the type 0xD380, the header of R183, the body, and zeros up to the shortest frame (R163,
R184). -/
def serviceFrame (s : State) (dst : Addr) (tag kind code status requestTag : Nat) (body : List Byte) : List Byte :=
  sixBytes dst ++ [0x02, 0xD5, 0x1C, 0x00, 0x0C] ++ oneByte s.sve.chassisNumber.toNat ++ [0xD3, 0x80, 1]
    ++ oneByte kind ++ oneByte code ++ oneByte status ++ twoBytes requestTag ++ twoBytes body.length ++ body
    ++ List.replicate (64 - (14 + (if tag = 0 then 0 else 4) + 8 + body.length + 4)) 0

/-- The three bytes of an event record: the class by its position in R169, the object and the qualifier
(R185). -/
def recordOf : Cause → List Byte
  | .bayChange b => [0] ++ oneByte b.val ++ [0]
  | .identity k => [1] ++ oneByte k.val ++ [0]
  | .emergency phase source => [2]
      ++ (match source with
        | .supply p => oneByte (16 + p.val) | .bay b => oneByte b.val | .fan f => oneByte (20 + f.val)
        | .policy => [26] | .hold => [27] | .start => [28] | .none => [0xFF])
      ++ positionIn [.began, .exhausted, .ended] phase
  | .shed b => [3] ++ oneByte b.val ++ [0]
  | .fanFault f recovered => [4] ++ oneByte f.val ++ twoValued (!recovered)
  | .zoneAlarm z left => [5] ++ oneByte z.val ++ twoValued (!left)
  | .uplinkChange u change => [6] ++ oneByte u.val ++ positionIn [.linkUp, .linkDown, .setting] change
  | .queueDrop q => [7]
      ++ (match q with
        | .egress (.bay b) => oneByte b.val | .egress (.uplink u) => oneByte (16 + u.val) | .svc => [18])
      ++ [0]
  | .stationFull b => [8] ++ oneByte b.val ++ [0]
  | .translateDrop b fixedEntry => [9] ++ oneByte b.val ++ twoValued (!fixedEntry)

/-- The alert frame of a cause to a station: untagged, kind ALERT, command code, status and request tag 0, and
the event record as its body (R173, R183, R185). -/
def alertOf (s : State) (a : Addr) (c : Cause) : Copy :=
  { kind := .alert, tag := 0, bytes := serviceFrame s a 0 3 0 0 0 (recordOf c) }

/-- What one raising does to the flags, the uplink queues and the pool (R169, R173). Where it changes a flag of
an unmasked class from clear to set and the target's uplink is usable, exactly one alert is offered: it enters
the queue where there is room for its one cell; otherwise it is counted as dropped, which raises QUEUE_DROP,
and where that flag was clear and is unmasked a further alert is offered and lost too. In every other case no
alert is offered. -/
def Alerted (c : Cause) (s t : State) : Prop :=
  let k := causeClass c
  let due := (flagRec s k).raised = false ∧ Bank.read s.sve.unmasked k = true
  (∀ x, s.sve.alertTarget = some x → due → usable t x.1 = true →
      let q := queueOf s (.uplink x.1)
      let room := q.held + 1 ≤ q.quota ∧ 1 ≤ s.fbm.free
      let further := (flagRec s 7).raised = false ∧ Bank.read s.sve.unmasked 7 = true ∧ k ≠ 7
      (∀ v, v ≠ x.1 → queueOf t (.uplink v) = queueOf s (.uplink v))
        ∧ (room → Raised c t ∧ FlagsKeptBut [k] s t ∧ t.fbm.free = s.fbm.free - 1
            ∧ queueOf t (.uplink x.1) = { q with
                frames := q.frames ++ [alertOf s x.2 c], held := q.held + 1
                enqueued := min (q.enqueued + 1) 4294967295, sending := true })
        ∧ (¬room → (k ≠ 7 → Raised c t) ∧ Raised (.queueDrop (.egress (.uplink x.1))) t
            ∧ FlagsKeptBut [k, 7] s t ∧ t.fbm.free = s.fbm.free
            ∧ queueOf t (.uplink x.1) = { q with
                dropped := min (q.dropped + if further then 2 else 1) 4294967295 }))
    ∧ (¬due ∨ (∀ x, s.sve.alertTarget = some x → usable t x.1 = false) →
        Raised c t ∧ FlagsKeptBut [k] s t ∧ t.fbm.free = s.fbm.free
          ∧ ∀ v, queueOf t (.uplink v) = queueOf s (.uplink v))

/-! ### Effects that several commands share -/

/-- The queue has been flushed: every copy is gone and counted as dropped, and nothing is being sent (R159). -/
def Flushed (p : Port) (s t : State) : Prop :=
  queueOf t p = { queueOf s p with
    frames := [], held := 0, sending := false
    dropped := min ((queueOf s p).dropped + (queueOf s p).frames.length) 4294967295 }

/-- A fan's record with its applied duty `d` (R113): the window minimum duty follows a fall, and a rise across
200 per mille starts the spin-up of a turning fan afresh. -/
def dutySet (d : Nat) (r : FanRec) : FanRec :=
  let lowered := { r with duty := d, minDuty := if d = r.duty then r.minDuty else min r.minDuty d }
  if r.duty < 200 ∧ 200 ≤ d ∧ (r.state = .spinup ∨ r.state = .running) then
    { lowered with state := .spinup, spinup := 0, low := 0, good := 0 }
  else lowered

/-- What a judged window does to a fan in RUNNING or FAILED (R118). -/
def Judged (f : Fan) (low : Bool) (s t : State) : Prop :=
  let r := fanRec s f
  let r' := fanRec t f
  r'.spinup = r.spinup
    ∧ (r.state = .running → low = true → r.low + 1 < 3 →
        r'.state = .running ∧ r'.low = r.low + 1 ∧ r'.good = 0 ∧ t.sve = s.sve)
    ∧ (r.state = .running → low = true → 3 ≤ r.low + 1 →
        r'.state = .failed ∧ r'.low = 0 ∧ r'.good = 0 ∧ Raised (.fanFault f false) t)
    ∧ (r.state = .running → low = false →
        r'.state = .running ∧ r'.low = 0 ∧ r'.good = min (r.good + 1) 3 ∧ t.sve = s.sve)
    ∧ (r.state = .failed → low = true →
        r'.state = .failed ∧ r'.low = min (r.low + 1) 3 ∧ r'.good = 0 ∧ t.sve = s.sve)
    ∧ (r.state = .failed → low = false → r.good + 1 < 3 →
        r'.state = .failed ∧ r'.low = 0 ∧ r'.good = r.good + 1 ∧ t.sve = s.sve)
    ∧ (r.state = .failed → low = false → 3 ≤ r.good + 1 →
        r'.state = .running ∧ r'.low = 0 ∧ r'.good = 0 ∧ Raised (.fanFault f true) t)

/-- The bay's DYNAMIC entries are gone, and every other entry is as it was (R139). -/
def Purged (b : Bay) (s t : State) : Prop :=
  t.stb.places = s.stb.places.filter fun p => !(isDynamic p.entry && p.entry.bay == b)

/-- The recorded figures are those of the state as it stands (R54, R56). -/
def FiguresCurrent (t : State) : Prop := t.pbu.figures = figuresOf t

/-- An admission of some bay is being handed over. -/
def Admitting (t : State) : Prop := ∃ c, t.pbu.seq = .admitting c

/-- Conditions 1, 2, 4 and 5 of R61 for the bay. -/
def Fits (s : State) (b : Bay) : Prop :=
  s.pbu.ae = .opened ∧ s.pbu.emg.phase = .none ∧ s.pbu.hold = false ∧ isComplete s (slotOfBay b) = true
    ∧ s.pbu.figures.allocated + classGrant s b ≤ s.pbu.figures.available

/-- The sequencer has become IDLE and the head of the list has been evaluated: it is admitted exactly where
it fits, and no bay behind it is (R61). -/
def HeadEvaluated (t : State) : Prop :=
  (t.pbu.seq = .idle ∧ ∀ w, t.pbu.waitList.head? = some w → ¬Fits t w.bay)
    ∨ ∃ w, t.pbu.waitList.head? = some w ∧ Fits t w.bay ∧ t.pbu.seq = .admitting w.bay

/-- The ramp sequencer after the bay has lost power (R61, R66, R67): where a ramp of this bay has ended, without
a gap, and where it was idle, the head has been evaluated; every other state stands; a gap runs on. -/
def SequencerFreed (b : Bay) (s t : State) : Prop :=
  (s.pbu.seq = .ramp b ∨ s.pbu.seq = .idle → HeadEvaluated t)
    ∧ (s.pbu.seq ≠ .ramp b → s.pbu.seq ≠ .idle → t.pbu.seq = s.pbu.seq)
    ∧ t.pbu.gapTimer = s.pbu.gapTimer

/-- An emergency has begun (R72, R74). -/
def BeganEmergency (source : EmgSource) (s t : State) : Prop :=
  t.pbu.emg.phase = .grace ∧ t.pbu.emg.graceTimer = some t.pbu.policy.grace ∧ t.pbu.emg.shedCount = 0
    ∧ t.pbu.ae = .closed ∧ t.pbu.ae2 = s.pbu.ae ∧ (∀ c, (bayRec t c).emergencyCause = true)
    ∧ Raised (.emergency .began source) t

/-- An emergency has ended (R83): AE is restored from AE2 and the throttle causes are cleared. -/
def EndedEmergency (source : EmgSource) (s t : State) : Prop :=
  t.pbu.emg.phase = .none ∧ t.pbu.emg.graceTimer = none ∧ t.pbu.emg.shedBay = none
    ∧ t.pbu.ae = s.pbu.ae2 ∧ t.pbu.ae2 = s.pbu.ae2
    ∧ (∀ c, (bayRec t c).emergencyCause = false) ∧ Raised (.emergency .ended source) t

/-- No emergency has begun, moved on or ended: the record, the gates, the throttle causes and the EMERGENCY flag
are as they were. -/
def EmergencyKept (s t : State) : Prop :=
  Part.emergency.same s t ∧ Part.gates.same s t
    ∧ (∀ c, (bayRec t c).emergencyCause = (bayRec s c).emergencyCause) ∧ flagRec t 2 = flagRec s 2

/-- A budget evaluation of this source has compared its figures, by the phase it found (R54, R72, R75, R78, R82,
R83): it begins an emergency, unless the hold is in force; it ends one in GRACE or EXHAUSTED that fits; it sheds
again in EXHAUSTED where a bay is sheddable; and it leaves every other as it was. -/
def Compared (source : EmgSource) (s t : State) : Prop :=
  FiguresCurrent t
    ∧ (s.pbu.emg.phase = .none → s.pbu.hold = false → overBudget t = true → BeganEmergency source s t)
    ∧ (s.pbu.emg.phase = .none → s.pbu.hold = true ∨ overBudget t = false → EmergencyKept s t)
    ∧ (s.pbu.emg.phase = .grace ∨ s.pbu.emg.phase = .exhausted → overBudget t = false →
        EndedEmergency source s t ∧ t.pbu.emg.shedCount = s.pbu.emg.shedCount)
    ∧ (s.pbu.emg.phase = .grace → overBudget t = true → EmergencyKept s t)
    ∧ (s.pbu.emg.phase = .shedding → EmergencyKept s t)
    ∧ (s.pbu.emg.phase = .exhausted → overBudget t = true → chooseShed t = none → EmergencyKept s t)
    ∧ (s.pbu.emg.phase = .exhausted → overBudget t = true → ∀ b, chooseShed t = some b →
        t.pbu.emg = { s.pbu.emg with phase := .shedding, shedBay := some b, runShed := false }
          ∧ Part.gates.same s t ∧ flagRec t 2 = flagRec s 2)

/-- A budget evaluation of this source has been made: the comparison, and then, with an idle sequencer, the
head's evaluation (R54, R61). -/
def EvaluatedFor (source : EmgSource) (s t : State) : Prop :=
  Compared source s t ∧ t.pbu.gapTimer = s.pbu.gapTimer
    ∧ (s.pbu.seq = .idle → HeadEvaluated t) ∧ (s.pbu.seq ≠ .idle → t.pbu.seq = s.pbu.seq)

/-- The adoption hold has ended (R86): the flag and the timer are clear, and an evaluation of source HOLD has been
made, which begins an emergency where the figures do not fit, and otherwise ends with the head's evaluation. -/
def HoldResolved (s t : State) : Prop :=
  t.pbu.hold = false ∧ t.pbu.holdTimer = none ∧ FiguresCurrent t
    ∧ (s.pbu.emg.phase = .none → overBudget t = true → BeganEmergency .hold s t)
    ∧ (s.pbu.emg.phase = .none → overBudget t = false →
        Part.emergency.same s t ∧ Part.gates.same s t ∧ (s.pbu.seq = .idle → HeadEvaluated t))

/-- What the PBU does on the answer to a shed request (R78, R82, R83): on the figures as they now stand the
emergency ends, or the next bay to shed is named, or the phase is EXHAUSTED. -/
def ShedDecided (source : EmgSource) (count : Nat) (s t : State) : Prop :=
  FiguresCurrent t ∧ t.pbu.emg.shedCount = count
    ∧ (overBudget t = false → EndedEmergency source s t)
    ∧ (overBudget t = true → ∀ c, chooseShed t = some c →
        t.pbu.emg.phase = .shedding ∧ t.pbu.emg.shedBay = some c)
    ∧ (overBudget t = true → chooseShed t = none →
        t.pbu.emg.phase = .exhausted ∧ t.pbu.emg.shedBay = none ∧ Raised (.emergency .exhausted .none) t)

/-- A reset has begun (R178): all work has ended without event or count, the outputs have their levels, and
every setting, table and counter stands. -/
def ResetBegun (powerOn : Bool) (s t : State) : Prop :=
  (∀ b, bayRec t b = { bayRec s b with
      insertTimer := none, removeTimer := none, rampTimer := none, stopTimer := none
      pen := !powerOn && (bayRec s b).pen && bayState s b != .ramping, sdr := false, thr := false })
    ∧ (∀ k, slotRec t k = { slotRec s k with
        stage := .idle, retryTimer := none
        status := if (slotRec s k).status = .scanning then .none else (slotRec s k).status })
    ∧ t.ise.queue = [] ∧ t.ise.scan = none
    ∧ (∀ p, supplyRec t p = { supplyRec s p with insertTimer := none, removeTimer := none })
    ∧ t.pbu.gapTimer = none ∧ t.pbu.seq = s.pbu.seq ∧ t.pbu.holdTimer = none ∧ t.pbu.hold = s.pbu.hold
    ∧ t.pbu.emg = { s.pbu.emg with graceTimer := none, shedBay := none }
    ∧ (∀ f, fanRec t f = { fanRec s f with
        tachTimer := none, insertTimer := none, removeTimer := none, drive := 1000 })
    ∧ t.thu.controlTimer = none ∧ t.stb.sweepTimer = none
    ∧ (∀ p, queueOf t p = { queueOf s p with frames := [], held := 0, sending := false })
    ∧ t.fbm.svc = { s.fbm.svc with frames := [], held := 0 } ∧ t.fbm.free = 2048 ∧ t.sve.softReset = none
    ∧ KeepsAllBut [.mode, .pins, .bays, .slots, .scanQueue, .scan, .supplies, .sequencer, .hold, .emergency,
        .fans, .controlTimer, .sweepTimer, .bayQueues, .uplinkQueues, .svcQueue, .pool, .softReset] s t

/-- The bay record of R1 at its reset values. -/
def freshBay (b : Bay) : BayRec :=
  { state := .empty, priority := 4, cap := 0, prefUplink := 0
    zone := if b.val ≤ 5 then 0 else if b.val ≤ 10 then 1 else 2
    autoRestore := false, grant := 0, adopted := false, shedMark := false, critical := false
    emergencyCause := false, airflowCause := false, insertions := 0, overflows := 0, noUplink := 0, refused := 0
    insertTimer := none, removeTimer := none, rampTimer := none, stopTimer := none
    pen := false, sdr := false, thr := false }

/-- The inventory record of R27 at its reset values. -/
def freshSlot : SlotRec :=
  { present := false, status := .none, source := none, stage := .idle, ident := none, failures := 0
    lastFailure := none, retryTimer := none }

/-- The supply record of R47 at its reset values, PSU_OK being the line's level. -/
def freshSupply (psuOk : Bool) : SupplyRec :=
  { present := false, psuOk := psuOk, condition := .absent, capacity := 0, insertTimer := none
    removeTimer := none }

/-- The fan record of R105 at its reset values; FAN_DRV of an absent slot carries 0 (R108). -/
def freshFan (f : Fan) : FanRec :=
  { state := .absent, zone := if f.val ≤ 1 then 0 else if f.val ≤ 3 then 1 else 2
    minRun := 200, prescale := 1, residue := 0, count := 0, minDuty := 1000, tachTimer := none, rpm := none
    spinup := 0, low := 0, good := 0, duty := 1000, insertTimer := none, removeTimer := none, drive := 0 }

/-- The values that every reset leaves, whatever its kind and whatever the lines (R55, R59, R63, R88, R92, R96,
R104, R109, R122, R146, R147, R155, R162, R176). That M and h read 0 is log 10, and that the entry
stamps restart at 0 is log 30. -/
def TablesFresh (s t : State) : Prop :=
  t.mode = .running ∧ t.pending = s.pending
    ∧ (∀ b, window t b = { bs := 16, cs := 16, bb := 0, cb := 0 })
    ∧ (∀ b, thermalEntry t b = { margin := none, critical := false, current := false, age := 0 })
    ∧ (∀ z, zoneRec t z = {
        mode := .disabled, floor := 300, forced := 1000, staleLimit := 4, stepDown := 20, curve := []
        target := 1000, contributing := 0, staleBays := 0 })
    ∧ (∀ z, zoneAir t z = { compensated := 1000, applied := 1000, airflow := .normal, assigned := 0, turning := 0 })
    ∧ t.thu.controlTimer = some 250
    ∧ t.stb = { places := [], learnMiss := 0, agingSteps := 30, sweepTimer := some 10000 }
    ∧ (∀ u, uplinkRec t u
        = { link := Bank.read s.pins.link u, enabled := true, right := true, refused := 0 })
    ∧ t.fbm.free = 2048
    ∧ (∀ b, queueOf t (.bay b)
        = { frames := [], held := 0, quota := 96, enqueued := 0, dropped := 0, sending := false })
    ∧ (∀ u, queueOf t (.uplink u)
        = { frames := [], held := 0, quota := 512, enqueued := 0, dropped := 0, sending := false })
    ∧ t.fbm.svc = { frames := [], held := 0, enqueued := 0, dropped := 0 }
    ∧ t.pbu.policy = { redundancy := .one, baseLoad := 100, gapSteps := 5, grace := 300, stopTimeout := 30 }
    ∧ t.pbu.waitList = [] ∧ t.pbu.nextStamp = 0 ∧ t.pbu.seq = .idle ∧ t.pbu.gapTimer = none
    ∧ (∀ c, Bank.read t.sve.unmasked c = false) ∧ t.sve.alertTarget = none ∧ t.sve.softReset = none

/-- An emergency has begun at a reset, and nothing has been shed since (R71, R72, R74, R179). -/
def StartedInEmergency (source : EmgSource) (t : State) : Prop :=
  t.pbu.hold = false ∧ t.pbu.holdTimer = none
    ∧ t.pbu.emg = { phase := .grace, graceTimer := some 300, shedBay := none, shedCount := 0, lastShed := none,
                    runShed := false }
    ∧ t.pbu.ae = .closed ∧ t.pbu.ae2 = .opened ∧ (∀ b, (bayRec t b).emergencyCause = true)
    ∧ flagRec t 2 = { raised := true, cause := some (.emergency .began source) }

/-- The part after a warm reset (R180, R181), from a state `s` with these lines, where `held` says which bays
had BAY_PEN held driven through the reset. -/
def TakenOver (cause : ResetCause) (straps : BitVec 4) (held : Bay → Bool) (s t : State) : Prop :=
  let adopted : Bay → Bool := fun b => Bank.read s.pins.bayPres b && Bank.read s.pins.bayPg b && held b
  let batch : List Slot :=
    ((List.finRange 4).filter (Bank.read s.pins.psuPres)).map slotOfPsu
      ++ ((List.finRange 16).filter adopted).map slotOfBay
      ++ ((List.finRange 6).filter (Bank.read s.pins.fanPres)).map slotOfFan
  let supplied := (List.finRange 4).any (Bank.read s.pins.psuPres)
  TablesFresh s t
    ∧ (∀ b, sameBayRecord
        (if adopted b then { freshBay b with state := .poweredOn, adopted := true, grant := 500, pen := true }
          else { freshBay b with insertTimer := if Bank.read s.pins.bayPres b then some 200 else none })
        (bayRec t b))
    ∧ (∀ p, supplyRec t p =
        if Bank.read s.pins.psuPres p then
          { freshSupply (Bank.read s.pins.psuOk p) with present := true, condition := .pending }
        else freshSupply (Bank.read s.pins.psuOk p))
    ∧ (∀ f, fanRec t f =
        if Bank.read s.pins.fanPres f then
          { freshFan f with state := .spinup, tachTimer := some 1000, drive := 1000 }
        else freshFan f)
    ∧ t.ise.scan = batch.head?.map (fun k => { slot := k, timer := 20 }) ∧ t.ise.queue = batch.tail
    ∧ (∀ k, slotRec t k =
        if batch.head? = some k then
          { freshSlot with present := true, source := some .line, stage := .inFlight, status := .scanning }
        else if k ∈ batch then { freshSlot with present := true, source := some .line, stage := .queued }
        else freshSlot)
    ∧ FiguresCurrent t
    ∧ (supplied = true → t.pbu.hold = true ∧ t.pbu.holdTimer = some 5000
        ∧ t.pbu.emg = { phase := .none, graceTimer := none, shedBay := none, shedCount := 0, lastShed := none,
                        runShed := false }
        ∧ t.pbu.ae = .opened ∧ t.pbu.ae2 = .opened ∧ (∀ b, (bayRec t b).emergencyCause = false)
        ∧ flagRec t 2 = { raised := false, cause := none })
    ∧ (supplied = false → StartedInEmergency .hold t)
    ∧ ((∃ b, adopted b = true) → ∃ b, adopted b = true ∧ Raised (.bayChange b) t)
    ∧ ((∀ b, adopted b = false) → flagRec t 0 = { raised := false, cause := none })
    ∧ (∀ c, c ≠ 0 → c ≠ 2 → flagRec t c = { raised := false, cause := none })
    ∧ t.sve.chassisNumber = straps ∧ t.sve.resetCause = cause ∧ t.sve.adoptedCount = countFin 16 adopted

/-- A soft reset has run its course from the state `s` (R175, R177, R180), with the straps at the level that it
read, which is free (log 7). -/
def SoftlyReset (s t : State) : Prop :=
  let straps := Config.strapLevel s.pins.strapReads
  t.pins = { s.pins with chn := straps, strapReads := s.pins.strapReads + 1 }
    ∧ TakenOver .softReset straps (fun b => (bayRec s b).pen && bayState s b != .ramping) s t

/-- The slot's identity is being read afresh (R32, R33, R41): absorbed where the slot is queued or in flight,
taken at once by an idle engine, and otherwise put at the tail of the queue. -/
def FreshlyRequested (k : Slot) (s t : State) : Prop :=
  let r := slotRec s k
  let fresh : SlotRec := { r with present := true, source := some .line, failures := 0 }
  let absorbed := r.stage = .queued ∨ r.stage = .inFlight
  (absorbed → slotRec t k = fresh ∧ t.ise.queue = s.ise.queue ∧ t.ise.scan = s.ise.scan)
    ∧ (¬absorbed → s.ise.scan = none →
        slotRec t k = { fresh with stage := .inFlight, status := .scanning, retryTimer := none }
          ∧ t.ise.queue = s.ise.queue ∧ t.ise.scan = some { slot := k, timer := 20 })
    ∧ (¬absorbed → s.ise.scan ≠ none →
        slotRec t k = { fresh with stage := .queued, status := .none, retryTimer := none }
          ∧ t.ise.queue = s.ise.queue ++ [k] ∧ t.ise.scan = s.ise.scan)
    ∧ ∀ j, j ≠ k → slotRec t j = slotRec s j

/-- The scan in flight of slot `k` has ended, and the engine has taken the next queued slot, if any (R33). -/
def EngineMovedOn (k : Slot) (s t : State) : Prop :=
  (s.ise.queue = [] → t.ise.scan = none ∧ t.ise.queue = [] ∧ ∀ j, j ≠ k → slotRec t j = slotRec s j)
    ∧ ∀ h, s.ise.queue.head? = some h →
        t.ise.scan = some { slot := h, timer := 20 } ∧ t.ise.queue = s.ise.queue.tail
          ∧ slotRec t h = { slotRec s h with stage := .inFlight, status := .scanning }
          ∧ ∀ j, j ≠ k → j ≠ h → slotRec t j = slotRec s j

/-- The first check of R29 that an image fails, if any. -/
def imageFailure (kind : SlotKind) (image : Image) : Option ScanFailure :=
  if sumFin 16 (fun i => (Bank.read image i).toNat) % 256 ≠ 0 then some .check
  else if (Bank.read image 14).toNat ≠ 1 then some .format
  else if imageKind image ≠ kindNumber kind then some .kind
  else if classInRange (imageClass kind image) = false then some .range
  else none

/-- The failure with which a command ends a scan of slot `k` that is in flight, if it does (R30, R31). -/
def scanFailure (k : Slot) : Instr → Option ScanFailure
  | .scanNoAnswer j => if j = k then some .noAnswer else none
  | .scanTimerExpiry j => if j = k then some .timeout else none
  | .sixteenthByteReceived j image => if j = k then imageFailure (slotKind k) image else none
  | _ => none

/-- The slot has neither a scan in flight nor a place in the queue, and its record is as at reset (R39). -/
def SlotCleared (k : Slot) (t : State) : Prop :=
  slotRec t k = resetSlot ∧ k ∉ t.ise.queue ∧ scanning t k = false

/-- The scanning of slot `k` has been aborted (R33, R39, R40): the queue is the old one without the slot, and an
engine that is free, the aborted scan having been the one in flight, takes its head. -/
def ScanAborted (k : Slot) (s t : State) : Prop :=
  let rest := s.ise.queue.filter (· ≠ k)
  let free := s.ise.scan = none ∨ s.ise.scan.map (·.slot) = some k
  (¬free → t.ise.scan = s.ise.scan ∧ t.ise.queue = rest ∧ ∀ j, j ≠ k → slotRec t j = slotRec s j)
    ∧ (free → rest = [] → t.ise.scan = none ∧ t.ise.queue = [] ∧ ∀ j, j ≠ k → slotRec t j = slotRec s j)
    ∧ (free → ∀ h, rest.head? = some h →
        t.ise.scan = some { slot := h, timer := 20 } ∧ t.ise.queue = rest.tail
          ∧ slotRec t h = { slotRec s h with stage := .inFlight, status := .scanning }
          ∧ ∀ j, j ≠ k → j ≠ h → slotRec t j = slotRec s j)

/-- The state with one more dropped copy counted at the queue, nothing else being changed (R155). -/
def oneDropped (p : Port) (s : State) : State :=
  putQueue p { queueOf s p with dropped := min ((queueOf s p).dropped + 1) 4294967295 } s

/-- What one copy offered to a queue comes to (R150, R156): it is admitted within quota and pool, every other
queue standing. Without room it stays out and is counted as dropped, which raises QUEUE_DROP with its alert,
and nothing else changes. Towards an uplink that is not usable it is counted and nothing else. -/
def Received (p : Port) (c : Copy) (s t : State) : Prop :=
  let open_ := match p with | .uplink u => usable s u | .bay _ => true
  let q := queueOf s p
  let room := q.held + copyCells c ≤ q.quota ∧ copyCells c ≤ s.fbm.free
  (open_ = true → room →
      queueOf t p = { q with
          frames := q.frames ++ [c], held := q.held + copyCells c
          enqueued := min (q.enqueued + 1) 4294967295
          sending := q.sending || served s p }
        ∧ t.fbm.free = s.fbm.free - copyCells c ∧ t.sve.flags = s.sve.flags
        ∧ ∀ x, x ≠ p → queueOf t x = queueOf s x)
    ∧ (open_ = true → ¬room →
        Alerted (.queueDrop (.egress p)) (oneDropped p s) t
          ∧ ∀ b, queueOf t (.bay b) = queueOf (oneDropped p s) (.bay b))
    ∧ (open_ = false → t = oneDropped p s)

/-- What becomes of the flood copy for one bay, where the copies of one frame are offered in turn
(R129, R137, R138, R156): admitted or counted as dropped, and admitted for certain where its queue has room
and the pool has room for all. A bay that is offered none keeps its queue. -/
def FloodedTo (b : Bay) (c : Option Copy) (s t : State) : Prop :=
  let q := queueOf s (.bay b)
  let q' := queueOf t (.bay b)
  (c = none → q' = q)
    ∧ ∀ x, c = some x →
      let admitted := q' = { q with
        frames := q.frames ++ [x], held := q.held + copyCells x
        enqueued := min (q.enqueued + 1) 4294967295, sending := true }
      let lost := q' = { q with dropped := min (q.dropped + 1) 4294967295 }
      (admitted ∨ lost) ∧ (q.held + copyCells x ≤ q.quota → 210 ≤ s.fbm.free → admitted)
        ∧ (q.quota < q.held + copyCells x → lost)

/-- The flood copy that a frame with chassis tag `c` makes for a bay (R128, R129, R137): none outside ON, none
for the frame's own bay, and none where the bay's window gives the tag no image. -/
def floodCopy (skip : Option Bay) (f : RxFrame) (c : Nat) (s : State) (b : Bay) : Option Copy :=
  if bayState s b = .poweredOn ∧ skip ≠ some b then
    (reverseTag (window s b) c).map fun t => { kind := .forwarded, tag := t, bytes := frameUntagged f }
  else none

/-- The frame has been flooded to the bays in ON (R138). -/
def Flooded (f : RxFrame) (c : Nat) (s t : State) : Prop := ∀ b, FloodedTo b (floodCopy none f c s b) s t

/-- The copy of an upstream frame for the uplink that is selected for its bay (R136): offered to that uplink's
queue, or counted as a no-uplink drop where none is usable. -/
def UplinkCopied (b : Bay) (f : RxFrame) (c : Nat) (s t : State) : Prop :=
  (∀ w, selectedUplink s b = some w →
      Received (.uplink w) { kind := .forwarded, tag := c, bytes := frameUntagged f } s t
        ∧ KeepsAllBut reportParts s t)
    ∧ (selectedUplink s b = none →
      bayRec t b = followThrottle { bayRec s b with noUplink := min ((bayRec s b).noUplink + 1) 65535 }
        ∧ (∀ x, x ≠ b → bayRec t x = bayRec s x) ∧ KeepsAllBut [.bays] s t)

/-- The service input queue has room for the frame (R157). -/
def ServiceRoom (f : RxFrame) (s : State) : Prop :=
  s.fbm.svc.frames.length < 16 ∧ s.fbm.svc.held + (frameLength f + 127) / 128 ≤ 64
    ∧ (frameLength f + 127) / 128 ≤ s.fbm.free

/-- What a service frame offered to the service input queue comes to (R157). -/
def ServiceOffered (p : Port) (f : RxFrame) (s t : State) : Prop :=
  (ServiceRoom f s →
      t.fbm.svc = { s.fbm.svc with
          frames := s.fbm.svc.frames ++ [{ arrival := p, frame := f }]
          held := s.fbm.svc.held + (frameLength f + 127) / 128
          enqueued := min (s.fbm.svc.enqueued + 1) 4294967295 }
        ∧ t.fbm.free = s.fbm.free - (frameLength f + 127) / 128 ∧ KeepsAllBut [.svcQueue, .pool] s t)
    ∧ (¬ServiceRoom f s →
      t.fbm.svc = { s.fbm.svc with dropped := min (s.fbm.svc.dropped + 1) 4294967295 }
        ∧ Alerted (.queueDrop .svc) s t
        ∧ KeepsAllBut (.svcQueue :: reportParts) s t)

/-- What learning leaves of the station table (R133, R134): the source `a` of a frame of bay `b` with blade
tag `tag`, under the chassis tag `c`. -/
def Learned (b : Bay) (a : Addr) (tag c : Nat) (s t : State) : Prop :=
  let entry : StationEntry := { address := a, chassisTag := c, bay := b, bladeTag := tag, kind := .dynamic 0 }
  (isGroup a = true → t.stb = s.stb)
    ∧ (isGroup a = false →
      (∀ p, findStation s a c = some p →
          (isDynamic p.entry = false → t.stb = s.stb)
            ∧ (isDynamic p.entry = true → t.stb = { s.stb with
                places := s.stb.places.map fun x => if x.index = p.index then { x with entry := {
                  p.entry with bay := b, bladeTag := tag, kind := .dynamic 0 } } else x }))
        ∧ (findStation s a c = none → ∀ i, lowestEmpty s = some i →
            t.stb = { s.stb with places := insertPlace { index := i, entry := entry } s.stb.places })
        ∧ (findStation s a c = none → lowestEmpty s = none →
            t.stb = { s.stb with learnMiss := min (s.stb.learnMiss + 1) 4294967295 }
              ∧ Raised (.stationFull b) t))

/-! ### Requests and responses -/

/-- The SVE is ready with no frame before this one, and the pool has room for the longest request, a LOAD_CURVE of
255 points, which takes 7 cells (R157, R186); what comes of a request with fewer cells free is a statement of its
own (ServiceFramesAreTheirCommands). -/
def ServiceFree (s : State) : Prop :=
  s.mode = .running ∧ s.sve.softReset = none ∧ s.fbm.svc.frames = [] ∧ s.fbm.svc.held = 0 ∧ 7 ≤ s.fbm.free

/-- The port offers the service frames that it receives to the service input queue (R21, R151). -/
def PortOpen (p : Port) (s : State) : Prop :=
  match p with
  | .bay b => accepting (bayState s b) = true
  | .uplink u => (uplinkRec s u).link = true ∧ (uplinkRec s u).enabled = true ∧ (uplinkRec s u).right = true

/-- The envelope comes from an uplink with full rights, and the SVE is free to take it (R151, R164, R166). -/
def FromManager (e : Envelope) (u : Uplink) (s : State) : Prop :=
  ServiceFree s ∧ e.arrival = .uplink u ∧ PortOpen (.uplink u) s

/-- The envelope comes from a bay in an accepting state, and the SVE is free to take it (R21, R164, R166). -/
def FromBay (e : Envelope) (b : Bay) (s : State) : Prop :=
  ServiceFree s ∧ e.arrival = .bay b ∧ PortOpen (.bay b) s

/-- One more frame has been admitted to the service input queue, and has been taken from it: it is counted, and its
cells are back in the pool (R157). -/
def oneTaken (s : State) : State :=
  { s with fbm := { s.fbm with svc := { s.fbm.svc with enqueued := min (s.fbm.svc.enqueued + 1) 4294967295 } } }

/-- The response of R167: back to the sender from the service address with the sender's tag, the command
code and request tag echoed, the status and the result. -/
def responseTo (e : Envelope) (code status : Nat) (body : List Byte) (s : State) : Copy :=
  { kind := .response, tag := e.tag.toNat,
    bytes := serviceFrame s e.source e.tag.toNat 2 code status e.requestTag.toNat body }

/-- The command's frame is admitted and taken, its effect turns `s` into `u`, with that frame counted, and it
answers: the response is offered to the egress queue of its arrival port (R157, R167, R168). -/
def Answers (c : Instr) (s u : State) (e : Envelope) (code status : Nat) (body : List Byte) : Prop :=
  exec c s = .next (offer e.arrival (responseTo e code status body (oneTaken u)) (oneTaken u))

/-- The command of a frame that a port receives. -/
def portFrame : Port → RxFrame → Instr
  | .bay b, f => .bayPortFrame b f
  | .uplink u, f => .uplinkPortFrame u f

/-- The SVE does not take this request where it stands: it is not ready, or another frame or none is at the head of
the service input queue (R157). -/
def NotAtHead (e : Envelope) (r : Request) (s : State) : Prop :=
  s.sve.softReset ≠ none ∨ ∀ f, s.fbm.svc.frames.head? = some f → spells f e r = false

/-- A frame as it carries a request to the part: the service address, the header of R183, the body of R186,
and padding up to the shortest frame (R163, R182, R184). -/
def requestFrame (s : State) (e : Envelope) (r : Request) : RxFrame :=
  let body := requestBody r
  { checkOk := true
    bytes := encodeAddr (serviceAddress s.sve.chassisNumber) ++ encodeAddr e.source
      ++ (if e.tag = 0 then [] else encode16 0xD381 ++ encode16 e.tag.toNat) ++ encode16 0xD380
      ++ [1, 1, byteOf (requestCode r), 0] ++ encode16 e.requestTag.toNat ++ encode16 body.length ++ body
      ++ servicePadding e.tag.toNat body.length }

/-! ### Result bodies (R186)

Each record field by field in the order of its rule's table, the computed fields after them (R184); where the
rules leave an order or a width open, log 13. -/

/-- READ_BAY: the record of R1, the thermal entry of R88, the window of R122. -/
def bayAnswer (s : State) (b : Bay) : List Byte :=
  let r := bayRec s b
  let e := thermalEntry s b
  let w := window s b
  positionIn [.empty, .detected, .identifying, .standby, .waitPower, .ramping, .poweredOn, .stopping, .fault, .maint]
      r.state
    ++ oneByte r.priority ++ twoBytes r.cap ++ oneByte r.prefUplink.val ++ oneByte r.zone.val
    ++ twoValued r.autoRestore ++ twoBytes r.grant ++ twoValued r.adopted ++ twoValued r.shedMark
    ++ twoValued r.critical ++ twoValued r.emergencyCause ++ twoValued r.airflowCause ++ oneByte r.insertions
    ++ twoBytes r.overflows ++ twoBytes r.noUplink ++ twoBytes r.refused ++ timerByte r.insertTimer
    ++ timerByte r.removeTimer ++ timerByte r.rampTimer ++ timerByte r.stopTimer
    ++ optionalField 1 (e.margin.map oneByte) ++ twoValued e.critical ++ twoValued e.current ++ twoBytes e.age
    ++ oneByte w.bs ++ oneByte w.cs ++ oneByte w.bb ++ oneByte w.cb

/-- The class data of an identity: that of a bay, of a supply and of a fan (R27). -/
def classAnswer : ClassData → List Byte
  | .bay maxPower standby => twoBytes maxPower ++ oneByte standby
  | .psu capacity => twoBytes capacity
  | .fan speed power ppr => twoBytes speed ++ oneByte power ++ oneByte ppr

/-- READ_SLOT: the record of R27. -/
def slotAnswer (s : State) (k : Slot) : List Byte :=
  let r := slotRec s k
  let width := if k.val < 16 then 3 else if k.val < 20 then 2 else 4
  oneByte (if k.val < 16 then 0 else if k.val < 20 then 1 else 2) ++ twoValued r.present
    ++ positionIn [.none, .scanning, .complete, .unidentified] r.status
    ++ orNone (r.source.map fun x => [IdSource.line, .announce].idxOf x)
    ++ positionIn [.idle, .queued, .inFlight, .retryWait] r.stage
    ++ optionalField 4 (r.ident.map fun i => fourBytes i.word.toNat)
    ++ optionalField 4 (r.ident.map fun i => fourBytes i.signature.toNat)
    ++ optionalField width (r.ident.map fun i => classAnswer i.data) ++ oneByte r.failures
    ++ orNone (r.lastFailure.map fun x => [ScanFailure.noAnswer, .timeout, .check, .format, .kind, .range].idxOf x)
    ++ timerByte r.retryTimer

/-- READ_POWER: the fields of R56 in the order of its list. -/
def powerAnswer (s : State) : List Byte :=
  let p := s.pbu
  let f := p.figures
  positionIn [.none, .one, .half] p.policy.redundancy ++ twoBytes p.policy.baseLoad ++ oneByte p.policy.gapSteps
    ++ twoBytes p.policy.grace ++ oneByte p.policy.stopTimeout
    ++ positionIn [.opened, .closed] p.ae ++ positionIn [.opened, .closed] p.ae2
    ++ positionIn [.none, .grace, .shedding, .exhausted] p.emg.phase ++ orNone (p.emg.shedBay.map (·.val))
    ++ oneByte p.emg.shedCount ++ twoValued p.hold
    ++ twoBytes f.supplySum ++ oneByte f.supplyCount ++ twoBytes f.reserve ++ twoBytes f.available
    ++ twoBytes f.allocated ++ twoBytes f.base ++ twoBytes f.standby ++ twoBytes f.grants ++ twoBytes f.fans
    ++ (List.finRange 4).flatMap (fun i =>
      twoValued (supplyRec s i).present ++ twoValued (supplyRec s i).psuOk
        ++ positionIn [.absent, .pending, .unidentified, .notOk, .ok] (supplyRec s i).condition
        ++ twoBytes (supplyRec s i).capacity)
    ++ (match p.seq with
      | .idle => [0, 0xFF]
      | .admitting b => 1 :: oneByte b.val
      | .ramp b => 2 :: oneByte b.val
      | .gap b => 3 :: oneByte b.val)
    ++ countedList (p.waitList.map fun w => oneByte w.bay.val)

/-- READ_ZONE: the fields of R92, those of R109, M and h. -/
def zoneAnswer (s : State) (z : Zone) : List Byte :=
  let r := zoneRec s z
  let a := zoneAir s z
  positionIn [.disabled, .auto, .forced] r.mode ++ twoBytes r.floor ++ twoBytes r.forced ++ oneByte r.staleLimit
    ++ oneByte r.stepDown ++ countedList (r.curve.map fun p => oneByte p.margin ++ twoBytes p.duty)
    ++ twoBytes r.target ++ oneByte r.contributing ++ oneByte r.staleBays ++ twoBytes a.compensated
    ++ twoBytes a.applied ++ positionIn [.normal, .noAirflow] a.airflow ++ oneByte a.assigned ++ oneByte a.turning

/-- READ_FAN: the record of R105, and the class data while the identity is COMPLETE. -/
def fanAnswer (s : State) (f : Fan) : List Byte :=
  let r := fanRec s f
  let k := slotRec s (slotOfFan f)
  positionIn [.absent, .spinup, .running, .failed] r.state ++ oneByte r.zone.val ++ twoBytes r.minRun
    ++ oneByte r.prescale ++ oneByte r.residue ++ twoBytes r.count ++ twoBytes r.minDuty ++ timerByte r.tachTimer
    ++ optionalField 4 (r.rpm.map fourBytes) ++ oneByte r.spinup ++ oneByte r.low ++ oneByte r.good
    ++ twoBytes r.duty ++ timerByte r.insertTimer ++ timerByte r.removeTimer
    ++ optionalField 4 (if k.status = .complete then k.ident.map fun i => classAnswer i.data else none)

/-- READ_UPLINK: the record of R147, whether it is usable, and the bays in ON whose selection names it (R149). -/
def uplinkAnswer (s : State) (u : Uplink) : List Byte :=
  let r := uplinkRec s u
  twoValued r.link ++ twoValued r.enabled ++ twoValued r.right ++ twoBytes r.refused
    ++ twoValued (r.link && r.enabled)
    ++ countedList (((List.finRange 16).filter fun b =>
        bayState s b = .poweredOn ∧ (r.link && r.enabled) = true
          ∧ ((bayRec s b).prefUplink = u ∨ usable s (bayRec s b).prefUplink = false)).map fun b => oneByte b.val)

/-- READ_QUEUE: number of frames, held cells, quota and counters of R155, whether the queue is served (R158) and
the free cells of the pool. -/
def queueAnswer (s : State) (frames held quota enqueued dropped : Nat) (isServed : Bool) : List Byte :=
  twoBytes frames ++ twoBytes held ++ twoBytes quota ++ fourBytes enqueued ++ fourBytes dropped
    ++ twoValued isServed ++ twoBytes s.fbm.free

/-- READ_QUEUE of an egress queue. -/
def egressAnswer (s : State) (p : Port) : List Byte :=
  let q := queueOf s p
  queueAnswer s q.frames.length q.held q.quota q.enqueued q.dropped (served s p)

/-- READ_STATION: up to 16 places of 16 bytes from the first index on, stopping after 1023, the number of
entries, the learn-miss counter and the aging time in s (R145). -/
def stationAnswer (s : State) (first count : Nat) : List Byte :=
  let shown := min (max 1 (min 16 count)) (1024 - first)
  countedList ((List.range shown).map fun i =>
      twoBytes (first + i) ++
        match s.stb.places.find? (fun p => p.index = first + i) with
        | none => 0 :: List.replicate 13 0
        | some p =>
          1 :: (sixBytes p.entry.address ++ twoBytes p.entry.chassisTag ++ oneByte p.entry.bay.val
            ++ twoBytes p.entry.bladeTag ++
              match p.entry.kind with
              | .dynamic idle => 0 :: oneByte idle
              | .fixed => 1 :: twoValued (decide (bayState s p.entry.bay ≠ .poweredOn))))
    ++ twoBytes s.stb.places.length ++ fourBytes s.stb.learnMiss ++ twoBytes (s.stb.agingSteps * 10)

/-- READ_EVENTS: the records of the classes that are both set and unmasked, in class order, and the alert target
(R170, R185). -/
def eventsAnswer (s : State) : List Byte :=
  countedList ((List.finRange 10).filterMap fun c =>
      if (flagRec s c).raised = true ∧ Bank.read s.sve.unmasked c = true then (flagRec s c).cause.map recordOf
      else none)
    ++ optionalField 7 (s.sve.alertTarget.map fun x => oneByte x.1.val ++ sixBytes x.2)

/-- IDENTIFY_PART: the fields of R174. -/
def partAnswer (s : State) : List Byte :=
  [0x16, 0x20, 1] ++ oneByte s.sve.chassisNumber.toNat
    ++ positionIn [.powerOn, .resetLine, .softReset] s.sve.resetCause ++ oneByte s.sve.adoptedCount

/-! ### Laws of the frame buffer (R154, R155, R157) -/

/-- A queue's held cells are those of its copies, and only a queue that holds a copy sends (R155, R158). -/
def queueTrue (q : Queue) : Prop := q.held = cellsHeld q.frames ∧ (q.sending = true → q.frames ≠ [])

/-- The cells held by the service input queue's frames. -/
def svcCellsHeld (frames : List SvcFrame) : Nat := (frames.map fun f => svcCells f.frame).sum

/-- The pool's free cells and the cells held by all 19 queues total 2048 (R154), every queue's held cells are
those of its copies (R155), and the service input queue holds at most 16 frames and 64 cells (R157). -/
def PoolLaw (s : State) : Prop :=
  s.fbm.free + sumFin 16 (fun b => (Bank.read s.fbm.bayQ b).held)
      + sumFin 2 (fun u => (Bank.read s.fbm.upQ u).held) + s.fbm.svc.held = 2048
    ∧ (∀ p, queueTrue (queueOf s p))
    ∧ s.fbm.svc.held = svcCellsHeld s.fbm.svc.frames ∧ s.fbm.svc.frames.length ≤ 16 ∧ s.fbm.svc.held ≤ 64

/-- A queue that is not served holds no copy and sends nothing (R158). -/
def ServedLaw (s : State) : Prop :=
  (∀ b, bayState s b = .empty ∨ bayState s b = .maint →
      (queueOf s (.bay b)).frames = [] ∧ (queueOf s (.bay b)).sending = false)
    ∧ ∀ u, (uplinkRec s u).link = false ∨ (uplinkRec s u).enabled = false →
      (queueOf s (.uplink u)).frames = [] ∧ (queueOf s (.uplink u)).sending = false

/-! ### Laws of the station table (R131, R139) -/

/-- No two entries have the same station address and chassis tag. -/
def keysDistinct (places : List Place) : Prop :=
  places.Pairwise fun p q => ¬(p.entry.address = q.entry.address ∧ p.entry.chassisTag = q.entry.chassisTag)

/-- The 1024 places in rising order of index, no two with one key, every entry's chassis tag the forward
translation of its blade tag under its bay's window (R131). -/
def StationLaw (s : State) : Prop :=
  (s.stb.places.Pairwise fun p q => p.index < q.index) ∧ (∀ p ∈ s.stb.places, p.index < 1024)
    ∧ keysDistinct s.stb.places
    ∧ ∀ p ∈ s.stb.places, forwardTag (window s p.entry.bay) p.entry.bladeTag = some p.entry.chassisTag

/-- Every DYNAMIC station entry names a bay whose state is ON (R139). -/
def DynamicLaw (s : State) : Prop :=
  ∀ p ∈ s.stb.places, isDynamic p.entry = true → bayState s p.entry.bay = .poweredOn

/-! ### Laws of admission (R54, R58, R63) -/

/-- One entry stands before another: a higher priority, or the same and an older stamp (R58). -/
def before (s : State) (x y : Waiting) : Prop :=
  priorityOf s x.bay < priorityOf s y.bay ∨ priorityOf s x.bay = priorityOf s y.bay ∧ x.stamp < y.stamp

/-- A bay is in the power wait list exactly when its state is WAIT_POWER, and at most once; the list is
ordered by priority and then by entry stamp, and the stamps given out are distinct and rising (R58). -/
def WaitListLaw (s : State) : Prop :=
  (∀ b, (∃ w ∈ s.pbu.waitList, w.bay = b) ↔ bayState s b = .waitPower)
    ∧ (s.pbu.waitList.map (·.bay)).Nodup ∧ s.pbu.waitList.Pairwise (before s)
    ∧ (s.pbu.waitList.map (·.stamp)).Nodup ∧ ∀ w ∈ s.pbu.waitList, w.stamp < s.pbu.nextStamp

/-- The sequencer is in RAMP naming a bay exactly when that bay is in RAMPING, so at most one bay is
(R63). -/
def RampLaw (s : State) : Prop := ∀ b, bayState s b = .ramping ↔ s.pbu.seq = .ramp b

/-- Outside a power emergency and the adoption hold, allocated power is not greater than available power,
by the figures of the last evaluation (R54). -/
def BudgetLaw (s : State) : Prop :=
  s.mode = .running → s.pbu.emg.phase = .none → s.pbu.hold = false →
    s.pbu.figures.allocated ≤ s.pbu.figures.available

/-- The emergency record, the gate and the throttle causes agree (R71, R72, R73, R85): AE is closed and no
hold is in force while an emergency is in progress, every bay carries the cause exactly then, the grace
timer runs exactly in GRACE, and a shed bay is named exactly in SHEDDING. -/
def EmergencyLaw (s : State) : Prop :=
  s.mode = .running →
    (s.pbu.emg.phase ≠ .none → s.pbu.ae = .closed ∧ s.pbu.hold = false)
      ∧ (∀ b, (bayRec s b).emergencyCause = true ↔ s.pbu.emg.phase ≠ .none)
      ∧ (s.pbu.emg.graceTimer ≠ none ↔ s.pbu.emg.phase = .grace)
      ∧ (s.pbu.emg.shedBay ≠ none ↔ s.pbu.emg.phase = .shedding)

/-! ### Laws of the bays' lines (R1, R20, R24) -/

/-- Out of reset BAY_PEN is driven exactly in RAMPING, ON and STOPPING, BAY_SDR exactly in STOPPING, and
BAY_THR exactly with a cause in ON or STOPPING; a bay outside those three states holds no grant. -/
def LinesLaw (s : State) : Prop :=
  s.mode = .running → ∀ b,
    ((bayRec s b).pen = hasMain (bayState s b)) ∧ ((bayRec s b).sdr = (bayState s b == .stopping))
      ∧ ((bayRec s b).thr = (((bayRec s b).emergencyCause || (bayRec s b).airflowCause) && isUp (bayState s b)))
      ∧ (hasMain (bayState s b) = false → (bayRec s b).grant = 0)

/-! ### Laws of identity scanning (R27, R32, R33) -/

/-- A slot is in the queue exactly while its stage is QUEUED, and once; its status is SCANNING exactly while
its stage is IN_FLIGHT, which is while its scan is the one in flight; its retry timer runs exactly in
RETRY_WAIT; a slot that waits for the engine or its retry has status NONE; a slot fallen back to ANNOUNCE has
no scanning work; and no slot waits for an idle engine. -/
def ScanLaw (s : State) : Prop :=
  s.ise.queue.Nodup ∧ (∀ k, k ∈ s.ise.queue ↔ (slotRec s k).stage = .queued)
    ∧ (∀ k, scanning s k = true ↔ (slotRec s k).stage = .inFlight)
    ∧ (∀ k, (slotRec s k).status = .scanning ↔ (slotRec s k).stage = .inFlight)
    ∧ (∀ k, (slotRec s k).retryTimer ≠ none ↔ (slotRec s k).stage = .retryWait)
    ∧ (∀ k, (slotRec s k).stage = .queued ∨ (slotRec s k).stage = .retryWait → (slotRec s k).status = .none)
    ∧ (∀ k, (slotRec s k).source = some .announce → (slotRec s k).stage = .idle)
    ∧ (s.ise.scan = none → s.ise.queue = [])

/-! ### Laws of the figures (R27, R47, R54, R56, R61) -/

/-- The kind of the class data. -/
def ClassData.kind : ClassData → SlotKind
  | .bay _ _ => .bay
  | .psu _ => .psu
  | .fan _ _ _ => .fan

/-- The class data of every slot is of its kind and in its range (R27). -/
def ClassLaw (s : State) : Prop :=
  ∀ k i, (slotRec s k).ident = some i → i.data.kind = slotKind k ∧ classInRange i.data = true

/-- A slot of status COMPLETE holds identity values (R27, R34, R43). -/
def IdentLaw (s : State) : Prop := ∀ k, (slotRec s k).status = .complete → (slotRec s k).ident ≠ none

/-- Every supply's condition and counted capacity follow from its presence, its PSU_OK and its slot's
identity (R47). -/
def SupplyLaw (s : State) : Prop :=
  ∀ p, (supplyRec s p).condition
        = conditionOf (supplyRec s p).present (supplyRec s p).psuOk (slotRec s (slotOfPsu p)).status
      ∧ (supplyRec s p).capacity = if (supplyRec s p).condition = .ok then classCapacity s p else 0

/-- Out of reset the recorded figures are current (R56), with the laws that this rests on. -/
def FiguresLaw (s : State) : Prop :=
  ScanLaw s ∧ ClassLaw s ∧ IdentLaw s ∧ SupplyLaw s ∧ (s.mode = .running → FiguresCurrent s)

/-- Out of reset the head of the wait list does not wait where it could be admitted (R61). -/
def HeadLaw (s : State) : Prop :=
  s.mode = .running → s.pbu.seq = .idle → ∀ w, s.pbu.waitList.head? = some w → ¬Fits s w.bay

/-! ### Other laws -/

/-- At least one uplink holds the management right (R152). -/
def ManagementLaw (s : State) : Prop := ∃ u, (uplinkRec s u).right = true

/-- The critical field of a thermal entry and the critical flag of its bay record agree (R88). -/
def CriticalLaw (s : State) : Prop := ∀ b, (bayRec s b).critical = (thermalEntry s b).critical

/-- Out of reset FAN_DRV carries the applied duty, and 0 while the slot is ABSENT and not debouncing an
insertion (R108). -/
def DriveLaw (s : State) : Prop :=
  s.mode = .running → ∀ f,
    (fanRec s f).drive =
      if (fanRec s f).state = .absent ∧ (fanRec s f).insertTimer = none then 0 else (fanRec s f).duty

/-- A zone in AUTO has a curve (R93, R98). -/
def CurveLaw (s : State) : Prop := ∀ z, (zoneRec s z).mode = .auto → (zoneRec s z).curve ≠ []

/-! ### Commands without effect, and timers that have run out -/

/-- The commands that move something in reset: the levels of the lines, and the resets themselves (R177). -/
def movesInReset : Instr → Bool
  | .bayPresChange _ _ | .bayPgAsserted _ | .bayPgLow _ | .psuPresChange _ _ | .psuOkChange _ _ | .fanPresChange _ _
  | .linkUp _ | .linkDown _ | .powerOnResetBegin | .powerOnResetComplete _ | .resetNAsserted | .resetNReleased _ => true
  | _ => false

/-- The command finds nothing to act on, in or out of reset (log 3): a line that already has the level (log 22),
the expiry of a timer that does not run or runs in another state, a scan event of a slot with no scan in
flight, a pulse of an absent fan, a hand-over that is not due, a frame that fails its checks or comes over a
link that is DOWN, a port that sends nothing, a soft reset pending or an empty queue where the SVE would take a
frame, and a request that does not wait at the head of the service input queue and whose link is DOWN (log 4). -/
def nothingToDo (s : State) : Instr → Prop
  | .bayPresChange b present => Bank.read s.pins.bayPres b = present
  | .psuPresChange p present => Bank.read s.pins.psuPres p = present
  | .fanPresChange f present => Bank.read s.pins.fanPres f = present
  | .bayInsertionDebounceExpiry b => (bayRec s b).insertTimer = none ∨ bayState s b ≠ .empty
  | .bayRemovalDebounceExpiry b => (bayRec s b).removeTimer = none ∨ bayState s b = .empty
  | .rampTimerExpiry b => (bayRec s b).rampTimer = none ∨ bayState s b ≠ .ramping
  | .stopTimerExpiry b => (bayRec s b).stopTimer = none ∨ bayState s b ≠ .stopping
  | .admissionTaken => ¬Admitting s
  | .shedTaken => s.pbu.emg.phase ≠ .shedding ∨ s.pbu.emg.shedBay = none
  | .psuInsertionDebounceExpiry p => (supplyRec s p).insertTimer = none ∨ (supplyRec s p).present = true
  | .psuRemovalDebounceExpiry p => (supplyRec s p).removeTimer = none ∨ (supplyRec s p).present = false
  | .adoptionHoldTimerExpiry => s.pbu.holdTimer = none ∨ s.pbu.hold = false
  | .graceTimerExpiry => s.pbu.emg.graceTimer = none ∨ s.pbu.emg.phase ≠ .grace
  | .staggerGapTimerExpiry => s.pbu.gapTimer = none ∨ ∀ b, s.pbu.seq ≠ .gap b
  | .sixteenthByteReceived k _ | .scanNoAnswer k | .scanTimerExpiry k => s.ise.scan.map (·.slot) ≠ some k
  | .retryTimerExpiry k => (slotRec s k).retryTimer = none ∨ (slotRec s k).stage ≠ .retryWait
  | .fanInsertionDebounceExpiry f => (fanRec s f).insertTimer = none ∨ (fanRec s f).state ≠ .absent
  | .fanRemovalDebounceExpiry f => (fanRec s f).removeTimer = none ∨ (fanRec s f).state = .absent
  | .fanTachPulse f => (fanRec s f).state = .absent
  | .tachWindowExpiry f => (fanRec s f).tachTimer = none
  | .controlTimerExpiry => s.thu.controlTimer = none
  | .bayPortFrame _ f => frameSound f = false
  | .uplinkPortFrame u f => frameSound f = false ∨ (uplinkRec s u).link = false
  | .transmissionComplete p => (queueOf s p).sending = false
  | .agingSweepTimerExpiry => s.stb.sweepTimer = none
  | .powerOnResetComplete _ => s.mode = .running ∨ s.mode = .lineReset
  | .serviceFrameTaken => s.sve.softReset ≠ none ∨ s.fbm.svc.frames = []
  | .bayPgAsserted _ | .bayPgLow _ | .psuOkChange _ _ | .linkUp _ | .linkDown _ | .powerOnResetBegin
  | .resetNAsserted | .resetNReleased _ => False
  | request => ∃ x, request.request? = some x ∧ NotAtHead x.1 x.2 s
      ∧ ∃ u, x.1.arrival = .uplink u ∧ (uplinkRec s u).link = false

/-- The spec gives the command no effect in this state (R177, logs 3 and 4). -/
def WithoutEffect (c : Instr) (s : State) : Prop :=
  s.mode ≠ .running ∧ movesInReset c = false ∨ nothingToDo s c

/-- The command is the expiry of a timer that has come to 0. -/
def RunOut (s : State) : Instr → Prop
  | .bayInsertionDebounceExpiry b => (bayRec s b).insertTimer = some 0
  | .bayRemovalDebounceExpiry b => (bayRec s b).removeTimer = some 0
  | .rampTimerExpiry b => (bayRec s b).rampTimer = some 0
  | .stopTimerExpiry b => (bayRec s b).stopTimer = some 0
  | .psuInsertionDebounceExpiry p => (supplyRec s p).insertTimer = some 0
  | .psuRemovalDebounceExpiry p => (supplyRec s p).removeTimer = some 0
  | .adoptionHoldTimerExpiry => s.pbu.holdTimer = some 0
  | .graceTimerExpiry => s.pbu.emg.graceTimer = some 0
  | .staggerGapTimerExpiry => s.pbu.gapTimer = some 0
  | .scanTimerExpiry k => s.ise.scan = some { slot := k, timer := 0 }
  | .retryTimerExpiry k => (slotRec s k).retryTimer = some 0
  | .fanInsertionDebounceExpiry f => (fanRec s f).insertTimer = some 0
  | .fanRemovalDebounceExpiry f => (fanRec s f).removeTimer = some 0
  | .tachWindowExpiry f => (fanRec s f).tachTimer = some 0
  | .controlTimerExpiry => s.thu.controlTimer = some 0
  | .agingSweepTimerExpiry => s.stb.sweepTimer = some 0
  | _ => False

/-! ### Effects of requests -/

/-- A bay has entered WAIT_POWER (R6, R59): with the next stamp it stands behind every waiting bay of higher or
equal priority and before every other, and an idle sequencer has evaluated the head. -/
def PowerQueued (b : Bay) (s t : State) : Prop :=
  bayRec t b = followThrottle { bayRec s b with state := .waitPower } ∧ Raised (.bayChange b) t
    ∧ (∀ c, c ≠ b → bayRec t c = bayRec s c) ∧ t.pbu.nextStamp = s.pbu.nextStamp + 1
    ∧ (WaitListLaw s → t.pbu.waitList
        = s.pbu.waitList.filter (fun w => decide (priorityOf s w.bay ≤ priorityOf s b))
          ++ { bay := b, stamp := s.pbu.nextStamp }
            :: s.pbu.waitList.filter (fun w => decide (priorityOf s b < priorityOf s w.bay)))
    ∧ (∀ w, w ∈ t.pbu.waitList ↔ w ∈ s.pbu.waitList ∨ w = { bay := b, stamp := s.pbu.nextStamp })
    ∧ (s.pbu.seq = .idle → HeadEvaluated t) ∧ (s.pbu.seq ≠ .idle → Part.sequencer.same s t)
    ∧ FlagsKeptBut [0, 7] s t ∧ AlertsOnly s t
    ∧ KeepsAllBut ([.bays, .waitList, .sequencer] ++ reportParts) s t

/-- A bay in RAMPING, ON or STOPPING has lost main power at once (R12, R13, R5). -/
def PoweredDown (b : Bay) (s t : State) : Prop :=
  sameBayRecord { bayRec s b with
      state := if isComplete s (slotOfBay b) then .standby else .identifying
      pen := false, sdr := false, grant := 0, adopted := false, rampTimer := none, stopTimer := none }
      (bayRec t b)
    ∧ Raised (.bayChange b) t ∧ Compared (.bay b) s t
    ∧ (bayState s b = .ramping → SequencerFreed b s t)
    ∧ (bayState s b ≠ .ramping → EvaluatedFor (.bay b) s t)
    ∧ (bayState s b = .poweredOn → Flushed (.bay b) s t ∧ Purged b s t)
    ∧ (bayState s b ≠ .poweredOn → queueOf t (.bay b) = queueOf s (.bay b) ∧ t.stb = s.stb)
    ∧ OtherBayQueuesKept b s t ∧ OtherBaysKept b s t ∧ FlagsKeptBut [0, 2, 3, 7] s t ∧ AlertsOnly s t
    ∧ KeepsAllBut (.bayQueues :: .stations :: budgetParts) s t

/-- A waiting bay has been taken off the list (R13, R60). -/
def WaitCancelled (b : Bay) (s t : State) : Prop :=
  bayRec t b = followThrottle { bayRec s b with
      state := if isComplete s (slotOfBay b) then .standby else .identifying, adopted := false }
    ∧ Raised (.bayChange b) t ∧ (∀ c, c ≠ b → bayRec t c = bayRec s c)
    ∧ t.pbu.waitList = s.pbu.waitList.filter (fun w => w.bay ≠ b) ∧ t.pbu.nextStamp = s.pbu.nextStamp
    ∧ (s.pbu.seq = .idle → HeadEvaluated t) ∧ (s.pbu.seq ≠ .idle → Part.sequencer.same s t)
    ∧ FlagsKeptBut [0, 7] s t ∧ AlertsOnly s t
    ∧ KeepsAllBut ([.bays, .waitList, .sequencer] ++ reportParts) s t

/-- A zone has been set DISABLED (R94): it is driven at full duty, and stage 3 has set its airflow status. -/
def ZoneAtFullDuty (z : Zone) (s t : State) : Prop :=
  let m := fansAssigned s z
  let h := fansTurning s z
  let airflow : Airflow := if m ≠ 0 ∧ h = 0 then .noAirflow else .normal
  zoneAir t z = { compensated := 1000, applied := 1000, airflow := airflow, assigned := m, turning := h }
    ∧ (∀ f, fanRec t f =
        if (fanRec s f).zone = z then followDrive (dutySet 1000 (fanRec s f)) else followDrive (fanRec s f))
    ∧ (airflow = (zoneAir s z).airflow → KeepsAllBut [.zones, .air, .fans] s t)
    ∧ (airflow ≠ (zoneAir s z).airflow → Raised (.zoneAlarm z (decide (airflow = .normal))) t
        ∧ (∀ b, bayRec t b = followThrottle { bayRec s b with
            airflowCause := if (bayRec s b).zone = z then decide (airflow = .noAirflow)
              else (bayRec s b).airflowCause })
        ∧ FlagsKeptBut [5, 7] s t)

end Sys2Proof.Machine
end

