-- ==== Sys2Proof/Certificates/Slice0/Obligations.lean ====
section
/-! DEFINITION. The statements for the provers: what each command does and leaves alone, by the numbered
rules of spec/, and the laws that every step keeps. -/

open Sys2Proof Sys2Proof.Machine

/-- One step is the command at the front of the queue, carried out with the rest of the queue; with no
command waiting, a part in reset idles (log 1). -/
def Obligations.StepRunsTheFrontCommand : Prop :=
  (∀ (c : Instr) (s : State), step { s with pending := c :: s.pending } = exec c s)
  ∧ (∀ (s : State), s.pending = [] → s.mode ≠ .running → step s = .next s)

/-- Every command has a next state in every state: nothing faults and nothing is refused (R177). What a
command without effect comes to is the model's choice (logs 3, 4 and 22). -/
def Obligations.EveryCommandAnswersNext : Prop :=
  (∀ (c : Instr) (s : State), ∃ t, exec c s = .next t)
  ∧ (∀ (c : Instr) (s : State), WithoutEffect c s → exec c s = .next s)

/-- The completion of a power-on reset (R177, R179) at the values of R1, R27, R47, R55, R92, R105, R109 and
R155. The model's own: `State.reset` is the outcome with quiet lines (log 6), the order in which the
supply and RESET_N may come (log 8), M and h read 0 (log 10), and the entry stamps restart at 0 (log
30). -/
def Obligations.PowerOnResetCompletes : Prop :=
  (∀ (straps : BitVec 4) (x : Bool) (s : State),
    s.mode = .powerOnReset x → s.pins.resetN = false →
    ∃ t, exec (.powerOnResetComplete straps) s = .next t ∧ t.pins = { s.pins with chn := straps }
      ∧ TablesFresh s t ∧ StartedInEmergency .start t
      ∧ (∀ b, bayRec t b = { freshBay b with
          emergencyCause := true
          insertTimer := if Bank.read s.pins.bayPres b then some 200 else none })
      ∧ (∀ p, supplyRec t p = { freshSupply (Bank.read s.pins.psuOk p) with
          insertTimer := if Bank.read s.pins.psuPres p then some 200 else none })
      ∧ (∀ f, fanRec t f = { freshFan f with
          insertTimer := if Bank.read s.pins.fanPres f then some 200 else none
          drive := if Bank.read s.pins.fanPres f then 1000 else 0 })
      ∧ (∀ k, slotRec t k = freshSlot) ∧ t.ise.queue = [] ∧ t.ise.scan = none
      ∧ t.pbu.figures = { supplySum := 0, supplyCount := 0, reserve := 0, available := 0, base := 100
                          standby := 0, grants := 0, fans := 0 }
      ∧ t.pbu.figures.allocated = 100
      ∧ (∀ c, c ≠ 2 → flagRec t c = { raised := false, cause := none })
      ∧ t.sve.chassisNumber = straps ∧ t.sve.resetCause = .powerOn ∧ t.sve.adoptedCount = 0)
  ∧ (∀ (s : State),
    s.mode = .powerOnReset false → s.pins = quietPins →
    exec (.powerOnResetComplete 0) s = .next { State.reset with pending := s.pending })
  ∧ (∀ (straps : BitVec 4) (x : Bool) (s : State),
    s.mode = .powerOnReset x → s.pins.resetN = true →
    exec (.powerOnResetComplete straps) s = .next { s with mode := .powerOnReset true }
      ∧ ∃ t, exec (.powerOnResetComplete straps) { s with pins := { s.pins with resetN := false } } = .next t
        ∧ exec (.resetNReleased straps) { s with mode := .powerOnReset true } = .next t)

/-- The beginning of a power-on reset and of a reset-line reset (R178). The settings stand until the
completion. -/
def Obligations.ResetBeginningEndsAllWork : Prop :=
  (∀ (s : State),
    ∃ t, exec .powerOnResetBegin s = .next t ∧ t.mode = .powerOnReset false ∧ t.pins = s.pins
      ∧ ResetBegun true s t)
  ∧ (∀ (s : State),
    s.mode = .running →
    ∃ t, exec .resetNAsserted s = .next t ∧ t.mode = .lineReset
      ∧ t.pins = { s.pins with resetN := true } ∧ ResetBegun false s t)
  ∧ (∀ (s : State),
    s.mode ≠ .running →
    exec .resetNAsserted s = .next { s with pins := { s.pins with resetN := true } })

/-- The takeover at the completion of a reset-line reset (R180, R181). The model's own: what RESET_N does in
a power-on reset whose supply is not stable (log 8), M and h read 0 (log 10), and the entry stamps
restart at 0 (log 30). -/
def Obligations.WarmResetTakesOver : Prop :=
  (∀ (straps : BitVec 4) (s : State),
    s.mode = .lineReset →
    ∃ t, exec (.resetNReleased straps) s = .next t
      ∧ t.pins = { s.pins with resetN := false, chn := straps }
      ∧ TakenOver .resetLine straps (fun b => (bayRec s b).pen) s t)
  ∧ (∀ (straps : BitVec 4) (s : State),
    s.mode = .powerOnReset false ∨ s.mode = .running →
    exec (.resetNReleased straps) s = .next { s with pins := { s.pins with resetN := false } })

/-- The presence lines of bays (R2), supplies (R48) and fans (R106), with BAY_THR and FAN_DRV following
(R20, R108). That a repeated level is no change is log 22. -/
def Obligations.PresenceLinesDebounced : Prop :=
  (∀ (b : Bay) (present : Bool) (s : State),
    s.mode = .running → Bank.read s.pins.bayPres b ≠ present →
    ∃ t, exec (.bayPresChange b present) s = .next t
      ∧ t.pins = { s.pins with bayPres := Bank.put s.pins.bayPres b present }
      ∧ (present = true → bayState s b = .empty →
          bayRec t b = followThrottle { bayRec s b with insertTimer := some 200 })
      ∧ (present = false → bayState s b = .empty →
          bayRec t b = followThrottle { bayRec s b with insertTimer := none })
      ∧ (present = false → bayState s b ≠ .empty →
          bayRec t b = followThrottle { bayRec s b with removeTimer := some 20 })
      ∧ (present = true → bayState s b ≠ .empty →
          bayRec t b = followThrottle { bayRec s b with removeTimer := none })
      ∧ (∀ c, c ≠ b → bayRec t c = bayRec s c) ∧ KeepsAllBut [.pins, .bays] s t)
  ∧ (∀ (b : Bay) (present : Bool) (s : State),
    Bank.read s.pins.bayPres b = present → exec (.bayPresChange b present) s = .next s)
  ∧ (∀ (b : Bay) (present : Bool) (s : State),
    s.mode ≠ .running →
    exec (.bayPresChange b present) s
      = .next { s with pins := { s.pins with bayPres := Bank.put s.pins.bayPres b present } })
  ∧ (∀ (p : Psu) (present : Bool) (s : State),
    s.mode = .running → Bank.read s.pins.psuPres p ≠ present →
    ∃ t, exec (.psuPresChange p present) s = .next t
      ∧ t.pins = { s.pins with psuPres := Bank.put s.pins.psuPres p present }
      ∧ (present = true → (supplyRec s p).present = false →
          supplyRec t p = { supplyRec s p with insertTimer := some 200 })
      ∧ (present = false → (supplyRec s p).present = false →
          supplyRec t p = { supplyRec s p with insertTimer := none })
      ∧ (present = false → (supplyRec s p).present = true →
          supplyRec t p = { supplyRec s p with removeTimer := some 20 })
      ∧ (present = true → (supplyRec s p).present = true →
          supplyRec t p = { supplyRec s p with removeTimer := none })
      ∧ (∀ q, q ≠ p → supplyRec t q = supplyRec s q) ∧ KeepsAllBut [.pins, .supplies] s t)
  ∧ (∀ (f : Fan) (present : Bool) (s : State),
    s.mode = .running → Bank.read s.pins.fanPres f ≠ present →
    ∃ t, exec (.fanPresChange f present) s = .next t
      ∧ t.pins = { s.pins with fanPres := Bank.put s.pins.fanPres f present }
      ∧ (present = true → (fanRec s f).state = .absent →
          fanRec t f = { fanRec s f with insertTimer := some 200, drive := (fanRec s f).duty })
      ∧ (present = false → (fanRec s f).state = .absent →
          fanRec t f = { fanRec s f with insertTimer := none, drive := 0 })
      ∧ (present = false → (fanRec s f).state ≠ .absent →
          fanRec t f = { fanRec s f with removeTimer := some 20, drive := (fanRec s f).duty })
      ∧ (present = true → (fanRec s f).state ≠ .absent →
          fanRec t f = { fanRec s f with removeTimer := none, drive := (fanRec s f).duty })
      ∧ (∀ g, g ≠ f → fanRec t g = fanRec s g) ∧ KeepsAllBut [.pins, .fans] s t)
  ∧ (∀ (p : Psu) (f : Fan) (present : Bool) (s : State),
    s.mode ≠ .running →
    exec (.psuPresChange p present) s
        = .next { s with pins := { s.pins with psuPres := Bank.put s.pins.psuPres p present } }
      ∧ exec (.fanPresChange f present) s
        = .next { s with pins := { s.pins with fanPres := Bank.put s.pins.fanPres f present } })

/-- The raising of an event with its alert (R169, R173, R185), in the operation that every event goes
through and in events of six classes, BAY_CHANGE in two. -/
def Obligations.AlertsFollowNewFlags : Prop :=
  (∀ (x : Cause) (s : State), Alerted x s (raise x s))
  ∧ (∀ (f : Fan) (s : State),
    s.mode = .running → (fanRec s f).tachTimer ≠ none →
    ∃ t, exec (.tachWindowExpiry f) s = .next t
      ∧ ((fanRec s f).state = .running → (fanRec t f).state = .failed → Alerted (.fanFault f false) s t)
      ∧ ((fanRec s f).state = .failed → (fanRec t f).state = .running → Alerted (.fanFault f true) s t))
  ∧ (∀ (u : Uplink) (s : State),
    s.mode = .running → (uplinkRec s u).link = false →
    ∃ t, exec (.linkUp u) s = .next t ∧ Alerted (.uplinkChange u .linkUp) s t)
  ∧ (∀ (b : Bay) (s : State),
    s.mode = .running → bayState s b = .ramping →
    ∃ t, exec (.bayPgAsserted b) s = .next t ∧ Alerted (.bayChange b) s t)
  ∧ (∀ (b : Bay) (f : RxFrame) (s : State),
    s.mode = .running → frameSound f = true → frameDst f ≠ serviceAddress s.sve.chassisNumber →
    bayState s b = .poweredOn → forwardTag (window s b) (frameTag (.bay b) f) = none →
    ∃ t, exec (.bayPortFrame b f) s = .next t ∧ Alerted (.translateDrop b false) s t)
  ∧ (∀ (b : Bay) (a : Addr) (tag c : Nat) (s : State),
    isGroup a = false → findStation s a c = none → lowestEmpty s = none →
    Alerted (.stationFull b) s (learn b a tag c s))
  ∧ (∀ (s : State),
    s.mode = .running → s.pbu.emg.phase = .grace → s.pbu.emg.graceTimer ≠ none → chooseShed s = none →
    ∃ t, exec .graceTimerExpiry s = .next t ∧ Alerted (.emergency .exhausted .none) s t)
  ∧ (∀ (e : Envelope) (u : Uplink) (b : Bay) (s : State),
    FromManager e u s → bayState s b = .fault →
    ∃ t, Answers (.clearFault e (byteOf b.val)) s t e 19 0 [] ∧ Alerted (.bayChange b) s t)

/-- The insertion of a bay (R3). `ScanLaw` rules out scan records that no run reaches. -/
def Obligations.BayInserted : Prop :=
  ∀ (b : Bay) (s : State),
    s.mode = .running → ScanLaw s → bayState s b = .empty → (bayRec s b).insertTimer ≠ none →
    ∃ t, exec (.bayInsertionDebounceExpiry b) s = .next t
      ∧ sameBayRecord { bayRec s b with
          state := .identifying, insertTimer := none, insertions := min ((bayRec s b).insertions + 1) 255 }
          (bayRec t b)
      ∧ Raised (.bayChange b) t ∧ FreshlyRequested (slotOfBay b) s t ∧ FiguresCurrent t
      ∧ ((slotRec s (slotOfBay b)).status ≠ .complete → (slotRec s (slotOfBay b)).status ≠ .unidentified →
          EvaluatedFor (.bay b) s t)
      ∧ OtherBaysKept b s t ∧ FlagsKeptBut [0, 2, 3, 7] s t ∧ AlertsOnly s t
      ∧ KeepsAllBut ([.slots, .scanQueue, .scan] ++ budgetParts) s t

/-- The removal of a bay (R17). -/
def Obligations.BayRemoved : Prop :=
  ∀ (b : Bay) (s : State),
    s.mode = .running → bayState s b ≠ .empty → (bayRec s b).removeTimer ≠ none →
    ∃ t, exec (.bayRemovalDebounceExpiry b) s = .next t
      ∧ sameBayRecord { bayRec s b with
          state := .empty, pen := false, sdr := false, grant := 0, adopted := false, shedMark := false
          critical := false, removeTimer := none, rampTimer := none, stopTimer := none } (bayRec t b)
      ∧ Raised (.bayChange b) t ∧ SlotCleared (slotOfBay b) t ∧ thermalEntry t b = resetThermal
      ∧ (∀ c, c ≠ b → thermalEntry t c = thermalEntry s c)
      ∧ t.pbu.waitList = s.pbu.waitList.filter (fun w => w.bay ≠ b)
      ∧ t.pbu.nextStamp = s.pbu.nextStamp ∧ SequencerFreed b s t
      ∧ Flushed (.bay b) s t ∧ OtherBayQueuesKept b s t ∧ Purged b s t ∧ Compared (.bay b) s t
      ∧ OtherBaysKept b s t ∧ ScanAborted (slotOfBay b) s t ∧ FlagsKeptBut [0, 2, 3, 7] s t ∧ AlertsOnly s t
      ∧ KeepsAllBut ([.slots, .scanQueue, .scan, .thermal, .waitList, .bayQueues, .stations] ++ budgetParts) s t

/-- R8 and R65, with the thermal entry of R90; BAY_THR follows (R20). -/
def Obligations.BayPowerGoodCompletesARamp : Prop :=
  (∀ (b : Bay) (s : State),
    s.mode = .running → bayState s b = .ramping →
    ∃ t, exec (.bayPgAsserted b) s = .next t
      ∧ t.pins = { s.pins with bayPg := Bank.put s.pins.bayPg b true }
      ∧ bayRec t b = followThrottle { bayRec s b with state := .poweredOn, rampTimer := none }
      ∧ Raised (.bayChange b) t
      ∧ thermalEntry t b = { thermalEntry s b with current := false, age := 0 }
      ∧ (s.pbu.seq = .ramp b → s.pbu.policy.gapSteps ≠ 0 →
          t.pbu.seq = .gap b ∧ t.pbu.gapTimer = some (s.pbu.policy.gapSteps * 100))
      ∧ (s.pbu.seq = .ramp b → s.pbu.policy.gapSteps = 0 →
          HeadEvaluated t ∧ t.pbu.gapTimer = s.pbu.gapTimer)
      ∧ (s.pbu.seq ≠ .ramp b → Part.sequencer.same s t)
      ∧ (∀ c, c ≠ b → bayRec t c = bayRec s c ∧ thermalEntry t c = thermalEntry s c)
      ∧ FlagsKeptBut [0, 7] s t ∧ AlertsOnly s t
      ∧ KeepsAllBut ([.pins, .bays, .thermal, .sequencer] ++ reportParts) s t)
  ∧ (∀ (b : Bay) (s : State),
    s.mode ≠ .running ∨ bayState s b ≠ .ramping →
    exec (.bayPgAsserted b) s = .next { s with pins := { s.pins with bayPg := Bank.put s.pins.bayPg b true } })

/-- R14, with the flush and the purge of R10, and the evaluation that follows (R54, R61, R72, R75, R83). -/
def Obligations.BayPowerFault : Prop :=
  (∀ (b : Bay) (s : State),
    s.mode = .running → bayState s b = .poweredOn ∨ bayState s b = .stopping →
    ∃ t, exec (.bayPgLow b) s = .next t
      ∧ t.pins = { s.pins with bayPg := Bank.put s.pins.bayPg b false }
      ∧ sameBayRecord { bayRec s b with
          state := .fault, pen := false, sdr := false, grant := 0, adopted := false, rampTimer := none
          stopTimer := none } (bayRec t b)
      ∧ Raised (.bayChange b) t ∧ Flushed (.bay b) s t ∧ OtherBayQueuesKept b s t
      ∧ (bayState s b = .poweredOn → Purged b s t) ∧ (bayState s b = .stopping → t.stb = s.stb)
      ∧ EvaluatedFor (.bay b) s t ∧ OtherBaysKept b s t ∧ FlagsKeptBut [0, 2, 3, 7] s t ∧ AlertsOnly s t
      ∧ KeepsAllBut ([.pins, .bayQueues, .stations] ++ budgetParts) s t)
  ∧ (∀ (b : Bay) (s : State),
    s.mode ≠ .running ∨ (bayState s b ≠ .poweredOn ∧ bayState s b ≠ .stopping) →
    exec (.bayPgLow b) s = .next { s with pins := { s.pins with bayPg := Bank.put s.pins.bayPg b false } })

/-- A ramp fault (R9, R66) and the end of a graceful stop (R12, R5). -/
def Obligations.RampFaultAndStopEnd : Prop :=
  (∀ (b : Bay) (s : State),
    s.mode = .running → bayState s b = .ramping → (bayRec s b).rampTimer ≠ none →
    ∃ t, exec (.rampTimerExpiry b) s = .next t
      ∧ sameBayRecord { bayRec s b with
          state := .fault, pen := false, sdr := false, grant := 0, adopted := false, rampTimer := none
          stopTimer := none } (bayRec t b)
      ∧ Raised (.bayChange b) t ∧ SequencerFreed b s t ∧ Compared (.bay b) s t
      ∧ OtherBaysKept b s t ∧ FlagsKeptBut [0, 2, 3, 7] s t ∧ AlertsOnly s t ∧ KeepsAllBut budgetParts s t)
  ∧ (∀ (b : Bay) (s : State),
    s.mode = .running → bayState s b = .stopping → (bayRec s b).stopTimer ≠ none →
    ∃ t, exec (.stopTimerExpiry b) s = .next t
      ∧ sameBayRecord { bayRec s b with
          state := if isComplete s (slotOfBay b) then .standby else .identifying
          pen := false, sdr := false, grant := 0, adopted := false, rampTimer := none, stopTimer := none }
          (bayRec t b)
      ∧ Raised (.bayChange b) t ∧ EvaluatedFor (.bay b) s t
      ∧ OtherBaysKept b s t ∧ FlagsKeptBut [0, 2, 3, 7] s t ∧ AlertsOnly s t ∧ KeepsAllBut budgetParts s t)

/-- The taking of an admission (R7, R64), with the evaluation of its grant; where BAY_PG is already
asserted, that evaluation comes before the ramp ends, so that R77 finds the bay in RAMPING. -/
def Obligations.AdmissionTaken : Prop :=
  (∀ (b : Bay) (s : State),
    s.mode = .running → s.pbu.seq = .admitting b → bayState s b = .waitPower →
    Bank.read s.pins.bayPg b = false →
    ∃ t, exec .admissionTaken s = .next t
      ∧ sameBayRecord { bayRec s b with
          state := .ramping, shedMark := false, pen := true, rampTimer := some 1000
          grant := if (bayRec s b).cap = 0 then classMax s b else min (classMax s b) (bayRec s b).cap }
          (bayRec t b)
      ∧ Raised (.bayChange b) t ∧ t.pbu.seq = .ramp b ∧ t.pbu.gapTimer = s.pbu.gapTimer
      ∧ t.pbu.waitList = s.pbu.waitList.filter (fun w => w.bay ≠ b) ∧ t.pbu.nextStamp = s.pbu.nextStamp
      ∧ Compared (.bay b) s t ∧ OtherBaysKept b s t ∧ FlagsKeptBut [0, 2, 3, 7] s t ∧ AlertsOnly s t
      ∧ KeepsAllBut (.waitList :: budgetParts) s t)
  ∧ (∀ (b : Bay) (s : State),
    s.mode = .running → s.pbu.seq = .admitting b → bayState s b = .waitPower →
    Bank.read s.pins.bayPg b = true →
    ∃ t, exec .admissionTaken s = .next t
      ∧ sameBayRecord { bayRec s b with
          state := .poweredOn, shedMark := false, pen := true, rampTimer := none
          grant := if (bayRec s b).cap = 0 then classMax s b else min (classMax s b) (bayRec s b).cap }
          (bayRec t b)
      ∧ Raised (.bayChange b) t ∧ thermalEntry t b = { thermalEntry s b with current := false, age := 0 }
      ∧ (s.pbu.policy.gapSteps ≠ 0 →
          t.pbu.seq = .gap b ∧ t.pbu.gapTimer = some (s.pbu.policy.gapSteps * 100))
      ∧ (s.pbu.policy.gapSteps = 0 → HeadEvaluated t ∧ t.pbu.gapTimer = s.pbu.gapTimer)
      ∧ t.pbu.waitList = s.pbu.waitList.filter (fun w => w.bay ≠ b) ∧ t.pbu.nextStamp = s.pbu.nextStamp
      ∧ Compared (.bay b) s (updBay b (fun r => { r with state := .ramping }) t)
      ∧ OtherBaysKept b s t ∧ (∀ c, c ≠ b → thermalEntry t c = thermalEntry s c)
      ∧ FlagsKeptBut [0, 2, 3, 7] s t ∧ AlertsOnly s t
      ∧ KeepsAllBut (.waitList :: .thermal :: budgetParts) s t)
  ∧ (∀ (b : Bay) (s : State),
    s.mode = .running → s.pbu.seq = .admitting b → bayState s b ≠ .waitPower →
    ∃ t, exec .admissionTaken s = .next t ∧ HeadEvaluated t ∧ t.pbu.gapTimer = s.pbu.gapTimer
      ∧ KeepsAllBut [.sequencer] s t)

/-- The answer to a shed request (R16, R78, R79). The source of an emergency that ends at a declined request
with nothing shed is the model's reading of R74 (log 11); that a run has shed a bay is read from a field
of the model's own (log 12). -/
def Obligations.ShedTaken : Prop :=
  (∀ (b : Bay) (s : State),
    s.mode = .running → s.pbu.emg.phase = .shedding → s.pbu.emg.shedBay = some b →
    hasMain (bayState s b) = true →
    ∃ t, exec .shedTaken s = .next t
      ∧ sameBayRecord { bayRec s b with
          state := if isComplete s (slotOfBay b) then (if (bayRec s b).autoRestore then .waitPower else .standby)
            else .identifying
          pen := false, sdr := false, grant := 0, adopted := false, rampTimer := none, stopTimer := none
          shedMark := true } (bayRec t b)
      ∧ Raised (.bayChange b) t ∧ t.pbu.emg.lastShed = some b
      ∧ (if (bayRec s b).autoRestore && isComplete s (slotOfBay b) then
          t.pbu.waitList = insertWaiting (priorityOf s) { bay := b, stamp := s.pbu.nextStamp } s.pbu.waitList
            ∧ t.pbu.nextStamp = s.pbu.nextStamp + 1
        else t.pbu.waitList = s.pbu.waitList ∧ t.pbu.nextStamp = s.pbu.nextStamp)
      ∧ ShedDecided (.bay b) (s.pbu.emg.shedCount + 1) s t
      ∧ (t.pbu.emg.phase ≠ .shedding → Raised (.shed b) t)
      ∧ (t.pbu.emg.phase = .shedding → flagRec t 3 = flagRec s 3)
      ∧ SequencerFreed b s t ∧ Flushed (.bay b) s t ∧ OtherBayQueuesKept b s t ∧ Purged b s t
      ∧ OtherBaysKept b s t ∧ FlagsKeptBut [0, 2, 3, 7] s t ∧ AlertsOnly s t
      ∧ KeepsAllBut (.waitList :: .bayQueues :: .stations :: budgetParts) s t)
  ∧ (∀ (b : Bay) (s : State),
    s.mode = .running → s.pbu.emg.phase = .shedding → s.pbu.emg.shedBay = some b →
    hasMain (bayState s b) = false →
    ∃ t, exec .shedTaken s = .next t ∧ sameBayRecord (bayRec s b) (bayRec t b)
      ∧ ShedDecided (lastShedSource s) s.pbu.emg.shedCount s t ∧ t.pbu.emg.lastShed = s.pbu.emg.lastShed
      ∧ (t.pbu.emg.phase ≠ .shedding → s.pbu.emg.runShed = true → ∀ x, s.pbu.emg.lastShed = some x →
          Raised (.shed x) t)
      ∧ (t.pbu.emg.phase = .shedding ∨ s.pbu.emg.runShed = false → flagRec t 3 = flagRec s 3)
      ∧ OtherBaysKept b s t ∧ FlagsKeptBut [2, 3, 7] s t ∧ AlertsOnly s t ∧ t.pbu.gapTimer = s.pbu.gapTimer
      ∧ (s.pbu.seq = .idle → HeadEvaluated t) ∧ (s.pbu.seq ≠ .idle → t.pbu.seq = s.pbu.seq)
      ∧ KeepsAllBut budgetParts s t)

/-- The insertion (R48) and the removal (R49) of a supply. -/
def Obligations.SuppliesInsertedAndRemoved : Prop :=
  (∀ (p : Psu) (s : State),
    s.mode = .running → ScanLaw s → (supplyRec s p).present = false → (supplyRec s p).insertTimer ≠ none →
    ∃ t, exec (.psuInsertionDebounceExpiry p) s = .next t
      ∧ supplyRec t p = { supplyRec s p with
          present := true, condition := .pending, capacity := 0, insertTimer := none }
      ∧ (∀ q, q ≠ p → supplyRec t q = supplyRec s q) ∧ FreshlyRequested (slotOfPsu p) s t
      ∧ EvaluatedFor (.supply p) s t
      ∧ (∀ b, sameBayRecord (bayRec s b) (bayRec t b)) ∧ FlagsKeptBut [2, 3, 7] s t ∧ AlertsOnly s t
      ∧ KeepsAllBut ([.slots, .scanQueue, .scan, .supplies] ++ budgetParts) s t)
  ∧ (∀ (p : Psu) (s : State),
    s.mode = .running → (supplyRec s p).present = true → (supplyRec s p).removeTimer ≠ none →
    ∃ t, exec (.psuRemovalDebounceExpiry p) s = .next t
      ∧ supplyRec t p = { supplyRec s p with
          present := false, condition := .absent, capacity := 0, removeTimer := none }
      ∧ (∀ q, q ≠ p → supplyRec t q = supplyRec s q) ∧ SlotCleared (slotOfPsu p) t
      ∧ ScanAborted (slotOfPsu p) s t ∧ FiguresCurrent t
      ∧ (if s.pbu.hold = true ∧ ∀ q, (supplyRec t q).condition ≠ .pending then
          HoldResolved s t
        else Part.hold.same s t ∧ EvaluatedFor (.supply p) s t)
      ∧ (∀ b, sameBayRecord (bayRec s b) (bayRec t b)) ∧ FlagsKeptBut [2, 3, 7] s t ∧ AlertsOnly s t
      ∧ KeepsAllBut scanParts s t)

/-- A change of PSU_OK (R50), with the table of R47. -/
def Obligations.SupplyConditionFollowsItsInputs : Prop :=
  (∀ (p : Psu) (a : Bool) (s : State),
    s.mode = .running →
    ∃ t, exec (.psuOkChange p a) s = .next t
      ∧ t.pins = { s.pins with psuOk := Bank.put s.pins.psuOk p a }
      ∧ supplyRec t p = { supplyRec s p with
          psuOk := a, condition := (supplyRec t p).condition, capacity := (supplyRec t p).capacity }
      ∧ (supplyRec t p).condition =
          (if (supplyRec s p).present = false then .absent
          else if (slotRec s (slotOfPsu p)).status = .unidentified then .unidentified
          else if (slotRec s (slotOfPsu p)).status ≠ .complete then .pending
          else if a = true then .ok else .notOk)
      ∧ (supplyRec t p).capacity = (if (supplyRec t p).condition = .ok then classCapacity s p else 0)
      ∧ ((supplyRec t p).capacity ≠ (supplyRec s p).capacity → FiguresCurrent t)
      ∧ (if (supplyRec t p).condition ≠ (supplyRec s p).condition ∧ s.pbu.hold = true
            ∧ ∀ q, (supplyRec t q).condition ≠ .pending then
          HoldResolved s t
        else Part.hold.same s t
          ∧ ((supplyRec t p).capacity ≠ (supplyRec s p).capacity → EvaluatedFor (.supply p) s t)
          ∧ ((supplyRec t p).capacity = (supplyRec s p).capacity → KeepsAllBut [.pins, .supplies] s t))
      ∧ (∀ q, q ≠ p → supplyRec t q = supplyRec s q) ∧ (∀ b, sameBayRecord (bayRec s b) (bayRec t b))
      ∧ FlagsKeptBut [2, 3, 7] s t ∧ AlertsOnly s t
      ∧ KeepsAllBut ([.pins, .supplies, .hold] ++ budgetParts) s t)
  ∧ (∀ (p : Psu) (a : Bool) (s : State),
    s.mode ≠ .running →
    exec (.psuOkChange p a) s = .next { s with pins := { s.pins with psuOk := Bank.put s.pins.psuOk p a } })

/-- The expiries of the PBU timers (R67, R76, R86). -/
def Obligations.PowerTimersExpire : Prop :=
  (∀ (s : State),
    s.mode = .running → s.pbu.hold = true → s.pbu.holdTimer ≠ none →
    ∃ t, exec .adoptionHoldTimerExpiry s = .next t ∧ t.pbu.hold = false ∧ t.pbu.holdTimer = none
      ∧ FiguresCurrent t ∧ t.pbu.figures = figuresOf s
      ∧ (s.pbu.emg.phase = .none → overBudget t = true → BeganEmergency .hold s t ∧ Part.sequencer.same s t)
      ∧ (s.pbu.emg.phase = .none → overBudget t = false →
          Part.emergency.same s t ∧ Part.gates.same s t ∧ Part.bays.same s t ∧ Part.flags.same s t
            ∧ (s.pbu.seq = .idle → HeadEvaluated t))
      ∧ (∀ b, sameBayRecord (bayRec s b) (bayRec t b)) ∧ FlagsKeptBut [2, 3, 7] s t ∧ AlertsOnly s t
      ∧ KeepsAllBut (.hold :: budgetParts) s t)
  ∧ (∀ (s : State),
    s.mode = .running → s.pbu.emg.phase = .grace → s.pbu.emg.graceTimer ≠ none →
    ∃ t, exec .graceTimerExpiry s = .next t ∧ t.pbu.emg.graceTimer = none
      ∧ t.pbu.emg.shedCount = s.pbu.emg.shedCount ∧ t.pbu.emg.lastShed = s.pbu.emg.lastShed
      ∧ (∀ b, chooseShed s = some b →
          t.pbu.emg.phase = .shedding ∧ t.pbu.emg.shedBay = some b ∧ KeepsAllBut [.emergency] s t)
      ∧ (chooseShed s = none →
          t.pbu.emg.phase = .exhausted ∧ t.pbu.emg.shedBay = none ∧ Raised (.emergency .exhausted .none) t)
      ∧ FlagsKeptBut [2, 7] s t ∧ AlertsOnly s t ∧ KeepsAllBut (.emergency :: reportParts) s t)
  ∧ (∀ (b : Bay) (s : State),
    s.mode = .running → s.pbu.seq = .gap b → s.pbu.gapTimer ≠ none →
    ∃ t, exec .staggerGapTimerExpiry s = .next t ∧ t.pbu.gapTimer = none ∧ HeadEvaluated t
      ∧ KeepsAllBut [.sequencer] s t)

/-- A scan that ends as complete (R34), with its reports (R44). -/
def Obligations.ScanCompletes : Prop :=
  (∀ (k : Slot) (image : Image) (s : State),
    s.mode = .running → ScanLaw s → scanning s k = true →
    sumFin 16 (fun i => (Bank.read image i).toNat) % 256 = 0 → (Bank.read image 14).toNat = 1 →
    imageKind image = kindNumber (slotKind k) → classInRange (imageClass (slotKind k) image) = true →
    ∃ t, exec (.sixteenthByteReceived k image) s = .next t
      ∧ slotRec t k = { slotRec s k with
          ident := some { word := imageWord image, signature := imageSignature image
                          data := imageClass (slotKind k) image }
          status := .complete, source := some .line, failures := 0, lastFailure := none, stage := .idle }
      ∧ Raised (.identity k) t ∧ EngineMovedOn k s t
      ∧ (∀ p, slotOfPsu p ≠ k → supplyRec t p = supplyRec s p)
      ∧ (∀ b, slotOfBay b ≠ k → sameBayRecord (bayRec s b) (bayRec t b))
      ∧ FlagsKeptBut [0, 1, 2, 3, 7] s t ∧ AlertsOnly s t ∧ KeepsAllBut scanParts s t)
  ∧ (∀ (b : Bay) (image : Image) (s : State),
    s.mode = .running → ScanLaw s → scanning s (slotOfBay b) = true →
    imageFailure (slotKind (slotOfBay b)) image = none →
    ∃ t, exec (.sixteenthByteReceived (slotOfBay b) image) s = .next t ∧ EvaluatedFor (.bay b) s t
      ∧ (bayState s b = .identifying →
          sameBayRecord { bayRec s b with state := .standby } (bayRec t b) ∧ Raised (.bayChange b) t)
      ∧ (isUp (bayState s b) = true → (bayRec s b).adopted = true →
          sameBayRecord { bayRec s b with
            adopted := false, grant := capGrant (image16 image 8 9) (bayRec s b).cap } (bayRec t b))
      ∧ (hasMain (bayState s b) = true → (bayRec s b).adopted = false →
          sameBayRecord { bayRec s b with grant := capGrant (image16 image 8 9) (bayRec s b).cap } (bayRec t b))
      ∧ (bayState s b ≠ .identifying → hasMain (bayState s b) = false →
          sameBayRecord (bayRec s b) (bayRec t b))
      ∧ (bayState s b ≠ .identifying → flagRec t 0 = flagRec s 0)
      ∧ KeepsAllBut ([.slots, .scanQueue, .scan] ++ budgetParts) s t)
  ∧ (∀ (p : Psu) (image : Image) (s : State),
    s.mode = .running → ScanLaw s → scanning s (slotOfPsu p) = true →
    imageFailure (slotKind (slotOfPsu p)) image = none → (supplyRec s p).present = true →
    ∃ t, exec (.sixteenthByteReceived (slotOfPsu p) image) s = .next t
      ∧ supplyRec t p = { supplyRec s p with
          condition := if (supplyRec s p).psuOk then .ok else .notOk
          capacity := if (supplyRec s p).psuOk then image16 image 8 9 else 0 }
      ∧ ((supplyRec t p).capacity ≠ (supplyRec s p).capacity → FiguresCurrent t)
      ∧ (if (supplyRec t p).condition ≠ (supplyRec s p).condition ∧ s.pbu.hold = true
            ∧ ∀ q, (supplyRec t q).condition ≠ .pending then HoldResolved s t
        else Part.hold.same s t
          ∧ ((supplyRec t p).capacity ≠ (supplyRec s p).capacity → EvaluatedFor (.supply p) s t)))
  ∧ (∀ (f : Fan) (image : Image) (s : State),
    s.mode = .running → ScanLaw s → scanning s (slotOfFan f) = true →
    imageFailure (slotKind (slotOfFan f)) image = none →
    ∃ t, exec (.sixteenthByteReceived (slotOfFan f) image) s = .next t ∧ EvaluatedFor (.fan f) s t
      ∧ KeepsAllBut ([.slots, .scanQueue, .scan] ++ budgetParts) s t)

/-- A scan that ends as failed (R31, R35), and what its fourth failure comes to (R37, R38, R86). That
SCAN_NO_ANSWER and SCAN_TIMER_EXPIRY of a slot with no scan in flight do nothing is the model's reading
(log 3). -/
def Obligations.ScanFails : Prop :=
  (∀ (k : Slot) (c : Instr) (f : ScanFailure) (s : State),
    s.mode = .running → ScanLaw s → scanning s k = true →
    scanFailure k c = some f → (slotRec s k).failures < 3 →
    ∃ t, exec c s = .next t
      ∧ slotRec t k = { slotRec s k with
          lastFailure := some f, failures := (slotRec s k).failures + 1, status := .none, stage := .retryWait
          retryTimer := some 500 }
      ∧ EngineMovedOn k s t ∧ KeepsAllBut [.slots, .scanQueue, .scan] s t)
  ∧ (∀ (b : Bay) (c : Instr) (f : ScanFailure) (s : State),
    s.mode = .running → ScanLaw s → scanning s (slotOfBay b) = true →
    scanFailure (slotOfBay b) c = some f → (slotRec s (slotOfBay b)).failures = 3 →
    ∃ t, exec c s = .next t
      ∧ slotRec t (slotOfBay b) = { slotRec s (slotOfBay b) with
          lastFailure := some f, failures := 4, status := .none, stage := .idle, source := some .announce }
      ∧ Raised (.identity (slotOfBay b)) t ∧ EngineMovedOn (slotOfBay b) s t ∧ EvaluatedFor (.bay b) s t
      ∧ (∀ x, sameBayRecord (bayRec s x) (bayRec t x)) ∧ FlagsKeptBut [1, 2, 3, 7] s t ∧ AlertsOnly s t
      ∧ KeepsAllBut ([.slots, .scanQueue, .scan] ++ budgetParts) s t)
  ∧ (∀ (k : Slot) (c : Instr) (f : ScanFailure) (s : State),
    s.mode = .running → ScanLaw s → scanning s k = true →
    scanFailure k c = some f → (slotRec s k).failures = 3 → slotKind k ≠ .bay →
    ∃ t, exec c s = .next t
      ∧ slotRec t k = { slotRec s k with
          lastFailure := some f, failures := 4, status := .unidentified, stage := .idle, source := none
          ident := none }
      ∧ Raised (.identity k) t ∧ EngineMovedOn k s t ∧ (∀ f, slotOfFan f = k → EvaluatedFor (.fan f) s t)
      ∧ (∀ p, slotOfPsu p = k → (supplyRec s p).present = true →
          supplyRec t p = { supplyRec s p with condition := .unidentified, capacity := 0 }
            ∧ ((supplyRec s p).capacity ≠ 0 → FiguresCurrent t)
            ∧ (if (supplyRec s p).condition ≠ .unidentified ∧ s.pbu.hold = true
                  ∧ ∀ q, (supplyRec t q).condition ≠ .pending then HoldResolved s t
              else Part.hold.same s t
                ∧ ((supplyRec s p).capacity ≠ 0 → EvaluatedFor (.supply p) s t)))
      ∧ (slotKind k = .fan → Part.hold.same s t)
      ∧ (∀ p, slotOfPsu p ≠ k → supplyRec t p = supplyRec s p)
      ∧ (∀ x, sameBayRecord (bayRec s x) (bayRec t x)) ∧ FlagsKeptBut [1, 2, 3, 7] s t ∧ AlertsOnly s t
      ∧ KeepsAllBut scanParts s t)
  ∧ (∀ (k : Slot) (image : Image) (s : State),
    scanning s k = false →
    exec (.sixteenthByteReceived k image) s = .next s ∧ exec (.scanNoAnswer k) s = .next s
      ∧ exec (.scanTimerExpiry k) s = .next s)

/-- The end of a retry pause (R36, R33). -/
def Obligations.RetryQueuesTheSlot : Prop :=
  ∀ (k : Slot) (s : State),
    s.mode = .running → ScanLaw s → (slotRec s k).stage = .retryWait →
    ∃ t, exec (.retryTimerExpiry k) s = .next t
      ∧ (s.ise.scan = none →
          slotRec t k = { slotRec s k with stage := .inFlight, status := .scanning, retryTimer := none }
            ∧ t.ise.queue = s.ise.queue ∧ t.ise.scan = some { slot := k, timer := 20 })
      ∧ (s.ise.scan ≠ none →
          slotRec t k = { slotRec s k with stage := .queued, retryTimer := none }
            ∧ t.ise.queue = s.ise.queue ++ [k] ∧ t.ise.scan = s.ise.scan)
      ∧ (∀ j, j ≠ k → slotRec t j = slotRec s j) ∧ KeepsAllBut [.slots, .scanQueue, .scan] s t

/-- The insertion (R106) and the removal (R107) of a fan. -/
def Obligations.FansInsertedAndRemoved : Prop :=
  (∀ (f : Fan) (s : State),
    s.mode = .running → ScanLaw s → (fanRec s f).state = .absent → (fanRec s f).insertTimer ≠ none →
    ∃ t, exec (.fanInsertionDebounceExpiry f) s = .next t
      ∧ fanRec t f = { fanRec s f with
          state := .spinup, spinup := 0, low := 0, good := 0, residue := 0, count := 0
          minDuty := (fanRec s f).duty, tachTimer := some 1000, insertTimer := none, drive := (fanRec s f).duty }
      ∧ (∀ g, g ≠ f → fanRec t g = fanRec s g) ∧ FreshlyRequested (slotOfFan f) s t ∧ EvaluatedFor (.fan f) s t
      ∧ (∀ b, sameBayRecord (bayRec s b) (bayRec t b)) ∧ FlagsKeptBut [2, 3, 7] s t ∧ AlertsOnly s t
      ∧ KeepsAllBut ([.fans, .slots, .scanQueue, .scan] ++ budgetParts) s t)
  ∧ (∀ (f : Fan) (s : State),
    s.mode = .running → (fanRec s f).state ≠ .absent → (fanRec s f).removeTimer ≠ none →
    ∃ t, exec (.fanRemovalDebounceExpiry f) s = .next t
      ∧ fanRec t f = { fanRec s f with
          state := .absent, tachTimer := none, residue := 0, count := 0, rpm := none, spinup := 0, low := 0
          good := 0, removeTimer := none
          drive := if (fanRec s f).insertTimer = none then 0 else (fanRec s f).duty }
      ∧ (∀ g, g ≠ f → fanRec t g = fanRec s g) ∧ SlotCleared (slotOfFan f) t
      ∧ ScanAborted (slotOfFan f) s t ∧ EvaluatedFor (.fan f) s t
      ∧ (∀ b, sameBayRecord (bayRec s b) (bayRec t b)) ∧ FlagsKeptBut [2, 3, 7] s t ∧ AlertsOnly s t
      ∧ KeepsAllBut ([.fans, .slots, .scanQueue, .scan] ++ budgetParts) s t)

/-- The prescaler (R115) and the tach window (R116, R117, R118); FAN_DRV follows (R108). -/
def Obligations.TachPulsesAndWindows : Prop :=
  (∀ (f : Fan) (s : State),
    s.mode = .running → (fanRec s f).state ≠ .absent →
    ∃ t, exec (.fanTachPulse f) s = .next t
      ∧ ((fanRec s f).residue + 1 < (fanRec s f).prescale →
          fanRec t f = followDrive { fanRec s f with residue := (fanRec s f).residue + 1 })
      ∧ ((fanRec s f).prescale ≤ (fanRec s f).residue + 1 →
          fanRec t f = followDrive { fanRec s f with residue := 0, count := min ((fanRec s f).count + 1) 65535 })
      ∧ (∀ g, g ≠ f → fanRec t g = fanRec s g) ∧ KeepsAllBut [.fans] s t)
  ∧ (∀ (f : Fan) (s : State), (fanRec s f).state = .absent → exec (.fanTachPulse f) s = .next s)
  ∧ (∀ (f : Fan) (s : State),
    s.mode = .running → (fanRec s f).tachTimer ≠ none →
    ∃ t, exec (.tachWindowExpiry f) s = .next t
      ∧ fanRec t f = followDrive { fanRec s f with
          state := (fanRec t f).state, spinup := (fanRec t f).spinup, low := (fanRec t f).low
          good := (fanRec t f).good, count := 0, minDuty := (fanRec s f).duty, tachTimer := some 1000
          rpm := (fanIdentity s f).map fun i => (fanRec s f).count * (fanRec s f).prescale * 60 / i.2 }
      ∧ ((fanRec s f).state = .spinup →
          (if (fanRec s f).spinup + 1 < 2 then
            (fanRec t f).state = .spinup ∧ (fanRec t f).spinup = (fanRec s f).spinup + 1
              ∧ (fanRec t f).low = (fanRec s f).low ∧ (fanRec t f).good = (fanRec s f).good
          else (fanRec t f).state = .running ∧ (fanRec t f).spinup = 2 ∧ (fanRec t f).low = 0
            ∧ (fanRec t f).good = 0) ∧ t.sve = s.sve)
      ∧ ((fanRec s f).state = .absent
          ∨ ((fanRec s f).state ≠ .spinup ∧ (fanIdentity s f = none ∨ (fanRec s f).minDuty < 200)) →
          (fanRec t f).state = (fanRec s f).state ∧ (fanRec t f).spinup = (fanRec s f).spinup
            ∧ (fanRec t f).low = (fanRec s f).low ∧ (fanRec t f).good = (fanRec s f).good ∧ t.sve = s.sve)
      ∧ (∀ i, fanIdentity s f = some i → 200 ≤ (fanRec s f).minDuty →
          ((fanRec s f).state = .running ∨ (fanRec s f).state = .failed) →
          Judged f (decide ((fanRec s f).count * (fanRec s f).prescale * 60 / i.2
            < i.1 * (fanRec s f).minDuty / 1000 / 2)) s t)
      ∧ (∀ g, g ≠ f → fanRec t g = fanRec s g) ∧ FlagsKeptBut [4, 7] s t ∧ AlertsOnly s t
      ∧ KeepsAllBut (.fans :: reportParts) s t)

/-- The control timer expiry: the zone computation (R96 to R102) and stages 3 to 5 (R109 to R113), with the
classes and demands of R91, R97 and R98. -/
def Obligations.ControlTimerDrivesTheFans : Prop :=
  (∀ (s : State),
    s.mode = .running → s.thu.controlTimer ≠ none →
    ∃ t, exec .controlTimerExpiry s = .next t ∧ t.thu.controlTimer = some 250
      ∧ (∀ z,
        let r := zoneRec s z
        zoneRec t z = { r with
            target := (zoneRec t z).target
            contributing := countFin 16 fun b =>
              decide (classIn s z b = some .critical ∨ classIn s z b = some .stale ∨ classIn s z b = some .reporting)
            staleBays := countFin 16 fun b => decide (classIn s z b = some .stale) }
          ∧ (r.mode = .disabled → (zoneRec t z).target = 1000)
          ∧ (r.mode = .forced → (∃ b, classIn s z b = some .critical) → (zoneRec t z).target = 1000)
          ∧ (r.mode = .forced → (∀ b, classIn s z b ≠ some .critical) → (zoneRec t z).target = r.forced)
          ∧ (r.mode = .auto →
              r.floor ≤ (zoneRec t z).target ∧ (∀ b, demandIn s z b ≤ (zoneRec t z).target)
                ∧ ((zoneRec t z).target = r.floor ∨ ∃ b, demandIn s z b = (zoneRec t z).target)))
      ∧ (∀ z,
        let target := (zoneRec t z).target
        let m := fansAssigned s z
        let h := fansTurning s z
        let a := zoneAir t z
        a.assigned = m ∧ a.turning = h
          ∧ a.compensated
              = (if m = 0 then target else if h = 0 then 1000 else min 1000 ((target * m + (h - 1)) / h))
          ∧ a.airflow = (if m ≠ 0 ∧ h = 0 then .noAirflow else .normal)
          ∧ a.applied
              = (if (zoneRec s z).mode = .disabled then 1000
                else if (zoneAir s z).applied ≤ a.compensated then a.compensated
                else max a.compensated ((zoneAir s z).applied - (zoneRec s z).stepDown)))
      ∧ ((∃ z, (zoneAir t z).airflow ≠ (zoneAir s z).airflow) →
          ∃ z, (zoneAir t z).airflow ≠ (zoneAir s z).airflow
            ∧ Raised (.zoneAlarm z (decide ((zoneAir t z).airflow = .normal))) t)
      ∧ ((∀ z, (zoneAir t z).airflow = (zoneAir s z).airflow) →
          KeepsAllBut [.controlTimer, .zones, .air, .fans] s t)
      ∧ (∀ f, fanRec t f
          = followDrive (dutySet (min 1000 (max (zoneAir t (fanRec s f).zone).applied (fanRec s f).minRun))
              (fanRec s f)))
      ∧ (∀ b,
        let z := (bayRec s b).zone
        bayRec t b = { bayRec s b with
          thr := (bayRec t b).thr
          airflowCause :=
            if (zoneAir t z).airflow = (zoneAir s z).airflow then (bayRec s b).airflowCause
            else decide ((zoneAir t z).airflow = .noAirflow) })
      ∧ FlagsKeptBut [5, 7] s t ∧ AlertsOnly s t
      ∧ KeepsAllBut ([.controlTimer, .zones, .air, .fans, .bays] ++ reportParts) s t)
  ∧ (∀ (z : Zone) (b : Bay) (s : State),
    let e := thermalEntry s b
    let part := isUp (bayState s b) = true ∧ (bayRec s b).zone = z
    let critical := e.current = true ∧ (e.critical = true ∨ e.margin = some 0)
    let stale := (zoneRec s z).staleLimit * 1000 < e.age
    (¬part → classIn s z b = none ∧ demandIn s z b = 0)
      ∧ (part → critical → classIn s z b = some .critical ∧ demandIn s z b = 1000)
      ∧ (part → ¬critical → stale → classIn s z b = some .stale ∧ demandIn s z b = 1000)
      ∧ (part → ¬critical → ¬stale → e.current = true → classIn s z b = some .reporting)
      ∧ (part → ¬critical → ¬stale → e.current = false →
          classIn s z b = some .awaiting ∧ demandIn s z b = 0))

/-- A frame received on a bay port (R21, R132), up to learning (R133, R134); StationRequestsCarriedOut
spells the lowest empty place. The model's reading: the cells of a service frame are those of its length
as received (log 14), and a stray frame to the service address is discarded before its tag is translated
(log 28). -/
def Obligations.BayPortFrames : Prop :=
  (∀ (b : Bay) (f : RxFrame) (s : State),
    s.mode ≠ .running ∨ frameSound f = false → exec (.bayPortFrame b f) s = .next s)
  ∧ (∀ (b : Bay) (f : RxFrame) (s : State),
    s.mode = .running → frameSound f = true → isServiceFrame s.sve.chassisNumber f = true →
    accepting (bayState s b) = true →
    ∃ t, exec (.bayPortFrame b f) s = .next t ∧ ServiceOffered (.bay b) f s t)
  ∧ (∀ (b : Bay) (f : RxFrame) (s : State),
    s.mode = .running → frameSound f = true → isServiceFrame s.sve.chassisNumber f = true →
    bayState s b = .empty ∨ bayState s b = .maint →
    ∃ t, exec (.bayPortFrame b f) s = .next t
      ∧ bayRec t b = followThrottle { bayRec s b with refused := min ((bayRec s b).refused + 1) 65535 }
      ∧ (∀ c, c ≠ b → bayRec t c = bayRec s c) ∧ KeepsAllBut [.bays] s t)
  ∧ (∀ (b : Bay) (f : RxFrame) (s : State),
    s.mode = .running → frameSound f = true → isServiceFrame s.sve.chassisNumber f = false →
    bayState s b ≠ .poweredOn →
    ∃ t, exec (.bayPortFrame b f) s = .next t
      ∧ queueOf t (.bay b)
          = { queueOf s (.bay b) with dropped := min ((queueOf s (.bay b)).dropped + 1) 4294967295 }
      ∧ OtherBayQueuesKept b s t ∧ KeepsAllBut [.bayQueues] s t)
  ∧ (∀ (b : Bay) (f : RxFrame) (s : State),
    s.mode = .running → frameSound f = true → isServiceFrame s.sve.chassisNumber f = false →
    bayState s b = .poweredOn → frameDst f = serviceAddress s.sve.chassisNumber →
    exec (.bayPortFrame b f) s = .next s)
  ∧ (∀ (b : Bay) (f : RxFrame) (s : State),
    s.mode = .running → frameSound f = true → frameDst f ≠ serviceAddress s.sve.chassisNumber →
    bayState s b = .poweredOn → forwardTag (window s b) (frameTag (.bay b) f) = none →
    ∃ t, exec (.bayPortFrame b f) s = .next t
      ∧ bayRec t b = followThrottle { bayRec s b with overflows := min ((bayRec s b).overflows + 1) 65535 }
      ∧ (∀ c, c ≠ b → bayRec t c = bayRec s c) ∧ Raised (.translateDrop b false) t
      ∧ FlagsKeptBut [9, 7] s t ∧ AlertsOnly s t ∧ KeepsAllBut (.bays :: reportParts) s t)
  ∧ (∀ (b : Bay) (f : RxFrame) (s : State),
    s.mode = .running → frameSound f = true → frameDst f ≠ serviceAddress s.sve.chassisNumber →
    bayState s b = .poweredOn →
    ∀ c, forwardTag (window s b) (frameTag (.bay b) f) = some c →
    ∃ t, exec (.bayPortFrame b f) s = .next t ∧ Learned b (frameSrc f) (frameTag (.bay b) f) c s t
      ∧ (∀ x, bayRec t x = bayRec s x ∨ x = b) ∧ FlagsKeptBut [8, 7] s t
      ∧ KeepsAllBut ([.bays, .bayQueues, .stations, .learnMiss] ++ reportParts) s t)

/-- The copies of an upstream frame (R135, R136, R137), offered after learning: those of a group frame from
the state `v` that the uplink copy leaves, which is the model's choice of an order (log 17). -/
def Obligations.UpstreamCopies : Prop :=
  (∀ (b : Bay) (f : RxFrame) (s : State),
    s.mode = .running → frameSound f = true → frameDst f ≠ serviceAddress s.sve.chassisNumber →
    bayState s b = .poweredOn → isGroup (frameDst f) = false →
    ∀ c, forwardTag (window s b) (frameTag (.bay b) f) = some c →
    let u := learn b (frameSrc f) (frameTag (.bay b) f) c s
    ∃ t, exec (.bayPortFrame b f) s = .next t
      ∧ (∀ p, findStation u (frameDst f) c = some p →
          (p.entry.bay = b → t = u)
            ∧ (p.entry.bay ≠ b → bayState s p.entry.bay = .poweredOn →
                Received (.bay p.entry.bay)
                    { kind := .forwarded, tag := p.entry.bladeTag, bytes := frameUntagged f } u t
                  ∧ OtherBayQueuesKept p.entry.bay u t ∧ AlertsOnly u t
                  ∧ KeepsAllBut (.bayQueues :: reportParts) u t)
            ∧ (p.entry.bay ≠ b → bayState s p.entry.bay ≠ .poweredOn → UplinkCopied b f c u t))
      ∧ (findStation u (frameDst f) c = none → UplinkCopied b f c u t))
  ∧ (∀ (b : Bay) (f : RxFrame) (s : State),
    s.mode = .running → frameSound f = true → frameDst f ≠ serviceAddress s.sve.chassisNumber →
    bayState s b = .poweredOn → isGroup (frameDst f) = true →
    ∀ c, forwardTag (window s b) (frameTag (.bay b) f) = some c →
    let u := learn b (frameSrc f) (frameTag (.bay b) f) c s
    ∃ t, exec (.bayPortFrame b f) s = .next t
      ∧ ∃ v, UplinkCopied b f c u v ∧ (∀ x, FloodedTo x (floodCopy (some b) f c s x) v t)
        ∧ AlertsOnly v t ∧ FlagsKeptBut [7] v t ∧ KeepsAllBut (.bayQueues :: reportParts) v t)

/-- A frame received on an uplink port (R151), and the copies of a downstream frame (R138). That the cells
of a service frame are those of its length as received is the model's reading (log 14). -/
def Obligations.UplinkPortFrames : Prop :=
  (∀ (u : Uplink) (f : RxFrame) (s : State),
    s.mode ≠ .running ∨ frameSound f = false ∨ (uplinkRec s u).link = false →
    exec (.uplinkPortFrame u f) s = .next s)
  ∧ (∀ (u : Uplink) (f : RxFrame) (s : State),
    s.mode = .running → frameSound f = true → (uplinkRec s u).link = true →
    isServiceFrame s.sve.chassisNumber f = true → (uplinkRec s u).enabled = true → (uplinkRec s u).right = true →
    ∃ t, exec (.uplinkPortFrame u f) s = .next t ∧ ServiceOffered (.uplink u) f s t)
  ∧ (∀ (u : Uplink) (f : RxFrame) (s : State),
    s.mode = .running → frameSound f = true → (uplinkRec s u).link = true →
    isServiceFrame s.sve.chassisNumber f = true → (uplinkRec s u).enabled = false ∨ (uplinkRec s u).right = false →
    ∃ t, exec (.uplinkPortFrame u f) s = .next t
      ∧ uplinkRec t u = { uplinkRec s u with refused := min ((uplinkRec s u).refused + 1) 65535 }
      ∧ (∀ v, v ≠ u → uplinkRec t v = uplinkRec s v) ∧ KeepsAllBut [.uplinks] s t)
  ∧ (∀ (u : Uplink) (f : RxFrame) (s : State),
    s.mode = .running → frameSound f = true → (uplinkRec s u).link = true →
    isServiceFrame s.sve.chassisNumber f = false → (uplinkRec s u).enabled = false →
    ∃ t, exec (.uplinkPortFrame u f) s = .next t
      ∧ queueOf t (.uplink u)
          = { queueOf s (.uplink u) with dropped := min ((queueOf s (.uplink u)).dropped + 1) 4294967295 }
      ∧ (∀ v, v ≠ u → queueOf t (.uplink v) = queueOf s (.uplink v)) ∧ KeepsAllBut [.uplinkQueues] s t)
  ∧ (∀ (u : Uplink) (f : RxFrame) (s : State),
    s.mode = .running → frameSound f = true → (uplinkRec s u).link = true →
    isServiceFrame s.sve.chassisNumber f = false → (uplinkRec s u).enabled = true →
    ∃ t, exec (.uplinkPortFrame u f) s = .next t
      ∧ (frameDst f = serviceAddress s.sve.chassisNumber → t = s)
      ∧ (frameDst f ≠ serviceAddress s.sve.chassisNumber →
          let c := frameTag (.uplink u) f
          (isGroup (frameDst f) = true → Flooded f c s t)
            ∧ (isGroup (frameDst f) = false →
              (findStation s (frameDst f) c = none → Flooded f c s t)
                ∧ ∀ p, findStation s (frameDst f) c = some p →
                  (isDynamic p.entry = false → bayState s p.entry.bay ≠ .poweredOn → Flooded f c s t)
                    ∧ (isDynamic p.entry = true ∨ bayState s p.entry.bay = .poweredOn →
                        Received (.bay p.entry.bay)
                            { kind := .forwarded, tag := p.entry.bladeTag, bytes := frameUntagged f } s t
                          ∧ OtherBayQueuesKept p.entry.bay s t)))
      ∧ FlagsKeptBut [7] s t ∧ AlertsOnly s t ∧ KeepsAllBut (.bayQueues :: reportParts) s t)

/-- The completion of a transmission (R158), and the soft reset that waits for it (R175). The straps that a
soft reset reads are a free value (log 7); its takeover leaves M, h and the next entry stamp at 0, the
model's choice (logs 10 and 30). -/
def Obligations.TransmissionCompletes : Prop :=
  (∀ (p : Port) (s : State),
    s.mode = .running → (queueOf s p).sending = true → headAwaitsReset p s = false →
    ∀ c, (queueOf s p).frames.head? = some c →
    ∃ t, exec (.transmissionComplete p) s = .next t
      ∧ queueOf t p = { queueOf s p with
          frames := (queueOf s p).frames.tail, held := (queueOf s p).held - copyCells c
          sending := decide ((queueOf s p).frames.tail ≠ []) && served s p }
      ∧ t.fbm.free = s.fbm.free + copyCells c ∧ (∀ q, q ≠ p → queueOf t q = queueOf s q)
      ∧ KeepsAllBut [queuePart p, .pool] s t)
  ∧ (∀ (u : Uplink) (s : State),
    s.mode = .running → (queueOf s (.uplink u)).sending = true → s.sve.softReset = some u →
    ((queueOf s (.uplink u)).frames.head?.map (·.kind)) = some .resetResponse →
    ∃ t, exec (.transmissionComplete (.uplink u)) s = .next t ∧ SoftlyReset s t)
  ∧ (∀ (p : Port) (s : State),
    s.mode ≠ .running ∨ (queueOf s p).sending = false →
    exec (.transmissionComplete p) s = .next s)

/-- R141: one aging sweep. -/
def Obligations.AgingSweepForgetsSilentStations : Prop :=
  ∀ (s : State),
    s.mode = .running → s.stb.sweepTimer ≠ none →
    ∃ t, exec .agingSweepTimerExpiry s = .next t ∧ t.stb.sweepTimer = some 10000
      ∧ t.stb.places = s.stb.places.filterMap (fun p =>
          match p.entry.kind with
          | .fixed => some p
          | .dynamic idle =>
            if s.stb.agingSteps ≤ min (idle + 1) 255 then none
            else some { p with entry := { p.entry with kind := .dynamic (min (idle + 1) 255) } })
      ∧ KeepsAllBut [.sweepTimer, .stations] s t

/-- The link reports (R148), the flush of R150 and the soft reset of R175, whose straps are a free value
(log 7) and whose takeover leaves M, h and the next entry stamp at 0, the model's choice (logs 10 and
30). -/
def Obligations.LinkReportsTaken : Prop :=
  (∀ (u : Uplink) (s : State),
    s.mode = .running → (uplinkRec s u).link = false →
    ∃ t, exec (.linkUp u) s = .next t ∧ t.pins = { s.pins with link := Bank.put s.pins.link u true }
      ∧ uplinkRec t u = { uplinkRec s u with link := true } ∧ Raised (.uplinkChange u .linkUp) t
      ∧ (∀ v, v ≠ u → uplinkRec t v = uplinkRec s v)
      ∧ FlagsKeptBut [6, 7] s t ∧ AlertsOnly s t ∧ KeepsAllBut ([.pins, .uplinks] ++ reportParts) s t)
  ∧ (∀ (u : Uplink) (s : State),
    s.mode = .running → (uplinkRec s u).link = true → awaitsReset u s = false →
    ∃ t, exec (.linkDown u) s = .next t ∧ t.pins = { s.pins with link := Bank.put s.pins.link u false }
      ∧ uplinkRec t u = { uplinkRec s u with link := false } ∧ Raised (.uplinkChange u .linkDown) t
      ∧ (∀ v, v ≠ u → uplinkRec t v = uplinkRec s v)
      ∧ (usable s u = true → Flushed (.uplink u) s t)
      ∧ (usable s u = false → queueOf t (.uplink u) = queueOf s (.uplink u))
      ∧ (∀ v, v ≠ u → AlertsOnlyAt v s t)
      ∧ FlagsKeptBut [6, 7] s t ∧ KeepsAllBut ([.pins, .uplinks] ++ reportParts) s t)
  ∧ (∀ (u : Uplink) (s : State),
    s.mode = .running → (uplinkRec s u).link = true → usable s u = true → awaitsReset u s = true →
    ∃ t, exec (.linkDown u) s = .next t
      ∧ SoftlyReset { s with pins := { s.pins with link := Bank.put s.pins.link u false } } t)
  ∧ (∀ (u : Uplink) (s : State),
    (s.mode ≠ .running ∨ (uplinkRec s u).link = true →
      exec (.linkUp u) s = .next { s with pins := { s.pins with link := Bank.put s.pins.link u true } })
    ∧ (s.mode ≠ .running ∨ (uplinkRec s u).link = false →
      exec (.linkDown u) s = .next { s with pins := { s.pins with link := Bank.put s.pins.link u false } }))

/-- The read requests (R168) with their bodies written out (R184 to R186). What the rules leave open of the
bodies is the model's reading (log 13). -/
def Obligations.ReadsAnswerTheirRecords : Prop :=
  (∀ (e : Envelope) (u : Uplink) (s : State),
    FromManager e u s →
    (∀ b : Bay, Answers (.readBay e (byteOf b.val)) s s e 1 0 (bayAnswer s b))
      ∧ (∀ k : Slot, Answers (.readSlot e (byteOf k.val)) s s e 2 0 (slotAnswer s k))
      ∧ Answers (.readPower e) s s e 3 0 (powerAnswer s)
      ∧ (∀ z : Zone, Answers (.readZone e (byteOf z.val)) s s e 4 0 (zoneAnswer s z))
      ∧ (∀ f : Fan, Answers (.readFan e (byteOf f.val)) s s e 5 0 (fanAnswer s f))
      ∧ (∀ v : Uplink, Answers (.readUplink e (byteOf v.val)) s s e 6 0 (uplinkAnswer s v))
      ∧ (∀ b : Bay, Answers (.readQueue e (byteOf b.val)) s s e 7 0 (egressAnswer s (.bay b)))
      ∧ (∀ v : Uplink, Answers (.readQueue e (byteOf (16 + v.val))) s s e 7 0 (egressAnswer s (.uplink v)))
      ∧ Answers (.readQueue e 18) s s e 7 0
          (queueAnswer s 0 0 64 (min (s.fbm.svc.enqueued + 1) 4294967295) s.fbm.svc.dropped false)
      ∧ Answers (.readEvents e) s s e 9 0 (eventsAnswer s)
      ∧ Answers (.identifyPart e) s s e 32 0 (partAnswer s))
  ∧ (∀ (e : Envelope) (u : Uplink) (first : Word16) (count : Byte) (s : State),
    FromManager e u s →
    (first.toNat ≤ 1023 →
        Answers (.readStation e first count) s s e 8 0 (stationAnswer s first.toNat count.toNat))
      ∧ (1023 < first.toNat → Answers (.readStation e first count) s s e 8 4 []))
  ∧ (∀ (e : Envelope) (b : Bay) (s : State),
    FromBay e b s → Answers (.readOwn e) s s e 37 0 (bayAnswer s b ++ slotAnswer s (slotOfBay b)))

/-- The event requests (R170, R171, R172). That the uplink byte of the form NONE is not looked at is log 21. -/
def Obligations.EventRequestsCarriedOut : Prop :=
  (∀ (e : Envelope) (u : Uplink) (classes : Word16) (s : State),
    FromManager e u s → classes.toNat < 1024 →
    (∃ t, Answers (.clearEvents e classes) s t e 10 0 []
        ∧ (∀ c, flagRec t c =
            if classes.getLsbD c.val then { raised := false, cause := none } else flagRec s c)
        ∧ KeepsAllBut [.flags] s t)
      ∧ ∃ t, Answers (.setEventMask e classes) s t e 11 0 []
        ∧ (∀ c, Bank.read t.sve.unmasked c = classes.getLsbD c.val) ∧ KeepsAllBut [.mask] s t)
  ∧ (∀ (e : Envelope) (u : Uplink) (classes : Word16) (s : State),
    FromManager e u s → 1024 ≤ classes.toNat →
    Answers (.clearEvents e classes) s s e 10 4 [] ∧ Answers (.setEventMask e classes) s s e 11 4 [])
  ∧ (∀ (e : Envelope) (u : Uplink) (presence uplink : Byte) (a : Addr) (s : State),
    FromManager e u s →
    (presence = 0 → Answers (.setAlertTarget e presence uplink a) s
        { s with sve := { s.sve with alertTarget := none } } e 12 0 [])
      ∧ (presence = 1 → ∀ v, asUplink uplink = some v → Answers (.setAlertTarget e presence uplink a) s
          { s with sve := { s.sve with alertTarget := some (v, a) } } e 12 0 [])
      ∧ (presence ≠ 0 ∧ (presence ≠ 1 ∨ 2 ≤ uplink.toNat) →
          Answers (.setAlertTarget e presence uplink a) s s e 12 4 []))

/-- SET_BAY_POLICY (R23). That the head is evaluated also where a waiting bay keeps its priority is the
model's reading of R23 and R59 (log 29). -/
def Obligations.BayPolicySet : Prop :=
  (∀ (e : Envelope) (u : Uplink) (b : Bay) (priority : Byte) (cap : Word16) (v : Uplink) (z : Zone)
      (restore : Bool) (s : State),
    FromManager e u s →
    ∃ t, Answers (.setBayPolicy e (byteOf b.val) priority cap (byteOf v.val) (byteOf z.val)
        (if restore then 0 else 1)) s t e 13 0 []
      ∧ (let newCap := if cap = 0 then 0 else max 50 (min 2000 cap.toNat)
        sameBayRecord { bayRec s b with
          priority := min priority.toNat 7, cap := newCap, prefUplink := v, zone := z, autoRestore := restore
          airflowCause := if (bayRec s b).zone = z then (bayRec s b).airflowCause
            else decide ((zoneAir s z).airflow = .noAirflow)
          grant := if hasMain (bayState s b) ∧ (bayRec s b).adopted = false then
              (if newCap = 0 then classMax s b else min (classMax s b) newCap)
            else (bayRec s b).grant } (bayRec t b))
      ∧ ((bayRec t b).grant ≠ (bayRec s b).grant → EvaluatedFor (.bay b) s t)
      ∧ ((bayRec t b).grant = (bayRec s b).grant → KeepsAllBut [.bays, .waitList, .sequencer] s t)
      ∧ (bayState s b ≠ .waitPower → Part.waitList.same s t)
      ∧ (bayState s b = .waitPower →
          (WaitListLaw s → WaitListLaw t ∧ ∀ w ∈ s.pbu.waitList, w ∈ t.pbu.waitList)
            ∧ (∀ w ∈ t.pbu.waitList, w ∈ s.pbu.waitList)
            ∧ t.pbu.waitList.filter (fun w => w.bay ≠ b) = s.pbu.waitList.filter (fun w => w.bay ≠ b)
            ∧ t.pbu.nextStamp = s.pbu.nextStamp
            ∧ (s.pbu.seq = .idle → HeadEvaluated t) ∧ (s.pbu.seq ≠ .idle → Part.sequencer.same s t))
      ∧ OtherBaysKept b s t ∧ FlagsKeptBut [2, 3, 7] s t ∧ AlertsOnly s t
      ∧ KeepsAllBut (.waitList :: budgetParts) s t)
  ∧ (∀ (e : Envelope) (u : Uplink) (bay priority : Byte) (cap : Word16) (uplink zone restore : Byte) (s
      : State),
    FromManager e u s →
    16 ≤ bay.toNat ∨ 2 ≤ uplink.toNat ∨ 3 ≤ zone.toNat ∨ 2 ≤ restore.toNat →
    Answers (.setBayPolicy e bay priority cap uplink zone restore) s s e 13 4 [])

/-- LOAD_WINDOW (R123, R124) with the recomputation of R125. `StationLaw` rules out tables that no run
reaches. -/
def Obligations.WindowLoaded : Prop :=
  (∀ (e : Envelope) (u : Uplink) (b : Bay) (bs cs bb cb : Byte) (s : State),
    FromManager e u s → StationLaw s →
    bs.toNat ≤ cs.toNat → cs.toNat ≤ 16 → bb.toNat ≤ 63 → cb.toNat ≤ 63 →
    let w : Window := { bs := bs.toNat, cs := cs.toNat, bb := bb.toNat, cb := cb.toNat }
    ∃ t, Answers (.loadWindow e (byteOf b.val) bs cs bb cb) s t e 14 0 []
      ∧ window t b = w ∧ (∀ c, c ≠ b → window t c = window s c) ∧ StationLaw t
      ∧ (∀ p ∈ t.stb.places, p.entry.bay = b → isDynamic p.entry = false)
      ∧ (∀ p ∈ t.stb.places, p ∈ s.stb.places ∨ p.entry.bay = b)
      ∧ (∀ p ∈ t.stb.places, p.entry.bay = b → ∃ q ∈ s.stb.places,
          q.index = p.index ∧ p.entry = { q.entry with chassisTag := p.entry.chassisTag })
      ∧ (∀ q ∈ s.stb.places, q.entry.bay ≠ b → isDynamic q.entry = false → q ∈ t.stb.places)
      ∧ (∀ q ∈ s.stb.places, q.entry.bay ≠ b → isDynamic q.entry = true → q ∈ t.stb.places
          ∨ ∃ p ∈ t.stb.places, p.entry.bay = b ∧ hasKey q.entry.address q.entry.chassisTag p = true)
      ∧ (∀ q ∈ s.stb.places, q.entry.bay = b → isDynamic q.entry = false →
          (∃ p ∈ t.stb.places, p.index = q.index) ∨
            ((forwardTag w q.entry.bladeTag = none
                ∨ ∃ p ∈ t.stb.places, isDynamic p.entry = false ∧ (p.entry.bay ≠ b ∨ p.index < q.index)
                  ∧ p.index ≠ q.index ∧ p.entry.address = q.entry.address
                  ∧ forwardTag w q.entry.bladeTag = some p.entry.chassisTag)
              ∧ Raised (.translateDrop b true) t))
      ∧ FlagsKeptBut [9, 7] s t ∧ AlertsOnly s t ∧ KeepsAllBut ([.windows, .stations] ++ reportParts) s t)
  ∧ (∀ (e : Envelope) (u : Uplink) (bay bs cs bb cb : Byte) (s : State),
    FromManager e u s →
    16 ≤ bay.toNat ∨ 16 < bs.toNat ∨ 16 < cs.toNat ∨ cs.toNat < bs.toNat ∨ 63 < bb.toNat ∨ 63 < cb.toNat →
    Answers (.loadWindow e bay bs cs bb cb) s s e 14 4 [])

/-- A request for power (R6, R59), from the chassis manager and from the bay itself. -/
def Obligations.PowerRequestsQueued : Prop :=
  (∀ (e : Envelope) (u : Uplink) (b : Bay) (s : State),
    FromManager e u s →
    (bayState s b = .standby → isComplete s (slotOfBay b) = true →
        ∃ t, Answers (.powerOn e (byteOf b.val)) s t e 15 2 [] ∧ PowerQueued b s t)
      ∧ (bayState s b = .standby → isComplete s (slotOfBay b) = false →
          Answers (.powerOn e (byteOf b.val)) s s e 15 7 [])
      ∧ (bayState s b ≠ .standby → Answers (.powerOn e (byteOf b.val)) s s e 15 5 []))
  ∧ (∀ (e : Envelope) (b : Bay) (s : State),
    FromBay e b s →
    (bayState s b = .standby → isComplete s (slotOfBay b) = true →
        ∃ t, Answers (.powerRequest e) s t e 35 2 [] ∧ PowerQueued b s t)
      ∧ (bayState s b = .standby → isComplete s (slotOfBay b) = false →
          Answers (.powerRequest e) s s e 35 7 [])
      ∧ (bayState s b ≠ .standby → Answers (.powerRequest e) s s e 35 5 []))

/-- The ways out of main power by request (R11, R12, R13). -/
def Obligations.PowerTakenOff : Prop :=
  (∀ (e : Envelope) (u : Uplink) (b : Bay) (s : State),
    FromManager e u s →
    (hasMain (bayState s b) = true →
        ∃ t, Answers (.powerOffForced e (byteOf b.val)) s t e 16 0 [] ∧ PoweredDown b s t)
      ∧ (bayState s b = .waitPower →
        ∃ t, Answers (.powerOffForced e (byteOf b.val)) s t e 16 0 [] ∧ WaitCancelled b s t)
      ∧ (hasMain (bayState s b) = false → bayState s b ≠ .waitPower →
        Answers (.powerOffForced e (byteOf b.val)) s s e 16 5 []))
  ∧ (∀ (e : Envelope) (u : Uplink) (b : Bay) (s : State),
    FromManager e u s →
    (bayState s b = .poweredOn →
        ∃ t, Answers (.powerOffGraceful e (byteOf b.val)) s t e 16 0 []
          ∧ bayRec t b = followThrottle { bayRec s b with
              state := .stopping, sdr := true, stopTimer := some (s.pbu.policy.stopTimeout * 1000) }
          ∧ Raised (.bayChange b) t ∧ Flushed (.bay b) s t ∧ OtherBayQueuesKept b s t ∧ Purged b s t
          ∧ (∀ c, c ≠ b → bayRec t c = bayRec s c) ∧ FlagsKeptBut [0, 7] s t ∧ AlertsOnly s t
          ∧ KeepsAllBut ([.bays, .bayQueues, .stations] ++ reportParts) s t)
      ∧ (bayState s b = .stopping → Answers (.powerOffGraceful e (byteOf b.val)) s s e 16 0 [])
      ∧ (bayState s b = .ramping →
        ∃ t, Answers (.powerOffGraceful e (byteOf b.val)) s t e 16 0 [] ∧ PoweredDown b s t)
      ∧ (bayState s b = .waitPower →
        ∃ t, Answers (.powerOffGraceful e (byteOf b.val)) s t e 16 0 [] ∧ WaitCancelled b s t)
      ∧ (hasMain (bayState s b) = false → bayState s b ≠ .waitPower →
        Answers (.powerOffGraceful e (byteOf b.val)) s s e 16 5 []))
  ∧ (∀ (e : Envelope) (b : Bay) (s : State),
    FromBay e b s →
    (isUp (bayState s b) = true →
        ∃ t, Answers (.powerRelease e) s t e 36 0 [] ∧ PoweredDown b s t)
      ∧ (isUp (bayState s b) = false → Answers (.powerRelease e) s s e 36 5 []))

/-- SET_MAINT (R18, R40), CLEAR_MAINT (R19) and CLEAR_FAULT (R15). -/
def Obligations.MaintenanceAndFaultRequests : Prop :=
  (∀ (e : Envelope) (u : Uplink) (b : Bay) (s : State),
    FromManager e u s →
    (bayState s b ≠ .empty → bayState s b ≠ .maint →
        ∃ t, Answers (.setMaint e (byteOf b.val)) s t e 17 0 []
          ∧ sameBayRecord { bayRec s b with
              state := .maint, pen := false, sdr := false, grant := 0, adopted := false, rampTimer := none
              stopTimer := none } (bayRec t b)
          ∧ Raised (.bayChange b) t
          ∧ slotRec t (slotOfBay b) = { slotRec s (slotOfBay b) with
              stage := .idle, retryTimer := none
              status := if (slotRec s (slotOfBay b)).status = .scanning then .none
                else (slotRec s (slotOfBay b)).status }
          ∧ slotOfBay b ∉ t.ise.queue ∧ scanning t (slotOfBay b) = false ∧ ScanAborted (slotOfBay b) s t
          ∧ t.pbu.waitList = s.pbu.waitList.filter (fun w => w.bay ≠ b) ∧ t.pbu.nextStamp = s.pbu.nextStamp
          ∧ SequencerFreed b s t ∧ Flushed (.bay b) s t ∧ OtherBayQueuesKept b s t ∧ Purged b s t
          ∧ Compared (.bay b) s t ∧ OtherBaysKept b s t ∧ FlagsKeptBut [0, 2, 3, 7] s t ∧ AlertsOnly s t
          ∧ KeepsAllBut ([.slots, .scanQueue, .scan, .waitList, .bayQueues, .stations] ++ budgetParts) s t)
      ∧ (bayState s b = .maint → Answers (.setMaint e (byteOf b.val)) s s e 17 0 [])
      ∧ (bayState s b = .empty → Answers (.setMaint e (byteOf b.val)) s s e 17 5 []))
  ∧ (∀ (e : Envelope) (u : Uplink) (b : Bay) (s : State),
    FromManager e u s →
    (ScanLaw s → bayState s b = .maint →
        ∃ t, Answers (.clearMaint e (byteOf b.val)) s t e 18 0 []
          ∧ sameBayRecord { bayRec s b with state := .identifying } (bayRec t b)
          ∧ Raised (.bayChange b) t ∧ FreshlyRequested (slotOfBay b) s t ∧ FiguresCurrent t
          ∧ ((slotRec s (slotOfBay b)).status ≠ .complete → (slotRec s (slotOfBay b)).status ≠ .unidentified →
              EvaluatedFor (.bay b) s t)
          ∧ (s.pbu.emg.phase = .none → s.pbu.hold = false →
              (overBudget t = true → BeganEmergency (.bay b) s t)
                ∧ (overBudget t = false → t.pbu.emg.phase = .none ∧ t.pbu.ae = s.pbu.ae))
          ∧ OtherBaysKept b s t ∧ FlagsKeptBut [0, 2, 3, 7] s t ∧ AlertsOnly s t
          ∧ KeepsAllBut ([.slots, .scanQueue, .scan] ++ budgetParts) s t)
      ∧ (bayState s b ≠ .maint → Answers (.clearMaint e (byteOf b.val)) s s e 18 5 []))
  ∧ (∀ (e : Envelope) (u : Uplink) (b : Bay) (s : State),
    FromManager e u s →
    (bayState s b = .fault →
        ∃ t, Answers (.clearFault e (byteOf b.val)) s t e 19 0 []
          ∧ bayRec t b = followThrottle { bayRec s b with
              state := if isComplete s (slotOfBay b) then .standby else .identifying }
          ∧ Raised (.bayChange b) t ∧ (∀ c, c ≠ b → bayRec t c = bayRec s c)
          ∧ FlagsKeptBut [0, 7] s t ∧ AlertsOnly s t ∧ KeepsAllBut (.bays :: reportParts) s t)
      ∧ (bayState s b ≠ .fault → Answers (.clearFault e (byteOf b.val)) s s e 19 5 []))

/-- RESCAN (R42) and ANNOUNCE (R43). -/
def Obligations.RescanAndAnnounce : Prop :=
  (∀ (e : Envelope) (u : Uplink) (k : Slot) (s : State),
    FromManager e u s →
    (ScanLaw s → (slotRec s k).present = true → (∀ b, slotOfBay b = k → bayState s b ≠ .maint) →
        ∃ t, Answers (.rescan e (byteOf k.val)) s t e 20 1 [] ∧ FreshlyRequested k s t
          ∧ (slotKind k ≠ .psu →
              ((slotRec s k).status = .complete ∨ (slotRec s k).status = .unidentified →
                (∀ b, slotOfBay b = k → EvaluatedFor (.bay b) s t)
                  ∧ ∀ f, slotOfFan f = k → EvaluatedFor (.fan f) s t)
              ∧ Part.supplies.same s t)
          ∧ (∀ p, slotOfPsu p = k → (supplyRec s p).present = true →
              (slotRec s k).status = .complete ∨ (slotRec s k).status = .unidentified →
              supplyRec t p = { supplyRec s p with condition := .pending, capacity := 0 }
                ∧ ((supplyRec s p).capacity ≠ 0 → EvaluatedFor (.supply p) s t) ∧ Part.hold.same s t)
          ∧ (∀ p, slotOfPsu p ≠ k → supplyRec t p = supplyRec s p)
          ∧ (∀ b, sameBayRecord (bayRec s b) (bayRec t b)) ∧ FlagsKeptBut [2, 3, 7] s t ∧ AlertsOnly s t
          ∧ KeepsAllBut scanParts s t)
      ∧ ((slotRec s k).present = false ∨ (∃ b, slotOfBay b = k ∧ bayState s b = .maint) →
          Answers (.rescan e (byteOf k.val)) s s e 20 5 []))
  ∧ (∀ (e : Envelope) (b : Bay) (image : Image) (s : State),
    FromBay e b s →
    ((slotRec s (slotOfBay b)).source = some .announce → imageFailure .bay image = none →
        ∃ t, Answers (.announce e image) s t e 33 0 []
          ∧ slotRec t (slotOfBay b) = { slotRec s (slotOfBay b) with
              ident := some { word := imageWord image, signature := imageSignature image
                              data := .bay (image16 image 8 9) (imageByte image 10) }
              status := .complete, lastFailure := none }
          ∧ (∀ k, k ≠ slotOfBay b → slotRec t k = slotRec s k) ∧ Raised (.identity (slotOfBay b)) t
          ∧ (bayState s b = .identifying →
              sameBayRecord { bayRec s b with state := .standby } (bayRec t b) ∧ Raised (.bayChange b) t)
          ∧ (isUp (bayState s b) = true → sameBayRecord { bayRec s b with
              adopted := false, grant := capGrant (image16 image 8 9) (bayRec s b).cap } (bayRec t b))
          ∧ (hasMain (bayState s b) = true → (bayRec s b).adopted = false → sameBayRecord { bayRec s b with
              grant := capGrant (image16 image 8 9) (bayRec s b).cap } (bayRec t b))
          ∧ (bayState s b ≠ .identifying → hasMain (bayState s b) = false →
              sameBayRecord (bayRec s b) (bayRec t b))
          ∧ (bayState s b ≠ .identifying → flagRec t 0 = flagRec s 0)
          ∧ EvaluatedFor (.bay b) s t ∧ OtherBaysKept b s t ∧ FlagsKeptBut [0, 1, 2, 3, 7] s t ∧ AlertsOnly s t
          ∧ KeepsAllBut (.slots :: budgetParts) s t)
      ∧ ((slotRec s (slotOfBay b)).source = some .announce → imageFailure .bay image ≠ none →
          Answers (.announce e image) s s e 33 4 [])
      ∧ ((slotRec s (slotOfBay b)).source ≠ some .announce → Answers (.announce e image) s s e 33 5 []))

/-- SET_POWER_POLICY (R55) and SET_ADMISSION (R57, R84). -/
def Obligations.PowerPolicyAndGateSet : Prop :=
  (∀ (e : Envelope) (u : Uplink) (redundancy : Byte) (base : Word16) (gap : Byte) (grace : Word16)
      (stop : Byte) (s : State),
    FromManager e u s →
    (∀ r, asRedundancy redundancy = some r →
        ∃ t, Answers (.setPowerPolicy e redundancy base gap grace stop) s t e 21 0 []
          ∧ t.pbu.policy = { redundancy := r, baseLoad := min base.toNat 500, gapSteps := min gap.toNat 20
                             grace := max 100 (min 1000 grace.toNat), stopTimeout := max 1 (min 60 stop.toNat) }
          ∧ EvaluatedFor .policy s t
          ∧ (s.pbu.emg.phase = .none → s.pbu.hold = true ∨ overBudget t = false →
              Part.flags.same s t ∧ Part.bays.same s t)
          ∧ (∀ b, sameBayRecord (bayRec s b) (bayRec t b)) ∧ FlagsKeptBut [2, 3, 7] s t ∧ AlertsOnly s t
          ∧ KeepsAllBut (.powerPolicy :: budgetParts) s t)
      ∧ (2 < redundancy.toNat → Answers (.setPowerPolicy e redundancy base gap grace stop) s s e 21 4 []))
  ∧ (∀ (e : Envelope) (u : Uplink) (gate : Byte) (s : State),
    FromManager e u s →
    (∀ g, asGate gate = some g → ∃ t, Answers (.setAdmission e gate) s t e 22 0 []
        ∧ (s.pbu.emg.phase = .none →
            t.pbu.ae = g ∧ t.pbu.ae2 = s.pbu.ae2
              ∧ (s.pbu.ae = .closed → g = .opened → s.pbu.seq = .idle → HeadEvaluated t)
              ∧ (s.pbu.ae = .opened ∨ g = .closed → Part.sequencer.same s t))
        ∧ (s.pbu.emg.phase ≠ .none →
            t.pbu.ae = s.pbu.ae ∧ t.pbu.ae2 = g ∧ Part.sequencer.same s t)
        ∧ KeepsAllBut [.gates, .sequencer] s t)
      ∧ (1 < gate.toNat → Answers (.setAdmission e gate) s s e 22 4 []))

/-- LOAD_CURVE (R95) and SET_ZONE (R93, R94). A LOAD_CURVE has at most 255 points, as many as its count byte
can say (R184). -/
def Obligations.CurvesAndZonesSet : Prop :=
  (∀ (e : Envelope) (u : Uplink) (zone : Byte) (points : List (Byte × Word16)) (s : State),
    FromManager e u s → points.length < 256 →
    let curve : List CurvePoint := points.map fun p => { margin := p.1.toNat, duty := min p.2.toNat 1000 }
    let good := 2 ≤ points.length ∧ points.length ≤ 8 ∧ curve.Pairwise fun p q => p.margin < q.margin
    (∀ z, asZone zone = some z → good →
        ∃ t, Answers (.loadCurve e zone points) s t e 23 0 []
          ∧ zoneRec t z = { zoneRec s z with curve := curve }
          ∧ (∀ y, y ≠ z → zoneRec t y = zoneRec s y) ∧ KeepsAllBut [.zones] s t)
      ∧ (asZone zone = none ∨ ¬good → Answers (.loadCurve e zone points) s s e 23 4 []))
  ∧ (∀ (e : Envelope) (u : Uplink) (zone mode : Byte) (floor forced : Word16) (limit : Byte) (down :
      Word16) (s : State),
    FromManager e u s →
    let limitGood := limit = 2 ∨ limit = 4 ∨ limit = 8 ∨ limit = 16
    (asZone zone = none ∨ asMode mode = none ∨ ¬limitGood →
        Answers (.setZone e zone mode floor forced limit down) s s e 24 4 [])
      ∧ (∀ z, asZone zone = some z → limitGood → mode = 1 → (zoneRec s z).curve = [] →
          Answers (.setZone e zone mode floor forced limit down) s s e 24 5 [])
      ∧ (∀ z, asZone zone = some z → ∀ m, asMode mode = some m → limitGood →
          (m = .auto → (zoneRec s z).curve ≠ []) →
          ∃ t, Answers (.setZone e zone mode floor forced limit down) s t e 24 0 []
            ∧ zoneRec t z = { zoneRec s z with
                mode := m, floor := min floor.toNat 1000, forced := min forced.toNat 1000
                staleLimit := limit.toNat, stepDown := max 5 (min 100 down.toNat)
                target := if m = .disabled then 1000 else (zoneRec s z).target }
            ∧ (∀ y, y ≠ z → zoneRec t y = zoneRec s y ∧ zoneAir t y = zoneAir s y)
            ∧ (m ≠ .disabled → KeepsAllBut [.zones] s t)
            ∧ (m = .disabled → ZoneAtFullDuty z s t)
            ∧ AlertsOnly s t ∧ KeepsAllBut ([.zones, .air, .fans, .bays] ++ reportParts) s t))

/-- SET_FAN (R114) and THERMAL_REPORT (R89). -/
def Obligations.FanSettingsAndThermalReports : Prop :=
  (∀ (e : Envelope) (u : Uplink) (fan zone : Byte) (minRun : Word16) (prescale : Byte) (s : State),
    FromManager e u s →
    let prescaleGood := prescale = 1 ∨ prescale = 2 ∨ prescale = 4 ∨ prescale = 8
    (∀ f, asFan fan = some f → ∀ z, asZone zone = some z → prescaleGood →
        ∃ t, Answers (.setFan e fan zone minRun prescale) s t e 25 0 []
          ∧ (let d := min 1000 (max (zoneAir s z).applied (min minRun.toNat 500))
            let r := dutySet d (fanRec s f)
            fanRec t f = followDrive { r with
              zone := z, minRun := min minRun.toNat 500, prescale := prescale.toNat, residue := 0, count := 0
              minDuty := d, tachTimer := if r.state = .absent then r.tachTimer else some 1000 })
          ∧ (∀ g, g ≠ f → fanRec t g = fanRec s g) ∧ KeepsAllBut [.fans] s t)
      ∧ (asFan fan = none ∨ asZone zone = none ∨ ¬prescaleGood →
          Answers (.setFan e fan zone minRun prescale) s s e 25 4 []))
  ∧ (∀ (e : Envelope) (b : Bay) (margin critical : Byte) (s : State),
    FromBay e b s →
    (critical.toNat < 2 → isUp (bayState s b) = true →
        ∃ t, Answers (.thermalReport e margin critical) s t e 34 0 []
          ∧ thermalEntry t b
              = { margin := some margin.toNat, critical := decide (critical = 0), current := true, age := 0 }
          ∧ bayRec t b = followThrottle { bayRec s b with critical := decide (critical = 0) }
          ∧ (∀ c, c ≠ b → thermalEntry t c = thermalEntry s c ∧ bayRec t c = bayRec s c)
          ∧ KeepsAllBut [.thermal, .bays] s t)
      ∧ (critical.toNat < 2 → isUp (bayState s b) = false →
          Answers (.thermalReport e margin critical) s s e 34 5 [])
      ∧ (2 ≤ critical.toNat → Answers (.thermalReport e margin critical) s s e 34 4 []))

/-- SET_UPLINK (R152, R153) and SET_QUOTA (R161). That a frame barred by the loss of the right stays so when
the right is given back is the model's reading of R153 against R164 (log 32). -/
def Obligations.UplinksAndQuotasSet : Prop :=
  (∀ (e : Envelope) (u v : Uplink) (enabled right : Bool) (s : State),
    FromManager e u s →
    let c : Instr := .setUplink e (byteOf v.val) (if enabled then 0 else 1) (if right then 0 else 1)
    (v = u → enabled = false ∨ right = false → Answers c s s e 26 6 [])
      ∧ (v ≠ u ∨ (enabled = true ∧ right = true) →
          (uplinkRec s v).enabled = enabled → (uplinkRec s v).right = right → Answers c s s e 26 0 [])
      ∧ (v ≠ u ∨ (enabled = true ∧ right = true) →
          (uplinkRec s v).enabled ≠ enabled ∨ (uplinkRec s v).right ≠ right →
          ∃ t, Answers c s t e 26 0 [] ∧ Raised (.uplinkChange v .setting) t
            ∧ uplinkRec t v = { uplinkRec s v with enabled := enabled, right := right }
            ∧ (∀ x, x ≠ v → uplinkRec t x = uplinkRec s x)
            ∧ (usable s v = true → enabled = false → Flushed (.uplink v) s t)
            ∧ (∀ x, x ≠ v → AlertsOnlyAt x s t)
            ∧ (usable s v = false ∨ enabled = true → AlertsOnly s t)
            ∧ FlagsKeptBut [6, 7] s t ∧ KeepsAllBut (.uplinks :: reportParts) s t))
  ∧ (∀ (e : Envelope) (u v : Uplink) (enabled right : Bool) (rest : List SvcFrame) (s : State),
    serviceReady s = true → e.arrival = .uplink u → portRefuses s (.uplink u) = false → v ≠ u →
    s.fbm.svc.frames = { arrival := .uplink u, frame := requestFrame s e (.setUplink (byteOf v.val)
      (if enabled then 0 else 1) (if right then 0 else 1)) } :: rest →
    let c : Instr := .setUplink e (byteOf v.val) (if enabled then 0 else 1) (if right then 0 else 1)
    let barred := rest.map fun f => if f.arrival = .uplink v then { f with barred := true } else f
    ∃ t, exec c s = .next t ∧ exec .serviceFrameTaken s = .next t
      ∧ uplinkRec t v = { uplinkRec s v with enabled := enabled, right := right }
      ∧ t.fbm.svc.frames = if (uplinkRec s v).right = true ∧ right = false then barred else rest)
  ∧ (∀ (e : Envelope) (u : Uplink) (uplink enabled right : Byte) (s : State),
    FromManager e u s →
    2 ≤ uplink.toNat ∨ 2 ≤ enabled.toNat ∨ 2 ≤ right.toNat →
    Answers (.setUplink e uplink enabled right) s s e 26 4 [])
  ∧ (∀ (e : Envelope) (u : Uplink) (queue : Byte) (quota : Word16) (s : State),
    FromManager e u s →
    let cells := min quota.toNat 2048
    (∀ p, asQueue queue = some (.egress p) → p ≠ .uplink u ∨ 13 ≤ cells →
        ∃ t, Answers (.setQuota e queue quota) s t e 27 0 []
          ∧ queueOf t p = { queueOf s p with quota := cells } ∧ (∀ q, q ≠ p → queueOf t q = queueOf s q)
          ∧ KeepsAllBut [queuePart p] s t)
      ∧ (asQueue queue = some (.egress (.uplink u)) → cells < 13 →
          Answers (.setQuota e queue quota) s s e 27 6 [])
      ∧ (18 ≤ queue.toNat → Answers (.setQuota e queue quota) s s e 27 4 []))

/-- The static entry requests (R143, R144) and SET_AGING (R142), with the lowest empty place of a table in
order (R131). -/
def Obligations.StationRequestsCarriedOut : Prop :=
  (∀ (e : Envelope) (u : Uplink) (a : Addr) (bay : Byte) (tag : Word16) (s : State),
    FromManager e u s →
    let c : Instr := .addStatic e a bay tag
    (asBay bay = none ∨ 4095 < tag.toNat ∨ isGroup a = true
        ∨ (∀ b, asBay bay = some b → forwardTag (window s b) tag.toNat = none) → Answers c s s e 28 4 [])
      ∧ (∀ b, asBay bay = some b → tag.toNat ≤ 4095 → isGroup a = false →
          ∀ k, forwardTag (window s b) tag.toNat = some k →
          let entry : StationEntry :=
            { address := a, chassisTag := k, bay := b, bladeTag := tag.toNat, kind := .fixed }
          (∀ p, findStation s a k = some p →
              ∃ t, Answers c s t e 28 0 (encode16 p.index ++ encode16 k)
                ∧ t.stb.places
                    = s.stb.places.map (fun x => if x.index = p.index then { x with entry := entry } else x)
                ∧ KeepsAllBut [.stations] s t)
            ∧ (findStation s a k = none → ∀ i, lowestEmpty s = some i →
              ∃ t, Answers c s t e 28 0 (encode16 i ++ encode16 k)
                ∧ t.stb.places = insertPlace { index := i, entry := entry } s.stb.places
                ∧ KeepsAllBut [.stations] s t)
            ∧ (findStation s a k = none → lowestEmpty s = none → Answers c s s e 28 8 [])))
  ∧ (∀ (e : Envelope) (u : Uplink) (a : Addr) (tag : Word16) (s : State),
    FromManager e u s →
    (∀ p, findStation s a tag.toNat = some p → isDynamic p.entry = false →
        ∃ t, Answers (.removeStatic e a tag) s t e 29 0 []
          ∧ t.stb.places = s.stb.places.filter (fun x => x.index ≠ p.index) ∧ KeepsAllBut [.stations] s t)
      ∧ (∀ p, findStation s a tag.toNat = some p → isDynamic p.entry = true →
          Answers (.removeStatic e a tag) s s e 29 5 [])
      ∧ (findStation s a tag.toNat = none → Answers (.removeStatic e a tag) s s e 29 5 []))
  ∧ (∀ (e : Envelope) (u : Uplink) (steps : Word16) (s : State),
    FromManager e u s →
    Answers (.setAging e steps) s
      { s with stb := { s.stb with agingSteps := max 1 (min 255 steps.toNat) } } e 30 0 [])
  ∧ (∀ (s : State),
    StationLaw s →
    (∀ i, lowestEmpty s = some i →
        i < 1024 ∧ (∀ p ∈ s.stb.places, p.index ≠ i) ∧ ∀ j, j < i → ∃ p ∈ s.stb.places, p.index = j)
      ∧ (lowestEmpty s = none → ∀ j, j < 1024 → ∃ p ∈ s.stb.places, p.index = j))
  ∧ (∀ (x : Place) (s : State), ∀ q, q ∈ insertPlace x s.stb.places ↔ q = x ∨ q ∈ s.stb.places)

/-- SOFT_RESET (R175). The straps that a soft reset reads are a free value (log 7); how a request row meets
the service input queue is the model's choice (log 4), and so is that its takeover leaves M, h and the
next entry stamp at 0 (logs 10 and 30). -/
def Obligations.SoftResetTaken : Prop :=
  (∀ (e : Envelope) (u : Uplink) (s : State),
    FromManager e u s →
    let c : Copy := { responseTo e 31 0 [] s with kind := .resetResponse }
    let room := (queueOf s (.uplink u)).held + copyCells c ≤ (queueOf s (.uplink u)).quota
      ∧ copyCells c ≤ s.fbm.free
    (room →
        ∃ t, exec (.softReset e) s = .next (oneTaken t) ∧ Received (.uplink u) c s t
          ∧ t.sve = { s.sve with softReset := some u } ∧ KeepsAllBut [.uplinkQueues, .pool, .softReset] s t)
      ∧ (¬room → ∃ t, exec (.softReset e) s = .next t ∧ SoftlyReset s t))
  ∧ (∀ (e : Envelope) (u : Uplink) (s : State),
    serviceReady s = true → e.arrival = .uplink u →
    s.fbm.svc.frames.head? = some { arrival := e.arrival, frame := requestFrame s e .softReset } →
    (uplinkRec s u).enabled = true → (uplinkRec s u).right = true → (uplinkRec s u).link = false →
    ∃ t, exec .serviceFrameTaken s = .next t ∧ exec (.softReset e) s = .next t ∧ SoftlyReset s t)
  ∧ (∀ (c : Instr) (e : Envelope) (r : Request) (u : Uplink) (s : State),
    s.sve.softReset = some u →
    exec .serviceFrameTaken s = .next s
      ∧ (c.request? = some (e, r) → c.wellFormed = true → s.mode = .running → PortOpen e.arrival s →
        ∃ t, exec c s = .next t ∧ ServiceOffered e.arrival (requestFrame s e r) s t))

/-- The arrival of a service frame (R21, R151, R157) and its taking (R157, R164, R165) are the command of
the request that it carries (R163, R182 to R186). That a request row is both, and which frame it is
where one waits at the head, is log 4. -/
def Obligations.ServiceFramesAreTheirCommands : Prop :=
  (∀ (c : Instr) (e : Envelope) (r : Request) (s : State),
    c.request? = some (e, r) → c.wellFormed = true →
    serviceReady s = true → s.fbm.svc.frames.head? = some { arrival := e.arrival, frame := requestFrame s e r } →
    exec .serviceFrameTaken s = exec c s)
  ∧ (∀ (c : Instr) (e : Envelope) (r : Request) (s : State),
    c.request? = some (e, r) → c.wellFormed = true →
    serviceReady s = true → PortOpen e.arrival s → s.fbm.svc.frames = [] → ServiceRoom (requestFrame s e r) s →
    ∃ t, exec (portFrame e.arrival (requestFrame s e r)) s = .next t
      ∧ ServiceOffered e.arrival (requestFrame s e r) s t ∧ exec c s = exec .serviceFrameTaken t)
  ∧ (∀ (c : Instr) (e : Envelope) (r : Request) (s : State),
    c.request? = some (e, r) → c.wellFormed = true →
    s.mode = .running → PortOpen e.arrival s → NotAtHead e r s →
    s.sve.softReset ≠ none ∨ s.fbm.svc.frames ≠ [] ∨ ¬ServiceRoom (requestFrame s e r) s →
    ∃ t, exec c s = .next t ∧ ServiceOffered e.arrival (requestFrame s e r) s t)
  ∧ (∀ (s : State),
    serviceReady s = false ∨ s.fbm.svc.frames = [] → exec .serviceFrameTaken s = .next s)

/-- The test of the arrival port (R164) and the checks of R165 and R166. That a RESPONSE or an ALERT that
fails check 1 is answered LENGTH is the model's reading (log 31), and so is that a frame barred by R153
stays refused where the right has been given back (log 32). -/
def Obligations.ServiceFramesCheckedInOrder : Prop :=
  (∀ (f : SvcFrame) (s : State),
    serviceReady s = true → s.fbm.svc.frames.head? = some f →
    let u := svcPop s
    let e := envelopeOf f
    let code := headerCode f.frame
    let answer : Nat → State → Host.Outcome State Fault Refusal := fun status v =>
      .next (offer f.arrival (responseTo e code status [] v) v)
    let o := exec .serviceFrameTaken s
    (f.barred = true ∨ portRefuses s f.arrival = true → o = .next (countRefused f.arrival u))
      ∧ (f.barred = false → portRefuses s f.arrival = false →
        let sound := headerVersion f.frame = 1 ∧ lengthAgrees f.frame = true
        (¬sound → o = answer 10 u)
          ∧ (sound → headerKind f.frame ≠ 1 → o = .next (countRefused f.arrival u))
          ∧ (sound → headerKind f.frame = 1 → code = 0 ∨ 37 < code → o = answer 9 u)
          ∧ (sound → headerKind f.frame = 1 → 1 ≤ code → code ≤ 37 →
            let bayRequest := 33 ≤ code
            (∀ b, f.arrival = .bay b → ¬bayRequest → o = answer 3 (countRefused (.bay b) u))
              ∧ (∀ v, f.arrival = .uplink v → bayRequest → o = answer 3 u)
              ∧ ((∃ b, f.arrival = .bay b ∧ bayRequest) ∨ (∃ v, f.arrival = .uplink v ∧ ¬bayRequest) →
                ((frameBody f.frame).length ≠ bodyLengthOf code (frameBody f.frame) → o = answer 10 u)
                  ∧ ∀ r, readRequest code (frameBody f.frame) = some r → namesExist r = false →
                    o = answer 4 u))))
  ∧ (∀ (c : Instr) (e : Envelope) (r : Request) (b : Bay) (s : State),
    c.request? = some (e, r) → c.wellFormed = true → FromBay e b s → requestCode r < 33 →
    Answers c s (countRefused (.bay b) s) e (requestCode r) 3 [])
  ∧ (∀ (c : Instr) (e : Envelope) (r : Request) (u : Uplink) (s : State),
    c.request? = some (e, r) → c.wellFormed = true → FromManager e u s →
    (33 ≤ requestCode r → Answers c s s e (requestCode r) 3 [])
      ∧ (requestCode r < 33 → namesExist r = false → Answers c s s e (requestCode r) 4 []))
  ∧ (∀ (c : Instr) (e : Envelope) (r : Request) (s : State),
    c.request? = some (e, r) → c.wellFormed = true →
    s.mode = .running → NotAtHead e r s → (∀ u, e.arrival = .uplink u → (uplinkRec s u).link = true) →
    portRefuses s e.arrival = true → exec c s = .next (countRefused e.arrival s))

/-- The bodies of R186 in the encodings of R184 lose nothing. -/
def Obligations.BodiesReadBack : Prop :=
  ∀ (r : Request),
    r.wellFormed = true →
    knownCode (requestCode r) = true ∧ readRequest (requestCode r) (requestBody r) = some r

/-- R126 and R128: the forward translation, and the reverse one as its inverse. -/
def Obligations.ReverseTranslation : Prop :=
  (∀ (w : Window) (i : Nat),
    i < 4096 → w.bs ≤ w.cs →
    let p := i / 256
    let low := i % 256
    (p < w.bs → forwardTag w i = some (p * 256 + low))
      ∧ (w.bs ≤ p → p < w.cs → w.bb + (p - w.bs) ≤ 63 → forwardTag w i = some ((w.bb + (p - w.bs)) * 256 + low))
      ∧ (w.bs ≤ p → p < w.cs → 63 < w.bb + (p - w.bs) → forwardTag w i = none)
      ∧ (w.cs ≤ p → w.cb + (p - w.cs) ≤ 63 → forwardTag w i = some ((w.cb + (p - w.cs)) * 256 + low))
      ∧ (w.cs ≤ p → 63 < w.cb + (p - w.cs) → forwardTag w i = none))
  ∧ (∀ (w : Window) (c : Nat),
    c < 16384 →
    let q := c / 256
    let low := c % 256
    let upper := w.cs < 16 ∧ w.cb ≤ q ∧ q ≤ w.cb + 15 - w.cs
    let bank := w.bs < w.cs ∧ w.bb ≤ q ∧ q ≤ w.bb + w.cs - 1 - w.bs
    (upper → reverseTag w c = some ((w.cs + q - w.cb) * 256 + low))
      ∧ (¬upper → bank → reverseTag w c = some ((w.bs + q - w.bb) * 256 + low))
      ∧ (¬upper → ¬bank → q < w.bs → reverseTag w c = some (q * 256 + low))
      ∧ (¬upper → ¬bank → w.bs ≤ q → reverseTag w c = none)
      ∧ (windowValid w = true → ∀ t, reverseTag w c = some t → t < 4096 ∧ forwardTag w t = some c))
  ∧ (∀ (w : Window) (i : Nat),
    windowValid w = true → i < 4096 →
    ∀ c, forwardTag w i = some c → c < 16384 ∧ (reverseTag w c).isSome = true)

/-- R51, with the four parts of allocated power of R52 and R53. A choice of largest supplies is a set `T` of
supplies in OK, none of which is smaller than one left out. The allowance for class data of another kind
than the slot's is the model's choice (log 18). -/
def Obligations.AvailablePower : Prop :=
  (∀ (s : State),
    let ok : Psu → Prop := fun p => (supplyRec s p).condition = .ok
    let capacity : Psu → Nat := fun p => (supplyRec s p).capacity
    let k := countFin 4 fun p => decide ((supplyRec s p).condition = .ok)
    let largest : Nat → Finset Psu → Prop := fun n T =>
      T.card = n ∧ (∀ p ∈ T, ok p) ∧ ∀ p ∈ T, ∀ q, ok q → q ∉ T → capacity q ≤ capacity p
    let figures := figuresOf s
    figures.supplySum = sumFin 4 (fun p => if (supplyRec s p).condition = .ok then capacity p else 0)
      ∧ figures.supplyCount = k ∧ figures.available = figures.supplySum - figures.reserve
      ∧ figures.reserve ≤ figures.supplySum
      ∧ (s.pbu.policy.redundancy = .none → figures.reserve = 0)
      ∧ (s.pbu.policy.redundancy = .one → (k = 0 → figures.reserve = 0)
          ∧ ∀ T : Finset Psu, largest 1 T → figures.reserve = ∑ p ∈ T, capacity p)
      ∧ (s.pbu.policy.redundancy = .half →
          ∀ T : Finset Psu, largest (k / 2) T → figures.reserve = ∑ p ∈ T, capacity p)
      ∧ (∀ n, n ≤ k → ∃ T : Finset Psu, largest n T)
      ∧ ((∀ p, capacity p ≤ 5000) → figures.available ≤ 20000)
      ∧ figures.allocated = figures.base + figures.standby + figures.grants + figures.fans
      ∧ figures.base = s.pbu.policy.baseLoad
      ∧ figures.standby = sumFin 16 (fun b =>
          if bayState s b = .empty ∨ bayState s b = .maint then 0
          else if (slotRec s (slotOfBay b)).status = .complete then
            match (slotRec s (slotOfBay b)).ident.map (·.data) with
            | some (ClassData.bay _ standby) => standby
            | _ => 25
          else 25)
      ∧ figures.grants = sumFin 16 (fun b =>
          if bayState s b = .ramping ∨ bayState s b = .poweredOn ∨ bayState s b = .stopping then (bayRec s b).grant
          else 0)
      ∧ figures.fans = sumFin 6 (fun f =>
          if (fanRec s f).state = .absent then 0
          else if (slotRec s (slotOfFan f)).status = .complete then
            match (slotRec s (slotOfFan f)).ident.map (·.data) with
            | some (ClassData.fan _ power _) => power
            | _ => 60
          else 60))
  ∧ (State.reset.pbu.policy.redundancy = .one)

/-- R77. `RampLaw` gives at most one bay in RAMPING (R63). -/
def Obligations.ShedOrder : Prop :=
  (∀ (b : Bay) (s : State), RampLaw s → bayState s b = .ramping → chooseShed s = some b)
  ∧ (∀ (b : Bay) (s : State),
    (∀ c, bayState s c ≠ .ramping) →
    (chooseShed s = some b ↔ isUp (bayState s b) = true ∧ ∀ c, isUp (bayState s c) = true → c ≠ b →
      (bayRec s c).priority < (bayRec s b).priority
        ∨ (bayRec s c).priority = (bayRec s b).priority ∧ c < b))
  ∧ (∀ (s : State), chooseShed s = none ↔ ∀ c, hasMain (bayState s c) = false)

/-- R99. The rounded-up value d of a segment is the only whole number with d - 1 < exact value ≤ d. -/
def Obligations.CurveDemand : Prop :=
  (∀ (curve : List CurvePoint) (m : Nat),
    (curve.Pairwise fun p q => p.margin < q.margin) →
    (∀ p, curve.head? = some p → m ≤ p.margin → curveDemand m curve = p.duty)
      ∧ (∀ p, curve.getLast? = some p → p.margin ≤ m → curveDemand m curve = p.duty)
      ∧ ∀ i ∈ List.range curve.length, ∀ p, curve[i]? = some p → ∀ q, curve[i + 1]? = some q →
          p.margin ≤ m → m < q.margin →
          let d : Int := curveDemand m curve
          let span : Int := (q.margin : Int) - p.margin
          let exact : Int := p.duty * span + ((q.duty : Int) - p.duty) * ((m : Int) - p.margin)
          exact ≤ d * span ∧ (d - 1) * span < exact
            ∧ min p.duty q.duty ≤ curveDemand m curve ∧ curveDemand m curve ≤ max p.duty q.duty)
  ∧ (∀ (z : Zone) (b : Bay) (s : State),
    classIn s z b = some .reporting →
    ∀ m, (thermalEntry s b).margin = some m → demandIn s z b = curveDemand m (zoneRec s z).curve)

/-- State.reset, the state after a power-on reset (R179) with quiet lines (log 6), meets the laws. -/
def Obligations.ResetStateIsLawful : Prop :=
  PoolLaw State.reset ∧ StationLaw State.reset ∧ DynamicLaw State.reset ∧ WaitListLaw State.reset
    ∧ RampLaw State.reset ∧ BudgetLaw State.reset ∧ EmergencyLaw State.reset ∧ LinesLaw State.reset
    ∧ DriveLaw State.reset ∧ FiguresLaw State.reset ∧ HeadLaw State.reset ∧ ManagementLaw State.reset
    ∧ CriticalLaw State.reset ∧ CurveLaw State.reset ∧ ServedLaw State.reset

/-- One ms of a part with nothing to do, its expiries and its hand-overs: the model's choice (logs 1 and 2). -/
def Obligations.QuietPartRunsItsTimers : Prop :=
  (∀ (s : State),
    s.pending = [] → s.mode = .running → handOver s = none → (∀ c, ¬RunOut s c) →
    ∃ t, step s = .next t
      ∧ (∀ b, bayRec t b = { bayRec s b with
          insertTimer := (bayRec s b).insertTimer.map (· - 1), removeTimer := (bayRec s b).removeTimer.map (· - 1)
          rampTimer := (bayRec s b).rampTimer.map (· - 1), stopTimer := (bayRec s b).stopTimer.map (· - 1) })
      ∧ (∀ k, slotRec t k = { slotRec s k with retryTimer := (slotRec s k).retryTimer.map (· - 1) })
      ∧ t.ise.scan = s.ise.scan.map (fun sc => { sc with timer := sc.timer - 1 })
      ∧ (∀ p, supplyRec t p = { supplyRec s p with
          insertTimer := (supplyRec s p).insertTimer.map (· - 1)
          removeTimer := (supplyRec s p).removeTimer.map (· - 1) })
      ∧ t.pbu.gapTimer = s.pbu.gapTimer.map (· - 1) ∧ t.pbu.seq = s.pbu.seq
      ∧ t.pbu.holdTimer = s.pbu.holdTimer.map (· - 1) ∧ t.pbu.hold = s.pbu.hold
      ∧ t.pbu.emg = { s.pbu.emg with graceTimer := s.pbu.emg.graceTimer.map (· - 1) }
      ∧ (∀ b, thermalEntry t b = { thermalEntry s b with age := min ((thermalEntry s b).age + 1) 65535 })
      ∧ t.thu.controlTimer = s.thu.controlTimer.map (· - 1)
      ∧ (∀ f, fanRec t f = { fanRec s f with
          tachTimer := (fanRec s f).tachTimer.map (· - 1), insertTimer := (fanRec s f).insertTimer.map (· - 1)
          removeTimer := (fanRec s f).removeTimer.map (· - 1) })
      ∧ t.stb.sweepTimer = s.stb.sweepTimer.map (· - 1)
      ∧ KeepsAllBut [.bays, .slots, .scan, .supplies, .sequencer, .hold, .emergency, .thermal, .controlTimer,
          .fans, .sweepTimer] s t)
  ∧ (∀ (x : Instr) (s : State),
    s.pending = [] → s.mode = .running → handOver s = none → RunOut s x →
    ∃ c, RunOut s c ∧ step s = .next { s with pending := [c] })
  ∧ (∀ (s : State),
    s.pending = [] → s.mode = .running → Admitting s →
    step s = .next { s with pending := [.admissionTaken] })
  ∧ (∀ (s : State),
    s.pending = [] → s.mode = .running → ¬Admitting s → s.pbu.emg.phase = .shedding → s.pbu.emg.shedBay ≠ none →
    step s = .next { s with pending := [.shedTaken] })
  ∧ (∀ (s : State),
    s.pending = [] → s.mode = .running → ¬Admitting s →
    s.pbu.emg.phase ≠ .shedding ∨ s.pbu.emg.shedBay = none → serviceReady s = true → s.fbm.svc.frames ≠ [] →
    step s = .next { s with pending := [.serviceFrameTaken] })

/-- The pool total of R154 with what it rests on (R155, R157, R158), and the empty queues of R150 and R158,
which rest on `DynamicLaw`. The cells of a service frame are counted by its length as received, the
model's reading (log 14). -/
def Obligations.FrameBufferIsConserved : Prop :=
  (∀ (s t : State), PoolLaw s → step s = .next t → PoolLaw t)
  ∧ (∀ (s t : State), DynamicLaw s → ServedLaw s → step s = .next t → ServedLaw t)

/-- The key rule and the stored tags of R131, and the rule of R139 on DYNAMIC entries. -/
def Obligations.StationTableStaysSound : Prop :=
  (∀ (s t : State), StationLaw s → step s = .next t → StationLaw t)
  ∧ (∀ (s t : State), DynamicLaw s → step s = .next t → DynamicLaw t)

/-- The wait list of R58 and the single ramp of R63. -/
def Obligations.AdmissionStaysOrdered : Prop :=
  (∀ (s t : State), WaitListLaw s → step s = .next t → WaitListLaw t)
  ∧ (∀ (s t : State), RampLaw s → step s = .next t → RampLaw t)

/-- The budget rule of R54 and the emergency's record, gate and throttle cause (R71 to R73, R83, R85). -/
def Obligations.PowerStaysInBudget : Prop :=
  (∀ (s t : State), BudgetLaw s → step s = .next t → BudgetLaw t)
  ∧ (∀ (s t : State), EmergencyLaw s → step s = .next t → EmergencyLaw t)

/-- The lines of R5, R24 and R108, and the standing rules of R88, R94 and R152. -/
def Obligations.OutputsFollowTheRecords : Prop :=
  (∀ (s t : State), LinesLaw s → step s = .next t → LinesLaw t)
  ∧ (∀ (s t : State), DriveLaw s → step s = .next t → DriveLaw t)
  ∧ (∀ (s t : State), CriticalLaw s → step s = .next t → CriticalLaw t)
  ∧ (∀ (s t : State), CurveLaw s → step s = .next t → CurveLaw t)
  ∧ (∀ (s t : State), ManagementLaw s → step s = .next t → ManagementLaw t)

/-- The scanning work of R27, R32 and R33, and the identity values of a COMPLETE slot (R34, R43). -/
def Obligations.ScanningStaysOrderly : Prop :=
  (∀ (s t : State), ScanLaw s → step s = .next t → ScanLaw t)
  ∧ (∀ (s t : State), IdentLaw s → step s = .next t → IdentLaw t)

/-- No change of anything that counts is missed by the evaluations of R52 and R54 (R56). -/
def Obligations.FiguresStayCurrent : Prop :=
  ∀ (s t : State), FiguresLaw s → step s = .next t → FiguresLaw t

/-- The occasions of R61 miss no moment at which the head becomes admissible. That SET_BAY_POLICY on a
waiting bay is such an occasion also where only its cap changes is the model's reading (log 29). -/
def Obligations.NoAdmissibleHeadWaits : Prop :=
  ∀ (s t : State),
    FiguresLaw s ∧ WaitListLaw s ∧ HeadLaw s → step s = .next t → FiguresLaw t ∧ WaitListLaw t ∧ HeadLaw t
end

