-- ==== Sys2Proof/Laws/Bank.lean ====
section
/-! SUPPORT. Banks: reading after a write, after an update, and equality record by record. -/

namespace Sys2Proof

variable {α : Type} {n : Nat}

@[simp] theorem Bank.read_put_self (v : Bank α n) (i : Fin n) (x : α) : Bank.read (Bank.put v i x) i = x := by
  simp [Bank.read, Bank.put]

theorem Bank.read_put_ne (v : Bank α n) {i j : Fin n} (x : α) (h : j ≠ i) :
    Bank.read (Bank.put v i x) j = Bank.read v j := by
  have : i.val ≠ j.val := fun e => h (Fin.ext e.symm)
  simp [Bank.read, Bank.put, this]

theorem Bank.read_put (v : Bank α n) (i j : Fin n) (x : α) :
    Bank.read (Bank.put v i x) j = if j = i then x else Bank.read v j := by
  split
  · next h => subst h; simp
  · next h => exact Bank.read_put_ne v x h

@[simp] theorem Bank.read_tab (f : Fin n → α) (i : Fin n) : Bank.read (Bank.tab f) i = f i := by
  simp [Bank.read, Bank.tab]

@[simp] theorem Bank.read_update (f : Fin n → α → α) (v : Bank α n) (i : Fin n) :
    Bank.read (Bank.update f v) i = f i (Bank.read v i) := by
  simp [Bank.update]

theorem Bank.ext {v w : Bank α n} (h : ∀ i, Bank.read v i = Bank.read w i) : v = w :=
  Vector.ext fun i hi => h ⟨i, hi⟩

@[simp] theorem Bank.put_read (v : Bank α n) (i : Fin n) : Bank.put v i (Bank.read v i) = v := by
  apply Bank.ext
  intro j
  rw [Bank.read_put]
  split
  · next h => subst h; rfl
  · rfl

/-- Writing a place twice keeps the second record. -/
@[simp] theorem Bank.put_put (v : Bank α n) (i : Fin n) (x y : α) : Bank.put (Bank.put v i x) i y = Bank.put v i y := by
  apply Bank.ext
  intro j
  simp only [Bank.read_put]
  split <;> rfl

/-- A sum depends on its terms only. -/
theorem sumFin_congr {f g : Fin n → Nat} (h : ∀ i, f i = g i) : sumFin n f = sumFin n g := by
  simp [sumFin, funext h]

/-- The sum over all places as Mathlib writes it. -/
theorem sumFin_eq_sum (f : Fin n → Nat) : sumFin n f = ∑ i, f i := by
  simp [sumFin, Fin.sum_univ_def]

/-- Changing one term of a sum. -/
theorem sumFin_put (v : Bank α n) (i : Fin n) (x : α) (f : α → Nat) :
    sumFin n (fun j => f (Bank.read (Bank.put v i x) j)) + f (Bank.read v i)
      = sumFin n (fun j => f (Bank.read v j)) + f x := by
  classical
  simp only [sumFin_eq_sum]
  rw [← Finset.add_sum_erase Finset.univ (fun j => f (Bank.read (Bank.put v i x) j)) (Finset.mem_univ i),
    ← Finset.add_sum_erase Finset.univ (fun j => f (Bank.read v j)) (Finset.mem_univ i)]
  have : ∑ j ∈ Finset.univ.erase i, f (Bank.read (Bank.put v i x) j)
      = ∑ j ∈ Finset.univ.erase i, f (Bank.read v j) := by
    apply Finset.sum_congr rfl
    intro j hj
    rw [Bank.read_put_ne v x (Finset.ne_of_mem_erase hj)]
  simp only [this, Bank.read_put_self]
  omega

end Sys2Proof
end

