-- ==== Sys2Proof/Laws/State.lean ====
section
/-! SUPPORT. What each write of a record leaves and changes: one lemma for each field of the state. -/

namespace Sys2Proof.Machine

/-! ### updBay -/

@[simp] theorem updBay_mode (b : Bay) (f : BayRec → BayRec) (s : State) : (updBay b f s).mode = s.mode := rfl
@[simp] theorem updBay_pins (b : Bay) (f : BayRec → BayRec) (s : State) : (updBay b f s).pins = s.pins := rfl
@[simp] theorem updBay_ise (b : Bay) (f : BayRec → BayRec) (s : State) : (updBay b f s).ise = s.ise := rfl
@[simp] theorem updBay_pbu (b : Bay) (f : BayRec → BayRec) (s : State) : (updBay b f s).pbu = s.pbu := rfl
@[simp] theorem updBay_thu (b : Bay) (f : BayRec → BayRec) (s : State) : (updBay b f s).thu = s.thu := rfl
@[simp] theorem updBay_fdu (b : Bay) (f : BayRec → BayRec) (s : State) : (updBay b f s).fdu = s.fdu := rfl
@[simp] theorem updBay_windows (b : Bay) (f : BayRec → BayRec) (s : State) : (updBay b f s).windows = s.windows := rfl
@[simp] theorem updBay_stb (b : Bay) (f : BayRec → BayRec) (s : State) : (updBay b f s).stb = s.stb := rfl
@[simp] theorem updBay_uplinks (b : Bay) (f : BayRec → BayRec) (s : State) : (updBay b f s).uplinks = s.uplinks := rfl
@[simp] theorem updBay_fbm (b : Bay) (f : BayRec → BayRec) (s : State) : (updBay b f s).fbm = s.fbm := rfl
@[simp] theorem updBay_sve (b : Bay) (f : BayRec → BayRec) (s : State) : (updBay b f s).sve = s.sve := rfl
@[simp] theorem updBay_pending (b : Bay) (f : BayRec → BayRec) (s : State) : (updBay b f s).pending = s.pending := rfl

/-! ### updBays -/

@[simp] theorem updBays_mode (f : Bay → BayRec → BayRec) (s : State) : (updBays f s).mode = s.mode := rfl
@[simp] theorem updBays_pins (f : Bay → BayRec → BayRec) (s : State) : (updBays f s).pins = s.pins := rfl
@[simp] theorem updBays_ise (f : Bay → BayRec → BayRec) (s : State) : (updBays f s).ise = s.ise := rfl
@[simp] theorem updBays_pbu (f : Bay → BayRec → BayRec) (s : State) : (updBays f s).pbu = s.pbu := rfl
@[simp] theorem updBays_thu (f : Bay → BayRec → BayRec) (s : State) : (updBays f s).thu = s.thu := rfl
@[simp] theorem updBays_fdu (f : Bay → BayRec → BayRec) (s : State) : (updBays f s).fdu = s.fdu := rfl
@[simp] theorem updBays_windows (f : Bay → BayRec → BayRec) (s : State) : (updBays f s).windows = s.windows := rfl
@[simp] theorem updBays_stb (f : Bay → BayRec → BayRec) (s : State) : (updBays f s).stb = s.stb := rfl
@[simp] theorem updBays_uplinks (f : Bay → BayRec → BayRec) (s : State) : (updBays f s).uplinks = s.uplinks := rfl
@[simp] theorem updBays_fbm (f : Bay → BayRec → BayRec) (s : State) : (updBays f s).fbm = s.fbm := rfl
@[simp] theorem updBays_sve (f : Bay → BayRec → BayRec) (s : State) : (updBays f s).sve = s.sve := rfl
@[simp] theorem updBays_pending (f : Bay → BayRec → BayRec) (s : State) : (updBays f s).pending = s.pending := rfl

/-! ### updSlot -/

@[simp] theorem updSlot_mode (k : Slot) (f : SlotRec → SlotRec) (s : State) : (updSlot k f s).mode = s.mode := rfl
@[simp] theorem updSlot_pins (k : Slot) (f : SlotRec → SlotRec) (s : State) : (updSlot k f s).pins = s.pins := rfl
@[simp] theorem updSlot_bays (k : Slot) (f : SlotRec → SlotRec) (s : State) : (updSlot k f s).bays = s.bays := rfl
@[simp] theorem updSlot_pbu (k : Slot) (f : SlotRec → SlotRec) (s : State) : (updSlot k f s).pbu = s.pbu := rfl
@[simp] theorem updSlot_thu (k : Slot) (f : SlotRec → SlotRec) (s : State) : (updSlot k f s).thu = s.thu := rfl
@[simp] theorem updSlot_fdu (k : Slot) (f : SlotRec → SlotRec) (s : State) : (updSlot k f s).fdu = s.fdu := rfl
@[simp] theorem updSlot_windows (k : Slot) (f : SlotRec → SlotRec) (s : State) : (updSlot k f s).windows = s.windows := rfl
@[simp] theorem updSlot_stb (k : Slot) (f : SlotRec → SlotRec) (s : State) : (updSlot k f s).stb = s.stb := rfl
@[simp] theorem updSlot_uplinks (k : Slot) (f : SlotRec → SlotRec) (s : State) : (updSlot k f s).uplinks = s.uplinks := rfl
@[simp] theorem updSlot_fbm (k : Slot) (f : SlotRec → SlotRec) (s : State) : (updSlot k f s).fbm = s.fbm := rfl
@[simp] theorem updSlot_sve (k : Slot) (f : SlotRec → SlotRec) (s : State) : (updSlot k f s).sve = s.sve := rfl
@[simp] theorem updSlot_pending (k : Slot) (f : SlotRec → SlotRec) (s : State) : (updSlot k f s).pending = s.pending := rfl

/-! ### updIse -/

@[simp] theorem updIse_mode (f : Ise → Ise) (s : State) : (updIse f s).mode = s.mode := rfl
@[simp] theorem updIse_pins (f : Ise → Ise) (s : State) : (updIse f s).pins = s.pins := rfl
@[simp] theorem updIse_bays (f : Ise → Ise) (s : State) : (updIse f s).bays = s.bays := rfl
@[simp] theorem updIse_ise (f : Ise → Ise) (s : State) :
    (updIse f s).ise = f s.ise := rfl
@[simp] theorem updIse_pbu (f : Ise → Ise) (s : State) : (updIse f s).pbu = s.pbu := rfl
@[simp] theorem updIse_thu (f : Ise → Ise) (s : State) : (updIse f s).thu = s.thu := rfl
@[simp] theorem updIse_fdu (f : Ise → Ise) (s : State) : (updIse f s).fdu = s.fdu := rfl
@[simp] theorem updIse_windows (f : Ise → Ise) (s : State) : (updIse f s).windows = s.windows := rfl
@[simp] theorem updIse_stb (f : Ise → Ise) (s : State) : (updIse f s).stb = s.stb := rfl
@[simp] theorem updIse_uplinks (f : Ise → Ise) (s : State) : (updIse f s).uplinks = s.uplinks := rfl
@[simp] theorem updIse_fbm (f : Ise → Ise) (s : State) : (updIse f s).fbm = s.fbm := rfl
@[simp] theorem updIse_sve (f : Ise → Ise) (s : State) : (updIse f s).sve = s.sve := rfl
@[simp] theorem updIse_pending (f : Ise → Ise) (s : State) : (updIse f s).pending = s.pending := rfl

/-! ### updPbu -/

@[simp] theorem updPbu_mode (f : Pbu → Pbu) (s : State) : (updPbu f s).mode = s.mode := rfl
@[simp] theorem updPbu_pins (f : Pbu → Pbu) (s : State) : (updPbu f s).pins = s.pins := rfl
@[simp] theorem updPbu_bays (f : Pbu → Pbu) (s : State) : (updPbu f s).bays = s.bays := rfl
@[simp] theorem updPbu_ise (f : Pbu → Pbu) (s : State) : (updPbu f s).ise = s.ise := rfl
@[simp] theorem updPbu_pbu (f : Pbu → Pbu) (s : State) :
    (updPbu f s).pbu = f s.pbu := rfl
@[simp] theorem updPbu_thu (f : Pbu → Pbu) (s : State) : (updPbu f s).thu = s.thu := rfl
@[simp] theorem updPbu_fdu (f : Pbu → Pbu) (s : State) : (updPbu f s).fdu = s.fdu := rfl
@[simp] theorem updPbu_windows (f : Pbu → Pbu) (s : State) : (updPbu f s).windows = s.windows := rfl
@[simp] theorem updPbu_stb (f : Pbu → Pbu) (s : State) : (updPbu f s).stb = s.stb := rfl
@[simp] theorem updPbu_uplinks (f : Pbu → Pbu) (s : State) : (updPbu f s).uplinks = s.uplinks := rfl
@[simp] theorem updPbu_fbm (f : Pbu → Pbu) (s : State) : (updPbu f s).fbm = s.fbm := rfl
@[simp] theorem updPbu_sve (f : Pbu → Pbu) (s : State) : (updPbu f s).sve = s.sve := rfl
@[simp] theorem updPbu_pending (f : Pbu → Pbu) (s : State) : (updPbu f s).pending = s.pending := rfl

/-! ### updEmg -/

@[simp] theorem updEmg_mode (f : Emergency → Emergency) (s : State) : (updEmg f s).mode = s.mode := rfl
@[simp] theorem updEmg_pins (f : Emergency → Emergency) (s : State) : (updEmg f s).pins = s.pins := rfl
@[simp] theorem updEmg_bays (f : Emergency → Emergency) (s : State) : (updEmg f s).bays = s.bays := rfl
@[simp] theorem updEmg_ise (f : Emergency → Emergency) (s : State) : (updEmg f s).ise = s.ise := rfl
@[simp] theorem updEmg_pbu (f : Emergency → Emergency) (s : State) :
    (updEmg f s).pbu = { s.pbu with emg := f s.pbu.emg } := rfl
@[simp] theorem updEmg_thu (f : Emergency → Emergency) (s : State) : (updEmg f s).thu = s.thu := rfl
@[simp] theorem updEmg_fdu (f : Emergency → Emergency) (s : State) : (updEmg f s).fdu = s.fdu := rfl
@[simp] theorem updEmg_windows (f : Emergency → Emergency) (s : State) : (updEmg f s).windows = s.windows := rfl
@[simp] theorem updEmg_stb (f : Emergency → Emergency) (s : State) : (updEmg f s).stb = s.stb := rfl
@[simp] theorem updEmg_uplinks (f : Emergency → Emergency) (s : State) : (updEmg f s).uplinks = s.uplinks := rfl
@[simp] theorem updEmg_fbm (f : Emergency → Emergency) (s : State) : (updEmg f s).fbm = s.fbm := rfl
@[simp] theorem updEmg_sve (f : Emergency → Emergency) (s : State) : (updEmg f s).sve = s.sve := rfl
@[simp] theorem updEmg_pending (f : Emergency → Emergency) (s : State) : (updEmg f s).pending = s.pending := rfl

/-! ### updSupply -/

@[simp] theorem updSupply_mode (p : Psu) (f : SupplyRec → SupplyRec) (s : State) : (updSupply p f s).mode = s.mode := rfl
@[simp] theorem updSupply_pins (p : Psu) (f : SupplyRec → SupplyRec) (s : State) : (updSupply p f s).pins = s.pins := rfl
@[simp] theorem updSupply_bays (p : Psu) (f : SupplyRec → SupplyRec) (s : State) : (updSupply p f s).bays = s.bays := rfl
@[simp] theorem updSupply_ise (p : Psu) (f : SupplyRec → SupplyRec) (s : State) : (updSupply p f s).ise = s.ise := rfl
@[simp] theorem updSupply_thu (p : Psu) (f : SupplyRec → SupplyRec) (s : State) : (updSupply p f s).thu = s.thu := rfl
@[simp] theorem updSupply_fdu (p : Psu) (f : SupplyRec → SupplyRec) (s : State) : (updSupply p f s).fdu = s.fdu := rfl
@[simp] theorem updSupply_windows (p : Psu) (f : SupplyRec → SupplyRec) (s : State) : (updSupply p f s).windows = s.windows := rfl
@[simp] theorem updSupply_stb (p : Psu) (f : SupplyRec → SupplyRec) (s : State) : (updSupply p f s).stb = s.stb := rfl
@[simp] theorem updSupply_uplinks (p : Psu) (f : SupplyRec → SupplyRec) (s : State) : (updSupply p f s).uplinks = s.uplinks := rfl
@[simp] theorem updSupply_fbm (p : Psu) (f : SupplyRec → SupplyRec) (s : State) : (updSupply p f s).fbm = s.fbm := rfl
@[simp] theorem updSupply_sve (p : Psu) (f : SupplyRec → SupplyRec) (s : State) : (updSupply p f s).sve = s.sve := rfl
@[simp] theorem updSupply_pending (p : Psu) (f : SupplyRec → SupplyRec) (s : State) : (updSupply p f s).pending = s.pending := rfl

/-! ### updThermal -/

@[simp] theorem updThermal_mode (b : Bay) (f : ThermalEntry → ThermalEntry) (s : State) : (updThermal b f s).mode = s.mode := rfl
@[simp] theorem updThermal_pins (b : Bay) (f : ThermalEntry → ThermalEntry) (s : State) : (updThermal b f s).pins = s.pins := rfl
@[simp] theorem updThermal_bays (b : Bay) (f : ThermalEntry → ThermalEntry) (s : State) : (updThermal b f s).bays = s.bays := rfl
@[simp] theorem updThermal_ise (b : Bay) (f : ThermalEntry → ThermalEntry) (s : State) : (updThermal b f s).ise = s.ise := rfl
@[simp] theorem updThermal_pbu (b : Bay) (f : ThermalEntry → ThermalEntry) (s : State) : (updThermal b f s).pbu = s.pbu := rfl
@[simp] theorem updThermal_fdu (b : Bay) (f : ThermalEntry → ThermalEntry) (s : State) : (updThermal b f s).fdu = s.fdu := rfl
@[simp] theorem updThermal_windows (b : Bay) (f : ThermalEntry → ThermalEntry) (s : State) : (updThermal b f s).windows = s.windows := rfl
@[simp] theorem updThermal_stb (b : Bay) (f : ThermalEntry → ThermalEntry) (s : State) : (updThermal b f s).stb = s.stb := rfl
@[simp] theorem updThermal_uplinks (b : Bay) (f : ThermalEntry → ThermalEntry) (s : State) : (updThermal b f s).uplinks = s.uplinks := rfl
@[simp] theorem updThermal_fbm (b : Bay) (f : ThermalEntry → ThermalEntry) (s : State) : (updThermal b f s).fbm = s.fbm := rfl
@[simp] theorem updThermal_sve (b : Bay) (f : ThermalEntry → ThermalEntry) (s : State) : (updThermal b f s).sve = s.sve := rfl
@[simp] theorem updThermal_pending (b : Bay) (f : ThermalEntry → ThermalEntry) (s : State) : (updThermal b f s).pending = s.pending := rfl

/-! ### updZone -/

@[simp] theorem updZone_mode (z : Zone) (f : ZoneRec → ZoneRec) (s : State) : (updZone z f s).mode = s.mode := rfl
@[simp] theorem updZone_pins (z : Zone) (f : ZoneRec → ZoneRec) (s : State) : (updZone z f s).pins = s.pins := rfl
@[simp] theorem updZone_bays (z : Zone) (f : ZoneRec → ZoneRec) (s : State) : (updZone z f s).bays = s.bays := rfl
@[simp] theorem updZone_ise (z : Zone) (f : ZoneRec → ZoneRec) (s : State) : (updZone z f s).ise = s.ise := rfl
@[simp] theorem updZone_pbu (z : Zone) (f : ZoneRec → ZoneRec) (s : State) : (updZone z f s).pbu = s.pbu := rfl
@[simp] theorem updZone_fdu (z : Zone) (f : ZoneRec → ZoneRec) (s : State) : (updZone z f s).fdu = s.fdu := rfl
@[simp] theorem updZone_windows (z : Zone) (f : ZoneRec → ZoneRec) (s : State) : (updZone z f s).windows = s.windows := rfl
@[simp] theorem updZone_stb (z : Zone) (f : ZoneRec → ZoneRec) (s : State) : (updZone z f s).stb = s.stb := rfl
@[simp] theorem updZone_uplinks (z : Zone) (f : ZoneRec → ZoneRec) (s : State) : (updZone z f s).uplinks = s.uplinks := rfl
@[simp] theorem updZone_fbm (z : Zone) (f : ZoneRec → ZoneRec) (s : State) : (updZone z f s).fbm = s.fbm := rfl
@[simp] theorem updZone_sve (z : Zone) (f : ZoneRec → ZoneRec) (s : State) : (updZone z f s).sve = s.sve := rfl
@[simp] theorem updZone_pending (z : Zone) (f : ZoneRec → ZoneRec) (s : State) : (updZone z f s).pending = s.pending := rfl

/-! ### updAir -/

@[simp] theorem updAir_mode (z : Zone) (f : ZoneAir → ZoneAir) (s : State) : (updAir z f s).mode = s.mode := rfl
@[simp] theorem updAir_pins (z : Zone) (f : ZoneAir → ZoneAir) (s : State) : (updAir z f s).pins = s.pins := rfl
@[simp] theorem updAir_bays (z : Zone) (f : ZoneAir → ZoneAir) (s : State) : (updAir z f s).bays = s.bays := rfl
@[simp] theorem updAir_ise (z : Zone) (f : ZoneAir → ZoneAir) (s : State) : (updAir z f s).ise = s.ise := rfl
@[simp] theorem updAir_pbu (z : Zone) (f : ZoneAir → ZoneAir) (s : State) : (updAir z f s).pbu = s.pbu := rfl
@[simp] theorem updAir_thu (z : Zone) (f : ZoneAir → ZoneAir) (s : State) : (updAir z f s).thu = s.thu := rfl
@[simp] theorem updAir_windows (z : Zone) (f : ZoneAir → ZoneAir) (s : State) : (updAir z f s).windows = s.windows := rfl
@[simp] theorem updAir_stb (z : Zone) (f : ZoneAir → ZoneAir) (s : State) : (updAir z f s).stb = s.stb := rfl
@[simp] theorem updAir_uplinks (z : Zone) (f : ZoneAir → ZoneAir) (s : State) : (updAir z f s).uplinks = s.uplinks := rfl
@[simp] theorem updAir_fbm (z : Zone) (f : ZoneAir → ZoneAir) (s : State) : (updAir z f s).fbm = s.fbm := rfl
@[simp] theorem updAir_sve (z : Zone) (f : ZoneAir → ZoneAir) (s : State) : (updAir z f s).sve = s.sve := rfl
@[simp] theorem updAir_pending (z : Zone) (f : ZoneAir → ZoneAir) (s : State) : (updAir z f s).pending = s.pending := rfl

/-! ### updFan -/

@[simp] theorem updFan_mode (i : Fan) (f : FanRec → FanRec) (s : State) : (updFan i f s).mode = s.mode := rfl
@[simp] theorem updFan_pins (i : Fan) (f : FanRec → FanRec) (s : State) : (updFan i f s).pins = s.pins := rfl
@[simp] theorem updFan_bays (i : Fan) (f : FanRec → FanRec) (s : State) : (updFan i f s).bays = s.bays := rfl
@[simp] theorem updFan_ise (i : Fan) (f : FanRec → FanRec) (s : State) : (updFan i f s).ise = s.ise := rfl
@[simp] theorem updFan_pbu (i : Fan) (f : FanRec → FanRec) (s : State) : (updFan i f s).pbu = s.pbu := rfl
@[simp] theorem updFan_thu (i : Fan) (f : FanRec → FanRec) (s : State) : (updFan i f s).thu = s.thu := rfl
@[simp] theorem updFan_windows (i : Fan) (f : FanRec → FanRec) (s : State) : (updFan i f s).windows = s.windows := rfl
@[simp] theorem updFan_stb (i : Fan) (f : FanRec → FanRec) (s : State) : (updFan i f s).stb = s.stb := rfl
@[simp] theorem updFan_uplinks (i : Fan) (f : FanRec → FanRec) (s : State) : (updFan i f s).uplinks = s.uplinks := rfl
@[simp] theorem updFan_fbm (i : Fan) (f : FanRec → FanRec) (s : State) : (updFan i f s).fbm = s.fbm := rfl
@[simp] theorem updFan_sve (i : Fan) (f : FanRec → FanRec) (s : State) : (updFan i f s).sve = s.sve := rfl
@[simp] theorem updFan_pending (i : Fan) (f : FanRec → FanRec) (s : State) : (updFan i f s).pending = s.pending := rfl

/-! ### updFans -/

@[simp] theorem updFans_mode (f : Fan → FanRec → FanRec) (s : State) : (updFans f s).mode = s.mode := rfl
@[simp] theorem updFans_pins (f : Fan → FanRec → FanRec) (s : State) : (updFans f s).pins = s.pins := rfl
@[simp] theorem updFans_bays (f : Fan → FanRec → FanRec) (s : State) : (updFans f s).bays = s.bays := rfl
@[simp] theorem updFans_ise (f : Fan → FanRec → FanRec) (s : State) : (updFans f s).ise = s.ise := rfl
@[simp] theorem updFans_pbu (f : Fan → FanRec → FanRec) (s : State) : (updFans f s).pbu = s.pbu := rfl
@[simp] theorem updFans_thu (f : Fan → FanRec → FanRec) (s : State) : (updFans f s).thu = s.thu := rfl
@[simp] theorem updFans_windows (f : Fan → FanRec → FanRec) (s : State) : (updFans f s).windows = s.windows := rfl
@[simp] theorem updFans_stb (f : Fan → FanRec → FanRec) (s : State) : (updFans f s).stb = s.stb := rfl
@[simp] theorem updFans_uplinks (f : Fan → FanRec → FanRec) (s : State) : (updFans f s).uplinks = s.uplinks := rfl
@[simp] theorem updFans_fbm (f : Fan → FanRec → FanRec) (s : State) : (updFans f s).fbm = s.fbm := rfl
@[simp] theorem updFans_sve (f : Fan → FanRec → FanRec) (s : State) : (updFans f s).sve = s.sve := rfl
@[simp] theorem updFans_pending (f : Fan → FanRec → FanRec) (s : State) : (updFans f s).pending = s.pending := rfl

/-! ### updUplink -/

@[simp] theorem updUplink_mode (u : Uplink) (f : UplinkRec → UplinkRec) (s : State) : (updUplink u f s).mode = s.mode := rfl
@[simp] theorem updUplink_pins (u : Uplink) (f : UplinkRec → UplinkRec) (s : State) : (updUplink u f s).pins = s.pins := rfl
@[simp] theorem updUplink_bays (u : Uplink) (f : UplinkRec → UplinkRec) (s : State) : (updUplink u f s).bays = s.bays := rfl
@[simp] theorem updUplink_ise (u : Uplink) (f : UplinkRec → UplinkRec) (s : State) : (updUplink u f s).ise = s.ise := rfl
@[simp] theorem updUplink_pbu (u : Uplink) (f : UplinkRec → UplinkRec) (s : State) : (updUplink u f s).pbu = s.pbu := rfl
@[simp] theorem updUplink_thu (u : Uplink) (f : UplinkRec → UplinkRec) (s : State) : (updUplink u f s).thu = s.thu := rfl
@[simp] theorem updUplink_fdu (u : Uplink) (f : UplinkRec → UplinkRec) (s : State) : (updUplink u f s).fdu = s.fdu := rfl
@[simp] theorem updUplink_windows (u : Uplink) (f : UplinkRec → UplinkRec) (s : State) : (updUplink u f s).windows = s.windows := rfl
@[simp] theorem updUplink_stb (u : Uplink) (f : UplinkRec → UplinkRec) (s : State) : (updUplink u f s).stb = s.stb := rfl
@[simp] theorem updUplink_fbm (u : Uplink) (f : UplinkRec → UplinkRec) (s : State) : (updUplink u f s).fbm = s.fbm := rfl
@[simp] theorem updUplink_sve (u : Uplink) (f : UplinkRec → UplinkRec) (s : State) : (updUplink u f s).sve = s.sve := rfl
@[simp] theorem updUplink_pending (u : Uplink) (f : UplinkRec → UplinkRec) (s : State) : (updUplink u f s).pending = s.pending := rfl

/-! ### updWindow -/

@[simp] theorem updWindow_mode (b : Bay) (w : Window) (s : State) : (updWindow b w s).mode = s.mode := rfl
@[simp] theorem updWindow_pins (b : Bay) (w : Window) (s : State) : (updWindow b w s).pins = s.pins := rfl
@[simp] theorem updWindow_bays (b : Bay) (w : Window) (s : State) : (updWindow b w s).bays = s.bays := rfl
@[simp] theorem updWindow_ise (b : Bay) (w : Window) (s : State) : (updWindow b w s).ise = s.ise := rfl
@[simp] theorem updWindow_pbu (b : Bay) (w : Window) (s : State) : (updWindow b w s).pbu = s.pbu := rfl
@[simp] theorem updWindow_thu (b : Bay) (w : Window) (s : State) : (updWindow b w s).thu = s.thu := rfl
@[simp] theorem updWindow_fdu (b : Bay) (w : Window) (s : State) : (updWindow b w s).fdu = s.fdu := rfl
@[simp] theorem updWindow_windows (b : Bay) (w : Window) (s : State) :
    (updWindow b w s).windows = Bank.put s.windows b w := rfl
@[simp] theorem updWindow_stb (b : Bay) (w : Window) (s : State) : (updWindow b w s).stb = s.stb := rfl
@[simp] theorem updWindow_uplinks (b : Bay) (w : Window) (s : State) : (updWindow b w s).uplinks = s.uplinks := rfl
@[simp] theorem updWindow_fbm (b : Bay) (w : Window) (s : State) : (updWindow b w s).fbm = s.fbm := rfl
@[simp] theorem updWindow_sve (b : Bay) (w : Window) (s : State) : (updWindow b w s).sve = s.sve := rfl
@[simp] theorem updWindow_pending (b : Bay) (w : Window) (s : State) : (updWindow b w s).pending = s.pending := rfl

/-! ### updStb -/

@[simp] theorem updStb_mode (f : Stb → Stb) (s : State) : (updStb f s).mode = s.mode := rfl
@[simp] theorem updStb_pins (f : Stb → Stb) (s : State) : (updStb f s).pins = s.pins := rfl
@[simp] theorem updStb_bays (f : Stb → Stb) (s : State) : (updStb f s).bays = s.bays := rfl
@[simp] theorem updStb_ise (f : Stb → Stb) (s : State) : (updStb f s).ise = s.ise := rfl
@[simp] theorem updStb_pbu (f : Stb → Stb) (s : State) : (updStb f s).pbu = s.pbu := rfl
@[simp] theorem updStb_thu (f : Stb → Stb) (s : State) : (updStb f s).thu = s.thu := rfl
@[simp] theorem updStb_fdu (f : Stb → Stb) (s : State) : (updStb f s).fdu = s.fdu := rfl
@[simp] theorem updStb_windows (f : Stb → Stb) (s : State) : (updStb f s).windows = s.windows := rfl
@[simp] theorem updStb_stb (f : Stb → Stb) (s : State) :
    (updStb f s).stb = f s.stb := rfl
@[simp] theorem updStb_uplinks (f : Stb → Stb) (s : State) : (updStb f s).uplinks = s.uplinks := rfl
@[simp] theorem updStb_fbm (f : Stb → Stb) (s : State) : (updStb f s).fbm = s.fbm := rfl
@[simp] theorem updStb_sve (f : Stb → Stb) (s : State) : (updStb f s).sve = s.sve := rfl
@[simp] theorem updStb_pending (f : Stb → Stb) (s : State) : (updStb f s).pending = s.pending := rfl

/-! ### updPlaces -/

@[simp] theorem updPlaces_mode (f : List Place → List Place) (s : State) : (updPlaces f s).mode = s.mode := rfl
@[simp] theorem updPlaces_pins (f : List Place → List Place) (s : State) : (updPlaces f s).pins = s.pins := rfl
@[simp] theorem updPlaces_bays (f : List Place → List Place) (s : State) : (updPlaces f s).bays = s.bays := rfl
@[simp] theorem updPlaces_ise (f : List Place → List Place) (s : State) : (updPlaces f s).ise = s.ise := rfl
@[simp] theorem updPlaces_pbu (f : List Place → List Place) (s : State) : (updPlaces f s).pbu = s.pbu := rfl
@[simp] theorem updPlaces_thu (f : List Place → List Place) (s : State) : (updPlaces f s).thu = s.thu := rfl
@[simp] theorem updPlaces_fdu (f : List Place → List Place) (s : State) : (updPlaces f s).fdu = s.fdu := rfl
@[simp] theorem updPlaces_windows (f : List Place → List Place) (s : State) : (updPlaces f s).windows = s.windows := rfl
@[simp] theorem updPlaces_stb (f : List Place → List Place) (s : State) :
    (updPlaces f s).stb = { s.stb with places := f s.stb.places } := rfl
@[simp] theorem updPlaces_uplinks (f : List Place → List Place) (s : State) : (updPlaces f s).uplinks = s.uplinks := rfl
@[simp] theorem updPlaces_fbm (f : List Place → List Place) (s : State) : (updPlaces f s).fbm = s.fbm := rfl
@[simp] theorem updPlaces_sve (f : List Place → List Place) (s : State) : (updPlaces f s).sve = s.sve := rfl
@[simp] theorem updPlaces_pending (f : List Place → List Place) (s : State) : (updPlaces f s).pending = s.pending := rfl

/-! ### updSve -/

@[simp] theorem updSve_mode (f : Sve → Sve) (s : State) : (updSve f s).mode = s.mode := rfl
@[simp] theorem updSve_pins (f : Sve → Sve) (s : State) : (updSve f s).pins = s.pins := rfl
@[simp] theorem updSve_bays (f : Sve → Sve) (s : State) : (updSve f s).bays = s.bays := rfl
@[simp] theorem updSve_ise (f : Sve → Sve) (s : State) : (updSve f s).ise = s.ise := rfl
@[simp] theorem updSve_pbu (f : Sve → Sve) (s : State) : (updSve f s).pbu = s.pbu := rfl
@[simp] theorem updSve_thu (f : Sve → Sve) (s : State) : (updSve f s).thu = s.thu := rfl
@[simp] theorem updSve_fdu (f : Sve → Sve) (s : State) : (updSve f s).fdu = s.fdu := rfl
@[simp] theorem updSve_windows (f : Sve → Sve) (s : State) : (updSve f s).windows = s.windows := rfl
@[simp] theorem updSve_stb (f : Sve → Sve) (s : State) : (updSve f s).stb = s.stb := rfl
@[simp] theorem updSve_uplinks (f : Sve → Sve) (s : State) : (updSve f s).uplinks = s.uplinks := rfl
@[simp] theorem updSve_fbm (f : Sve → Sve) (s : State) : (updSve f s).fbm = s.fbm := rfl
@[simp] theorem updSve_sve (f : Sve → Sve) (s : State) :
    (updSve f s).sve = f s.sve := rfl
@[simp] theorem updSve_pending (f : Sve → Sve) (s : State) : (updSve f s).pending = s.pending := rfl

/-! ### updPins -/

@[simp] theorem updPins_mode (f : Pins → Pins) (s : State) : (updPins f s).mode = s.mode := rfl
@[simp] theorem updPins_pins (f : Pins → Pins) (s : State) :
    (updPins f s).pins = f s.pins := rfl
@[simp] theorem updPins_bays (f : Pins → Pins) (s : State) : (updPins f s).bays = s.bays := rfl
@[simp] theorem updPins_ise (f : Pins → Pins) (s : State) : (updPins f s).ise = s.ise := rfl
@[simp] theorem updPins_pbu (f : Pins → Pins) (s : State) : (updPins f s).pbu = s.pbu := rfl
@[simp] theorem updPins_thu (f : Pins → Pins) (s : State) : (updPins f s).thu = s.thu := rfl
@[simp] theorem updPins_fdu (f : Pins → Pins) (s : State) : (updPins f s).fdu = s.fdu := rfl
@[simp] theorem updPins_windows (f : Pins → Pins) (s : State) : (updPins f s).windows = s.windows := rfl
@[simp] theorem updPins_stb (f : Pins → Pins) (s : State) : (updPins f s).stb = s.stb := rfl
@[simp] theorem updPins_uplinks (f : Pins → Pins) (s : State) : (updPins f s).uplinks = s.uplinks := rfl
@[simp] theorem updPins_fbm (f : Pins → Pins) (s : State) : (updPins f s).fbm = s.fbm := rfl
@[simp] theorem updPins_sve (f : Pins → Pins) (s : State) : (updPins f s).sve = s.sve := rfl
@[simp] theorem updPins_pending (f : Pins → Pins) (s : State) : (updPins f s).pending = s.pending := rfl

/-! ### updFbm -/

@[simp] theorem updFbm_mode (f : Fbm → Fbm) (s : State) : (updFbm f s).mode = s.mode := rfl
@[simp] theorem updFbm_pins (f : Fbm → Fbm) (s : State) : (updFbm f s).pins = s.pins := rfl
@[simp] theorem updFbm_bays (f : Fbm → Fbm) (s : State) : (updFbm f s).bays = s.bays := rfl
@[simp] theorem updFbm_ise (f : Fbm → Fbm) (s : State) : (updFbm f s).ise = s.ise := rfl
@[simp] theorem updFbm_pbu (f : Fbm → Fbm) (s : State) : (updFbm f s).pbu = s.pbu := rfl
@[simp] theorem updFbm_thu (f : Fbm → Fbm) (s : State) : (updFbm f s).thu = s.thu := rfl
@[simp] theorem updFbm_fdu (f : Fbm → Fbm) (s : State) : (updFbm f s).fdu = s.fdu := rfl
@[simp] theorem updFbm_windows (f : Fbm → Fbm) (s : State) : (updFbm f s).windows = s.windows := rfl
@[simp] theorem updFbm_stb (f : Fbm → Fbm) (s : State) : (updFbm f s).stb = s.stb := rfl
@[simp] theorem updFbm_uplinks (f : Fbm → Fbm) (s : State) : (updFbm f s).uplinks = s.uplinks := rfl
@[simp] theorem updFbm_fbm (f : Fbm → Fbm) (s : State) :
    (updFbm f s).fbm = f s.fbm := rfl
@[simp] theorem updFbm_sve (f : Fbm → Fbm) (s : State) : (updFbm f s).sve = s.sve := rfl
@[simp] theorem updFbm_pending (f : Fbm → Fbm) (s : State) : (updFbm f s).pending = s.pending := rfl

/-! ### The other fields of a block -/

@[simp] theorem updSupply_pbu_policy (p : Psu) (f : SupplyRec → SupplyRec) (s : State) : (updSupply p f s).pbu.policy = s.pbu.policy := rfl
@[simp] theorem updSupply_pbu_ae (p : Psu) (f : SupplyRec → SupplyRec) (s : State) : (updSupply p f s).pbu.ae = s.pbu.ae := rfl
@[simp] theorem updSupply_pbu_ae2 (p : Psu) (f : SupplyRec → SupplyRec) (s : State) : (updSupply p f s).pbu.ae2 = s.pbu.ae2 := rfl
@[simp] theorem updSupply_pbu_waitList (p : Psu) (f : SupplyRec → SupplyRec) (s : State) : (updSupply p f s).pbu.waitList = s.pbu.waitList := rfl
@[simp] theorem updSupply_pbu_nextStamp (p : Psu) (f : SupplyRec → SupplyRec) (s : State) : (updSupply p f s).pbu.nextStamp = s.pbu.nextStamp := rfl
@[simp] theorem updSupply_pbu_seq (p : Psu) (f : SupplyRec → SupplyRec) (s : State) : (updSupply p f s).pbu.seq = s.pbu.seq := rfl
@[simp] theorem updSupply_pbu_gapTimer (p : Psu) (f : SupplyRec → SupplyRec) (s : State) : (updSupply p f s).pbu.gapTimer = s.pbu.gapTimer := rfl
@[simp] theorem updSupply_pbu_emg (p : Psu) (f : SupplyRec → SupplyRec) (s : State) : (updSupply p f s).pbu.emg = s.pbu.emg := rfl
@[simp] theorem updSupply_pbu_hold (p : Psu) (f : SupplyRec → SupplyRec) (s : State) : (updSupply p f s).pbu.hold = s.pbu.hold := rfl
@[simp] theorem updSupply_pbu_holdTimer (p : Psu) (f : SupplyRec → SupplyRec) (s : State) : (updSupply p f s).pbu.holdTimer = s.pbu.holdTimer := rfl
@[simp] theorem updSupply_pbu_figures (p : Psu) (f : SupplyRec → SupplyRec) (s : State) : (updSupply p f s).pbu.figures = s.pbu.figures := rfl
@[simp] theorem updSlot_ise_queue (k : Slot) (f : SlotRec → SlotRec) (s : State) : (updSlot k f s).ise.queue = s.ise.queue := rfl
@[simp] theorem updSlot_ise_scan (k : Slot) (f : SlotRec → SlotRec) (s : State) : (updSlot k f s).ise.scan = s.ise.scan := rfl
@[simp] theorem updThermal_thu_zones (b : Bay) (f : ThermalEntry → ThermalEntry) (s : State) : (updThermal b f s).thu.zones = s.thu.zones := rfl
@[simp] theorem updThermal_thu_controlTimer (b : Bay) (f : ThermalEntry → ThermalEntry) (s : State) : (updThermal b f s).thu.controlTimer = s.thu.controlTimer := rfl
@[simp] theorem updZone_thu_entries (z : Zone) (f : ZoneRec → ZoneRec) (s : State) : (updZone z f s).thu.entries = s.thu.entries := rfl
@[simp] theorem updZone_thu_controlTimer (z : Zone) (f : ZoneRec → ZoneRec) (s : State) : (updZone z f s).thu.controlTimer = s.thu.controlTimer := rfl
@[simp] theorem updAir_fdu_fans (z : Zone) (f : ZoneAir → ZoneAir) (s : State) : (updAir z f s).fdu.fans = s.fdu.fans := rfl
@[simp] theorem updFan_fdu_air (i : Fan) (f : FanRec → FanRec) (s : State) : (updFan i f s).fdu.air = s.fdu.air := rfl
@[simp] theorem updFans_fdu_air (f : Fan → FanRec → FanRec) (s : State) : (updFans f s).fdu.air = s.fdu.air := rfl

/-! ### Reading a record after a write -/

theorem bayRec_updBay (b c : Bay) (f : BayRec → BayRec) (s : State) :
    bayRec (updBay b f s) c = if c = b then followThrottle (f (bayRec s b)) else bayRec s c :=
  Bank.read_put s.bays b c _

@[simp] theorem bayRec_updBay_self (b : Bay) (f : BayRec → BayRec) (s : State) :
    bayRec (updBay b f s) b = followThrottle (f (bayRec s b)) := by simp [bayRec_updBay]

theorem bayRec_updBay_ne {b c : Bay} (f : BayRec → BayRec) (s : State) (h : c ≠ b) :
    bayRec (updBay b f s) c = bayRec s c := by simp [bayRec_updBay, h]

@[simp] theorem bayRec_updBays (f : Bay → BayRec → BayRec) (s : State) (b : Bay) :
    bayRec (updBays f s) b = followThrottle (f b (bayRec s b)) := by
  simp only [bayRec, updBays, Bank.read_update]

@[simp] theorem bayRec_updPbu (f : Pbu → Pbu) (s : State) (b : Bay) : bayRec (updPbu f s) b = bayRec s b := rfl
@[simp] theorem bayRec_updEmg (f : Emergency → Emergency) (s : State) (b : Bay) : bayRec (updEmg f s) b = bayRec s b := rfl

theorem slotRec_updSlot (k j : Slot) (f : SlotRec → SlotRec) (s : State) :
    slotRec (updSlot k f s) j = if j = k then f (slotRec s k) else slotRec s j :=
  Bank.read_put s.ise.slots k j _

@[simp] theorem slotRec_updSlot_self (k : Slot) (f : SlotRec → SlotRec) (s : State) :
    slotRec (updSlot k f s) k = f (slotRec s k) := by simp [slotRec_updSlot]

theorem slotRec_updSlot_ne {k j : Slot} (f : SlotRec → SlotRec) (s : State) (h : j ≠ k) :
    slotRec (updSlot k f s) j = slotRec s j := by simp [slotRec_updSlot, h]

theorem supplyRec_updSupply (p q : Psu) (f : SupplyRec → SupplyRec) (s : State) :
    supplyRec (updSupply p f s) q = if q = p then f (supplyRec s p) else supplyRec s q :=
  Bank.read_put s.pbu.supplies p q _

@[simp] theorem supplyRec_updSupply_self (p : Psu) (f : SupplyRec → SupplyRec) (s : State) :
    supplyRec (updSupply p f s) p = f (supplyRec s p) := by simp [supplyRec_updSupply]

theorem thermalEntry_updThermal (b c : Bay) (f : ThermalEntry → ThermalEntry) (s : State) :
    thermalEntry (updThermal b f s) c = if c = b then f (thermalEntry s b) else thermalEntry s c :=
  Bank.read_put s.thu.entries b c _

@[simp] theorem thermalEntry_updThermal_self (b : Bay) (f : ThermalEntry → ThermalEntry) (s : State) :
    thermalEntry (updThermal b f s) b = f (thermalEntry s b) := by simp [thermalEntry_updThermal]

theorem zoneRec_updZone (z y : Zone) (f : ZoneRec → ZoneRec) (s : State) :
    zoneRec (updZone z f s) y = if y = z then f (zoneRec s z) else zoneRec s y :=
  Bank.read_put s.thu.zones z y _

@[simp] theorem zoneRec_updZone_self (z : Zone) (f : ZoneRec → ZoneRec) (s : State) :
    zoneRec (updZone z f s) z = f (zoneRec s z) := by simp [zoneRec_updZone]

theorem zoneAir_updAir (z y : Zone) (f : ZoneAir → ZoneAir) (s : State) :
    zoneAir (updAir z f s) y = if y = z then f (zoneAir s z) else zoneAir s y :=
  Bank.read_put s.fdu.air z y _

@[simp] theorem zoneAir_updAir_self (z : Zone) (f : ZoneAir → ZoneAir) (s : State) :
    zoneAir (updAir z f s) z = f (zoneAir s z) := by simp [zoneAir_updAir]

theorem fanRec_updFan (i j : Fan) (f : FanRec → FanRec) (s : State) :
    fanRec (updFan i f s) j = if j = i then followDrive (f (fanRec s i)) else fanRec s j :=
  Bank.read_put s.fdu.fans i j _

@[simp] theorem fanRec_updFan_self (i : Fan) (f : FanRec → FanRec) (s : State) :
    fanRec (updFan i f s) i = followDrive (f (fanRec s i)) := by simp [fanRec_updFan]

@[simp] theorem fanRec_updFans (f : Fan → FanRec → FanRec) (s : State) (i : Fan) :
    fanRec (updFans f s) i = followDrive (f i (fanRec s i)) := by
  simp only [fanRec, updFans, Bank.read_update]

theorem uplinkRec_updUplink (u v : Uplink) (f : UplinkRec → UplinkRec) (s : State) :
    uplinkRec (updUplink u f s) v = if v = u then f (uplinkRec s u) else uplinkRec s v :=
  Bank.read_put s.uplinks u v _

@[simp] theorem uplinkRec_updUplink_self (u : Uplink) (f : UplinkRec → UplinkRec) (s : State) :
    uplinkRec (updUplink u f s) u = f (uplinkRec s u) := by simp [uplinkRec_updUplink]

theorem window_updWindow (b c : Bay) (w : Window) (s : State) :
    window (updWindow b w s) c = if c = b then w else window s c := Bank.read_put s.windows b c w

/-! ### Queues -/

@[simp] theorem putQueue_mode (p : Port) (q : Queue) (s : State) : (putQueue p q s).mode = s.mode := by cases p <;> rfl
@[simp] theorem putQueue_pins (p : Port) (q : Queue) (s : State) : (putQueue p q s).pins = s.pins := by cases p <;> rfl
@[simp] theorem putQueue_bays (p : Port) (q : Queue) (s : State) : (putQueue p q s).bays = s.bays := by cases p <;> rfl
@[simp] theorem putQueue_ise (p : Port) (q : Queue) (s : State) : (putQueue p q s).ise = s.ise := by cases p <;> rfl
@[simp] theorem putQueue_pbu (p : Port) (q : Queue) (s : State) : (putQueue p q s).pbu = s.pbu := by cases p <;> rfl
@[simp] theorem putQueue_thu (p : Port) (q : Queue) (s : State) : (putQueue p q s).thu = s.thu := by cases p <;> rfl
@[simp] theorem putQueue_fdu (p : Port) (q : Queue) (s : State) : (putQueue p q s).fdu = s.fdu := by cases p <;> rfl
@[simp] theorem putQueue_windows (p : Port) (q : Queue) (s : State) : (putQueue p q s).windows = s.windows := by cases p <;> rfl
@[simp] theorem putQueue_stb (p : Port) (q : Queue) (s : State) : (putQueue p q s).stb = s.stb := by cases p <;> rfl
@[simp] theorem putQueue_uplinks (p : Port) (q : Queue) (s : State) : (putQueue p q s).uplinks = s.uplinks := by cases p <;> rfl
@[simp] theorem putQueue_sve (p : Port) (q : Queue) (s : State) : (putQueue p q s).sve = s.sve := by cases p <;> rfl
@[simp] theorem putQueue_pending (p : Port) (q : Queue) (s : State) : (putQueue p q s).pending = s.pending := by cases p <;> rfl
@[simp] theorem putQueue_fbm_free (p : Port) (q : Queue) (s : State) : (putQueue p q s).fbm.free = s.fbm.free := by
  cases p <;> rfl
@[simp] theorem putQueue_fbm_svc (p : Port) (q : Queue) (s : State) : (putQueue p q s).fbm.svc = s.fbm.svc := by
  cases p <;> rfl

theorem queueOf_putQueue (p r : Port) (q : Queue) (s : State) :
    queueOf (putQueue p q s) r = if r = p then q else queueOf s r := by
  cases p <;> cases r <;> simp [putQueue, queueOf, Bank.read_put]

@[simp] theorem queueOf_putQueue_self (p : Port) (q : Queue) (s : State) : queueOf (putQueue p q s) p = q := by
  simp [queueOf_putQueue]

/-- A queue is the same in two states whose queues are. -/
theorem queueOf_congr {s t : State} (hb : t.fbm.bayQ = s.fbm.bayQ) (hu : t.fbm.upQ = s.fbm.upQ) (p : Port) :
    queueOf t p = queueOf s p := by cases p <;> simp [queueOf, hb, hu]

/-! ### Readers depend only on their block -/

theorem bayRec_congr {s t : State} (h : t.bays = s.bays) (b : Bay) : bayRec t b = bayRec s b := by
  simp [bayRec, h]

theorem slotRec_congr {s t : State} (h : t.ise.slots = s.ise.slots) (k : Slot) : slotRec t k = slotRec s k := by
  simp [slotRec, h]

theorem usable_congr {s t : State} (h : t.uplinks = s.uplinks) (u : Uplink) : usable t u = usable s u := by
  simp [usable, uplinkRec, h]

@[simp] theorem followThrottle_state (r : BayRec) : (followThrottle r).state = r.state := rfl
@[simp] theorem followThrottle_idem (r : BayRec) : followThrottle (followThrottle r) = followThrottle r := rfl
@[simp] theorem followDrive_state (r : FanRec) : (followDrive r).state = r.state := rfl

end Sys2Proof.Machine
end

