-- ==== Sys2Proof/Laws/Keeps.lean ====
section
/-! SUPPORT. What each shared operation may touch, as frames over the parts of the state. A later proof
chains these with `KeepsAllBut.trans` and `KeepsAllBut.mono` in place of unfolding an operation. -/

namespace Sys2Proof.Machine

set_option Elab.async false

/-! ### Frames compose -/

theorem KeepsAllBut.refl (l : List Part) (s : State) : KeepsAllBut l s s := by
  intro p _
  cases p <;> simp [Part.same]

theorem Part.same_trans (p : Part) {s t u : State} (h : p.same s t) (k : p.same t u) : p.same s u := by
  cases p <;> simp_all [Part.same]

theorem KeepsAllBut.trans {l : List Part} {s t u : State} (h : KeepsAllBut l s t) (k : KeepsAllBut l t u) :
    KeepsAllBut l s u := fun p hp => Part.same_trans p (h p hp) (k p hp)

theorem KeepsAllBut.mono {l m : List Part} {s t : State} (h : KeepsAllBut l s t) (hl : l ⊆ m) :
    KeepsAllBut m s t := fun p hp => h p fun hp' => hp (hl hp')

/-- Two frames chained into one that allows what both allow. -/
theorem KeepsAllBut.chain {l m n : List Part} {s t u : State} (h : KeepsAllBut l s t) (k : KeepsAllBut m t u)
    (hl : l ⊆ n) (hm : m ⊆ n) : KeepsAllBut n s u := (h.mono hl).trans (k.mono hm)

/-- A fold of operations that each keep a frame keeps it. -/
theorem KeepsAllBut.foldl {α : Type} {l : List Part} {f : State → α → State}
    (h : ∀ s a, KeepsAllBut l s (f s a)) (as : List α) (s : State) : KeepsAllBut l s (as.foldl f s) := by
  induction as generalizing s with
  | nil => exact KeepsAllBut.refl l s
  | cons a rest ih => exact (h s a).trans (ih _)

/-! ### Writing a record -/

theorem updBay_keeps (b : Bay) (f : BayRec → BayRec) (s : State) : KeepsAllBut [.bays] s (updBay b f s) := by
  intro p hp
  cases p <;> first | (simp at hp; done) | simp [Part.same, updBay]

theorem updBays_keeps (f : Bay → BayRec → BayRec) (s : State) : KeepsAllBut [.bays] s (updBays f s) := by
  intro p hp
  cases p <;> first | (simp at hp; done) | simp [Part.same, updBays]

theorem updSlot_keeps (k : Slot) (f : SlotRec → SlotRec) (s : State) : KeepsAllBut [.slots] s (updSlot k f s) := by
  intro p hp
  cases p <;> first | (simp at hp; done) | simp [Part.same, updSlot]

theorem updEmg_keeps (f : Emergency → Emergency) (s : State) : KeepsAllBut [.emergency] s (updEmg f s) := by
  intro p hp
  cases p <;> first | (simp at hp; done) | simp [Part.same, updEmg]

theorem updSupply_keeps (i : Psu) (f : SupplyRec → SupplyRec) (s : State) : KeepsAllBut [.supplies] s (updSupply i f s) := by
  intro p hp
  cases p <;> first | (simp at hp; done) | simp [Part.same, updSupply]

theorem updThermal_keeps (b : Bay) (f : ThermalEntry → ThermalEntry) (s : State) : KeepsAllBut [.thermal] s (updThermal b f s) := by
  intro p hp
  cases p <;> first | (simp at hp; done) | simp [Part.same, updThermal]

theorem updZone_keeps (z : Zone) (f : ZoneRec → ZoneRec) (s : State) : KeepsAllBut [.zones] s (updZone z f s) := by
  intro p hp
  cases p <;> first | (simp at hp; done) | simp [Part.same, updZone]

theorem updAir_keeps (z : Zone) (f : ZoneAir → ZoneAir) (s : State) : KeepsAllBut [.air] s (updAir z f s) := by
  intro p hp
  cases p <;> first | (simp at hp; done) | simp [Part.same, updAir]

theorem updFan_keeps (i : Fan) (f : FanRec → FanRec) (s : State) : KeepsAllBut [.fans] s (updFan i f s) := by
  intro p hp
  cases p <;> first | (simp at hp; done) | simp [Part.same, updFan]

theorem updFans_keeps (f : Fan → FanRec → FanRec) (s : State) : KeepsAllBut [.fans] s (updFans f s) := by
  intro p hp
  cases p <;> first | (simp at hp; done) | simp [Part.same, updFans]

theorem updUplink_keeps (u : Uplink) (f : UplinkRec → UplinkRec) (s : State) : KeepsAllBut [.uplinks] s (updUplink u f s) := by
  intro p hp
  cases p <;> first | (simp at hp; done) | simp [Part.same, updUplink]

theorem updWindow_keeps (b : Bay) (w : Window) (s : State) : KeepsAllBut [.windows] s (updWindow b w s) := by
  intro p hp
  cases p <;> first | (simp at hp; done) | simp [Part.same, updWindow]

theorem updPins_keeps (f : Pins → Pins) (s : State) : KeepsAllBut [.pins] s (updPins f s) := by
  intro p hp
  cases p <;> first | (simp at hp; done) | simp [Part.same, updPins]

theorem updPlaces_keeps (f : List Place → List Place) (s : State) : KeepsAllBut [.stations] s (updPlaces f s) := by
  intro p hp
  cases p <;> first | (simp at hp; done) | simp [Part.same, updPlaces, updStb]

/-- The part that holds a port's egress queue. -/
theorem putQueue_keeps (r : Port) (q : Queue) (s : State) : KeepsAllBut [queuePart r] s (putQueue r q s) := by
  intro p hp
  cases r <;> cases p <;> first | (simp [queuePart] at hp; done) | simp [Part.same, putQueue]

/-- A frame followed by an operation that touches no more than it allows. -/
theorem KeepsAllBut.and {l m : List Part} {s t u : State} (h : KeepsAllBut l s t) (k : KeepsAllBut m t u)
    (hm : m ⊆ l := by decide) : KeepsAllBut l s u := h.trans (k.mono hm)

/-- An operation that touches no more than a frame allows. -/
theorem KeepsAllBut.within {l m : List Part} {s t : State} (h : KeepsAllBut m s t) (hm : m ⊆ l := by decide) :
    KeepsAllBut l s t := h.mono hm

/-! ### The power budget's records -/

theorem updPbu_figures_keeps (g : Pbu → Figures) (s : State) :
    KeepsAllBut [.figures] s (updPbu (fun p => { p with figures := g p }) s) := by
  intro p hp
  cases p <;> first | (simp at hp; done) | simp [Part.same]

theorem updPbu_seq_keeps (g : Pbu → Sequencer) (s : State) :
    KeepsAllBut [.sequencer] s (updPbu (fun p => { p with seq := g p }) s) := by
  intro p hp
  cases p <;> first | (simp at hp; done) | simp [Part.same]

theorem updPbu_gap_keeps (g : Pbu → Sequencer) (t : Pbu → Timer) (s : State) :
    KeepsAllBut [.sequencer] s (updPbu (fun p => { p with seq := g p, gapTimer := t p }) s) := by
  intro p hp
  cases p <;> first | (simp at hp; done) | simp [Part.same]

theorem updPbu_gates_keeps (g h : Pbu → Gate) (s : State) :
    KeepsAllBut [.gates] s (updPbu (fun p => { p with ae2 := g p, ae := h p }) s) := by
  intro p hp
  cases p <;> first | (simp at hp; done) | simp [Part.same]

theorem updPbu_ae_keeps (g : Pbu → Gate) (s : State) :
    KeepsAllBut [.gates] s (updPbu (fun p => { p with ae := g p }) s) := by
  intro p hp
  cases p <;> first | (simp at hp; done) | simp [Part.same]

theorem updPbu_ae2_keeps (g : Pbu → Gate) (s : State) :
    KeepsAllBut [.gates] s (updPbu (fun p => { p with ae2 := g p }) s) := by
  intro p hp
  cases p <;> first | (simp at hp; done) | simp [Part.same]

theorem updPbu_hold_keeps (g : Pbu → Bool) (t : Pbu → Timer) (s : State) :
    KeepsAllBut [.hold] s (updPbu (fun p => { p with hold := g p, holdTimer := t p }) s) := by
  intro p hp
  cases p <;> first | (simp at hp; done) | simp [Part.same]

theorem updPbu_policy_keeps (g : Pbu → PowerPolicy) (s : State) :
    KeepsAllBut [.powerPolicy] s (updPbu (fun p => { p with policy := g p }) s) := by
  intro p hp
  cases p <;> first | (simp at hp; done) | simp [Part.same]

theorem joinWaitList_keeps (b : Bay) (s : State) : KeepsAllBut [.waitList] s (joinWaitList b s) := by
  intro p hp
  cases p <;> first | (simp at hp; done) | simp [Part.same, joinWaitList]

theorem leaveWaitList_keeps (b : Bay) (s : State) : KeepsAllBut [.waitList] s (leaveWaitList b s) := by
  intro p hp
  cases p <;> first | (simp at hp; done) | simp [Part.same, leaveWaitList]

theorem moveInWaitList_keeps (b : Bay) (s : State) : KeepsAllBut [.waitList] s (moveInWaitList b s) := by
  intro p hp
  unfold moveInWaitList
  split <;> cases p <;> first | (simp at hp; done) | simp [Part.same]

/-! ### The frame buffer -/

theorem updFbm_free_keeps (g : Fbm → Nat) (s : State) :
    KeepsAllBut [.pool] s (updFbm (fun m => { m with free := g m }) s) := by
  intro p hp
  cases p <;> first | (simp at hp; done) | simp [Part.same]

theorem countDropped_keeps (n : Nat) (r : Port) (s : State) : KeepsAllBut [queuePart r] s (countDropped n r s) :=
  putQueue_keeps r _ s

theorem enqueueCopy_keeps (r : Port) (c : Copy) (s : State) : KeepsAllBut [queuePart r, .pool] s (enqueueCopy r c s) := by
  unfold enqueueCopy
  exact ((putQueue_keeps r _ s).within (l := [queuePart r, .pool]) (by cases r <;> simp [queuePart])).and (updFbm_free_keeps _ _) (by cases r <;> simp [queuePart])

theorem offerQuiet_keeps (r : Port) (c : Copy) (s : State) : KeepsAllBut [queuePart r, .pool] s (offerQuiet r c s) := by
  unfold offerQuiet
  split
  · exact enqueueCopy_keeps r c s
  all_goals exact (countDropped_keeps 1 r s).within (by cases r <;> simp [queuePart])

theorem flush_keeps (r : Port) (s : State) : KeepsAllBut [queuePart r, .pool] s (flush r s) := by
  unfold flush
  exact ((putQueue_keeps r _ s).within (l := [queuePart r, .pool]) (by cases r <;> simp [queuePart])).and (updFbm_free_keeps _ _) (by cases r <;> simp [queuePart])

theorem completeTransmission_keeps (r : Port) (s : State) :
    KeepsAllBut [queuePart r, .pool] s (completeTransmission r s) := by
  unfold completeTransmission
  simp only
  split
  · exact KeepsAllBut.refl _ s
  · exact ((putQueue_keeps r _ s).within (l := [queuePart r, .pool]) (by cases r <;> simp [queuePart])).and (updFbm_free_keeps _ _) (by cases r <;> simp [queuePart])

theorem svcAdmit_keeps (r : Port) (f : RxFrame) (s : State) : KeepsAllBut [.svcQueue, .pool] s (svcAdmit r f s) := by
  intro p hp
  cases p <;> first | (simp at hp; done) | simp [Part.same, svcAdmit]

theorem svcCountDropped_keeps (s : State) : KeepsAllBut [.svcQueue] s (svcCountDropped s) := by
  intro p hp
  cases p <;> first | (simp at hp; done) | simp [Part.same, svcCountDropped]

theorem svcPop_keeps (s : State) : KeepsAllBut [.svcQueue, .pool] s (svcPop s) := by
  intro p hp
  unfold svcPop
  split <;> cases p <;> first | (simp at hp; done) | simp [Part.same]

/-- Barring the waiting frames of an uplink (R153) touches the service input queue alone. -/
theorem barWaiting_keeps (u : Uplink) (s : State) : KeepsAllBut [.svcQueue] s (barWaiting u s) := by
  intro p hp
  cases p <;> first | (simp at hp; done) | simp [Part.same, barWaiting]

theorem countRefused_keeps (r : Port) (s : State) : KeepsAllBut [.bays, .uplinks] s (countRefused r s) := by
  unfold countRefused
  cases r with
  | bay b => exact (updBay_keeps b _ s).within (l := [.bays, .uplinks])
  | uplink u => exact (updUplink_keeps u _ s).within (l := [.bays, .uplinks])

/-! ### Events -/

theorem setFlag_keeps (c : Cause) (s : State) : KeepsAllBut [.flags] s (setFlag c s) := by
  intro p hp
  cases p <;> first | (simp at hp; done) | simp [Part.same, setFlag]

theorem sendAlert_keeps (c : Cause) (s : State) : KeepsAllBut [.uplinkQueues, .pool] s (sendAlert c s) := by
  unfold sendAlert
  split
  · exact KeepsAllBut.refl _ s
  · split
    · exact offerQuiet_keeps (.uplink _) _ s
    · exact KeepsAllBut.refl _ s

/-- Raising a class touches the flags, and by its alerts the uplink queues and the pool. -/
theorem raise_keeps (c : Cause) (s : State) : KeepsAllBut reportParts s (raise c s) := by
  unfold raise
  have h1 := (setFlag_keeps c s).within (l := reportParts)
  simp only
  split
  · have h2 := h1.and (sendAlert_keeps c _)
    split
    · exact h2
    · split
      · exact (h2.and (setFlag_keeps _ _)).and (sendAlert_keeps _ _)
      · exact h2.and (setFlag_keeps _ _)
  · exact h1

theorem offer_keeps (r : Port) (c : Copy) (s : State) : KeepsAllBut (queuePart r :: reportParts) s (offer r c s) := by
  have h := (offerQuiet_keeps r c s).within (l := queuePart r :: reportParts) (by cases r <;> simp [queuePart, reportParts])
  unfold offer
  split
  · exact h.and (raise_keeps _ _) (by cases r <;> simp [queuePart])
  · exact h

theorem offerService_keeps (r : Port) (f : RxFrame) (s : State) :
    KeepsAllBut (.svcQueue :: reportParts) s (offerService r f s) := by
  unfold offerService
  split
  · exact (svcAdmit_keeps r f s).within
  · exact ((svcCountDropped_keeps s).within (l := .svcQueue :: reportParts)).and (raise_keeps _ _)

theorem enterState_keeps (b : Bay) (st : BayState) (s : State) :
    KeepsAllBut (.bays :: reportParts) s (enterState b st s) :=
  ((updBay_keeps b _ s).within (l := .bays :: reportParts)).and (raise_keeps _ _)

/-! ### The power budget -/

theorem evaluateHead_keeps (s : State) : KeepsAllBut [.sequencer] s (evaluateHead s) := by
  unfold evaluateHead
  split
  · exact KeepsAllBut.refl _ s
  · split
    · exact updPbu_seq_keeps _ s
    · exact KeepsAllBut.refl _ s

theorem beginEmergency_keeps (source : EmgSource) (s : State) :
    KeepsAllBut budgetParts s (beginEmergency source s) :=
  ((((updPbu_gates_keeps _ _ s).within (l := budgetParts)).and (updBays_keeps _ _)).and (updEmg_keeps _ _)).and
    (raise_keeps _ _)

theorem endRun_keeps (s : State) : KeepsAllBut budgetParts s (endRun s) := by
  unfold endRun
  have h := (updEmg_keeps (fun e => { e with runShed := false }) s).within (l := budgetParts)
  simp only
  split
  · exact h.and (raise_keeps _ _)
  · exact h

theorem endEmergency_keeps (source : EmgSource) (s : State) : KeepsAllBut budgetParts s (endEmergency source s) :=
  ((((updEmg_keeps _ s).within (l := budgetParts)).and (updBays_keeps _ _)).and (updPbu_ae_keeps _ _)).and
    (endRun_keeps _) |>.and (raise_keeps _ _)

theorem enterExhausted_keeps (s : State) : KeepsAllBut budgetParts s (enterExhausted s) :=
  (((updEmg_keeps _ s).within (l := budgetParts)).and (endRun_keeps _)).and (raise_keeps _ _)

theorem handShed_keeps (s : State) : KeepsAllBut budgetParts s (handShed s) := by
  unfold handShed
  split
  · exact (updEmg_keeps _ s).within
  · exact enterExhausted_keeps s

theorem beginRun_keeps (s : State) : KeepsAllBut budgetParts s (beginRun s) :=
  ((updEmg_keeps _ s).within (l := budgetParts)).and (handShed_keeps _)

theorem recordFigures_keeps (s : State) : KeepsAllBut [.figures] s (recordFigures s) := updPbu_figures_keeps _ s

theorem compareBudget_keeps (source : EmgSource) (s : State) : KeepsAllBut budgetParts s (compareBudget source s) := by
  unfold compareBudget
  split
  · split
    · exact KeepsAllBut.refl _ s
    · exact beginEmergency_keeps source s
  · exact endEmergency_keeps source s
  · exact endEmergency_keeps source s
  · split
    · exact beginRun_keeps s
    · exact KeepsAllBut.refl _ s
  all_goals exact KeepsAllBut.refl _ s

/-- A budget evaluation touches the figures, the emergency with its gate and causes, the sequencer, and the
reports. -/
theorem evaluate_keeps (source : EmgSource) (s : State) : KeepsAllBut budgetParts s (evaluate source s) :=
  (((recordFigures_keeps s).within (l := budgetParts)).and (compareBudget_keeps source _)).and (evaluateHead_keeps _)

theorem rampEndPowered_keeps (b : Bay) (s : State) : KeepsAllBut [.sequencer] s (rampEndPowered b s) := by
  unfold rampEndPowered
  split
  · split
    · exact (updPbu_seq_keeps _ s).and (evaluateHead_keeps _)
    · exact updPbu_gap_keeps _ _ s
  · exact KeepsAllBut.refl _ s

theorem rampEndUnpowered_keeps (b : Bay) (s : State) : KeepsAllBut [.sequencer] s (rampEndUnpowered b s) := by
  unfold rampEndUnpowered
  split
  · exact (updPbu_seq_keeps _ s).and (evaluateHead_keeps _)
  · exact KeepsAllBut.refl _ s

theorem endHold_keeps (s : State) : KeepsAllBut (.hold :: budgetParts) s (endHold s) :=
  ((updPbu_hold_keeps _ _ s).within (l := .hold :: budgetParts)).and (evaluate_keeps _ _)

theorem testHold_keeps (s : State) : KeepsAllBut (.hold :: budgetParts) s (testHold s) := by
  unfold testHold
  split
  · exact endHold_keeps s
  · exact KeepsAllBut.refl _ s

theorem supplyChanged_keeps (i : Psu) (s : State) :
    KeepsAllBut (.supplies :: .hold :: budgetParts) s (supplyChanged i s) := by
  unfold supplyChanged
  have h := (updSupply_keeps i (fun _ => supplyNow s i) s).within (l := .supplies :: .hold :: budgetParts)
  simp only [recomputeSupply]
  split <;> split <;> first
    | exact h
    | exact h.and (testHold_keeps _)
    | exact h.and (evaluate_keeps _ _)
    | exact (h.and (evaluate_keeps _ _)).and (testHold_keeps _)

/-! ### Identity scanning -/

theorem engineTakes_keeps (s : State) : KeepsAllBut [.slots, .scanQueue, .scan] s (engineTakes s) := by
  intro p hp
  unfold engineTakes
  split <;> cases p <;> first | (simp at hp; done) | simp [Part.same]

theorem queueSlot_keeps (k : Slot) (s : State) : KeepsAllBut [.slots, .scanQueue] s (queueSlot k s) := by
  intro p hp
  unfold queueSlot
  split <;> cases p <;> first | (simp at hp; done) | simp [Part.same]

theorem completeAtBay_keeps (b : Bay) (s : State) : KeepsAllBut (.bays :: reportParts) s (completeAtBay b s) := by
  unfold completeAtBay
  split <;> first
    | exact enterState_keeps b _ s
    | exact (updBay_keeps b _ s).within
    | exact KeepsAllBut.refl _ s

/-- The parts that a report of a slot's identity may touch: the supplies and the hold beside what an
evaluation touches. -/
theorem reportComplete_keeps (k : Slot) (s : State) :
    KeepsAllBut (.supplies :: .hold :: budgetParts) s (reportComplete k s) := by
  unfold reportComplete
  split
  · exact ((completeAtBay_keeps _ s).within (l := .supplies :: .hold :: budgetParts)).and (evaluate_keeps _ _)
  · exact supplyChanged_keeps _ s
  · exact (evaluate_keeps _ s).within

theorem reportStatus_keeps (k : Slot) (s : State) :
    KeepsAllBut (.supplies :: .hold :: budgetParts) s (reportStatus k s) := by
  unfold reportStatus
  split
  · exact (evaluate_keeps _ s).within
  · exact supplyChanged_keeps _ s
  · exact (evaluate_keeps _ s).within

theorem freshRequest_keeps (k : Slot) (s : State) : KeepsAllBut [.slots, .scanQueue] s (freshRequest k s) :=
  ((updSlot_keeps k _ s).within (l := [.slots, .scanQueue])).and (queueSlot_keeps k _)

theorem requestScan_keeps (k : Slot) (s : State) : KeepsAllBut scanParts s (requestScan k s) := by
  have h := ((freshRequest_keeps k s).within (l := scanParts)).and (engineTakes_keeps _)
  unfold requestScan
  simp only
  split
  · exact h.and (reportStatus_keeps k _)
  · exact h

theorem scanComplete_keeps (k : Slot) (i : Identity) (s : State) : KeepsAllBut scanParts s (scanComplete k i s) :=
  ((((updSlot_keeps k _ s).within (l := scanParts)).and (reportComplete_keeps k _)).and (raise_keeps _ _)).and
    (engineTakes_keeps _)

theorem afterFailure_keeps (k : Slot) (s : State) : KeepsAllBut scanParts s (afterFailure k s) := by
  unfold afterFailure
  split
  · exact (updSlot_keeps k _ s).within
  · split <;>
      exact (((updSlot_keeps k _ s).within (l := scanParts)).and (reportStatus_keeps k _)).and (raise_keeps _ _)

theorem scanFailed_keeps (k : Slot) (f : ScanFailure) (s : State) : KeepsAllBut scanParts s (scanFailed k f s) :=
  (((updSlot_keeps k _ s).within (l := scanParts)).and (afterFailure_keeps k _)).and (engineTakes_keeps _)

theorem endTransaction_keeps (s : State) : KeepsAllBut [.scan] s (endTransaction s) := by
  intro p hp
  cases p <;> first | (simp at hp; done) | simp [Part.same, endTransaction]

theorem judgeScan_keeps (k : Slot) (image : Image) (s : State) : KeepsAllBut scanParts s (judgeScan k image s) := by
  have h := (endTransaction_keeps s).within (l := scanParts)
  unfold judgeScan
  split
  · exact h.and (scanComplete_keeps k _ _) (List.Subset.refl _)
  · exact h.and (scanFailed_keeps k _ _) (List.Subset.refl _)

theorem stopScanning_keeps (k : Slot) (s : State) : KeepsAllBut [.scanQueue, .scan] s (stopScanning k s) := by
  intro p hp
  cases p <;> first | (simp at hp; done) | simp [Part.same, stopScanning]

theorem clearSlot_keeps (k : Slot) (s : State) : KeepsAllBut [.slots, .scanQueue, .scan] s (clearSlot k s) :=
  (((stopScanning_keeps k s).within (l := [.slots, .scanQueue, .scan])).and (updSlot_keeps k _ _)).and
    (engineTakes_keeps _)

theorem abortScan_keeps (k : Slot) (s : State) : KeepsAllBut [.slots, .scanQueue, .scan] s (abortScan k s) :=
  (((stopScanning_keeps k s).within (l := [.slots, .scanQueue, .scan])).and (updSlot_keeps k _ _)).and
    (engineTakes_keeps _)

theorem acceptAnnounce_keeps (k : Slot) (i : Identity) (s : State) : KeepsAllBut scanParts s (acceptAnnounce k i s) :=
  (((updSlot_keeps k _ s).within (l := scanParts)).and (reportComplete_keeps k _)).and (raise_keeps _ _)

/-! ### Stations -/

theorem purge_keeps (b : Bay) (s : State) : KeepsAllBut [.stations] s (purge b s) := updPlaces_keeps _ s

theorem learn_keeps (b : Bay) (a : Addr) (t c : Nat) (s : State) :
    KeepsAllBut (.stations :: .learnMiss :: reportParts) s (learn b a t c s) := by
  have h (f : List Place → List Place) := (updPlaces_keeps f s).within (l := .stations :: .learnMiss :: reportParts)
  have miss : KeepsAllBut (.stations :: .learnMiss :: reportParts) s
      (updStb (fun x => { x with learnMiss := satAdd x.learnMiss 1 Config.top32 }) s) := by
    intro p hp
    cases p <;> first | (simp at hp; done) | simp [Part.same]
  unfold learn
  split
  · exact KeepsAllBut.refl _ s
  · split
    · split
      · exact h _
      · exact KeepsAllBut.refl _ s
    · split
      · exact h _
      · exact miss.and (raise_keeps _ _)

theorem settleStatic_keeps (b : Bay) (x : Place) (s : State) :
    KeepsAllBut (.stations :: reportParts) s (settleStatic b x s) := by
  have h (f : List Place → List Place) (s : State) := (updPlaces_keeps f s).within (l := .stations :: reportParts)
  unfold settleStatic
  split
  · exact (h _ s).and (raise_keeps _ _)
  · split
    · exact (h _ s).and (raise_keeps _ _)
    · exact (h _ s).trans (h _ _)

theorem recomputeStatics_keeps (b : Bay) (s : State) :
    KeepsAllBut (.stations :: reportParts) s (recomputeStatics b s) :=
  KeepsAllBut.foldl (fun t p => settleStatic_keeps b p t) _ s

/-! ### Cooling -/

theorem changeAirflow_keeps (z : Zone) (a : Airflow) (s : State) :
    KeepsAllBut (.air :: .bays :: reportParts) s (changeAirflow z a s) := by
  unfold changeAirflow
  split
  · exact KeepsAllBut.refl _ s
  · exact (((updAir_keeps z _ s).within (l := .air :: .bays :: reportParts)).and (raise_keeps _ _)).and
      (updBays_keeps _ _)

theorem driveZone_keeps (z : Zone) (s : State) :
    KeepsAllBut (.air :: .fans :: .bays :: reportParts) s (driveZone z s) :=
  ((((updAir_keeps z _ s).within (l := .air :: .fans :: .bays :: reportParts)).and (changeAirflow_keeps z _ _)).and
    (updAir_keeps z _ _)).and (updFans_keeps _ _)

theorem computeZones_keeps (s : State) : KeepsAllBut [.zones] s (computeZones s) := by
  intro p hp
  cases p <;> first | (simp at hp; done) | simp [Part.same, computeZones]

theorem tachWindow_keeps (f : Fan) (s : State) : KeepsAllBut (.fans :: reportParts) s (tachWindow f s) := by
  have h (g : FanRec → FanRec) := (updFan_keeps f g s).within (l := .fans :: reportParts)
  unfold tachWindow raiseFanFault
  simp only
  split
  · exact (h _).and (raise_keeps _ _)
  · exact (h _).and (raise_keeps _ _)
  · exact h _

/-! ### Bays -/

theorem leaveOn_keeps (b : Bay) (s : State) : KeepsAllBut [.bayQueues, .pool, .stations] s (leaveOn b s) :=
  ((flush_keeps (.bay b) s).within (l := [.bayQueues, .pool, .stations]) (by simp [queuePart])).and (purge_keeps b _)

theorem dropTo_keeps (b : Bay) (st : BayState) (s : State) : KeepsAllBut budgetParts s (dropTo b st s) :=
  (((updBay_keeps b _ s).within (l := budgetParts)).and (enterState_keeps b st _)).and (evaluate_keeps _ _)

theorem enterDetected_keeps (b : Bay) (s : State) : KeepsAllBut scanParts s (enterDetected b s) := by
  have h := (((enterState_keeps b .detected s).within (l := scanParts)).and (evaluate_keeps (.bay b) _)).and
    (requestScan_keeps (slotOfBay b) _)
  unfold enterDetected
  simp only
  split
  · exact h.and (enterState_keeps b _ _)
  · exact h

theorem takeAdmission_keeps (b : Bay) (s : State) :
    KeepsAllBut (.waitList :: budgetParts) s (takeAdmission b s) :=
  (((((leaveWaitList_keeps b s).within (l := .waitList :: budgetParts)).and (updBay_keeps b _ _)).and
    (enterState_keeps b _ _)).and (updPbu_seq_keeps _ _)).and (evaluate_keeps _ _)

theorem completeRamp_keeps (b : Bay) (s : State) :
    KeepsAllBut (.bays :: .sequencer :: .thermal :: reportParts) s (completeRamp b s) :=
  ((((updBay_keeps b _ s).within (l := .bays :: .sequencer :: .thermal :: reportParts)).and
    (enterState_keeps b _ _)).and (updThermal_keeps b _ _)).and (rampEndPowered_keeps b _)

end Sys2Proof.Machine
end

