-- ==== Sys2Proof/Laws/Budget.lean ====
section
/-! SUPPORT. What the head evaluation and a budget evaluation come to, said once in the terms of the statements
(R54, R61, R72 to R83). A later proof cites these in place of unfolding the evaluation. -/

namespace Sys2Proof.Machine

set_option Elab.async false

/-! ### The head evaluation -/

/-- With an idle sequencer the head is admitted exactly where it fits (R61). -/
theorem evaluateHead_evaluates (s : State) (h : s.pbu.seq = .idle) : HeadEvaluated (evaluateHead s) := by
  unfold evaluateHead
  split
  · next e => exact .inl ⟨h, by simp [e]⟩
  · next w _ e =>
    have fits : admissible s w.bay = true ↔ Fits s w.bay := by simp [admissible, Fits, h, and_assoc]
    split
    · next a => exact .inr ⟨w, by simp [e], fits.mp a, rfl⟩
    · next a => exact .inl ⟨h, fun x hx => by simp [e] at hx; subst hx; exact fun f => a (fits.mpr f)⟩

/-- A sequencer that is not idle stays as it is (R61). -/
theorem evaluateHead_busy (s : State) (h : s.pbu.seq ≠ .idle) : evaluateHead s = s := by
  unfold evaluateHead
  split
  · rfl
  · simp [admissible, h]

@[simp] theorem evaluateHead_gapTimer (s : State) : (evaluateHead s).pbu.gapTimer = s.pbu.gapTimer := by
  unfold evaluateHead
  split
  · rfl
  · split <;> rfl

/-! ### Raising an event -/

/-- The event's own flag holds its cause, whatever its alert comes to, unless a lost alert raises the same class
(R169, R173). -/
theorem raise_raised (c : Cause) (s : State) (h : causeClass c ≠ 7) : Raised c (raise c s) := by
  have own (s : State) : flagRec (setFlag c s) (causeClass c) = { raised := true, cause := some c } := by
    simp [flagRec, setFlag, updSve]
  have other (d : Cause) (s : State) (hd : causeClass c ≠ causeClass d) :
      flagRec (setFlag d s) (causeClass c) = flagRec s (causeClass c) := by
    simp [flagRec, setFlag, updSve, Bank.read_put_ne _ _ hd]
  have alert (d : Cause) (s : State) : flagRec (sendAlert d s) (causeClass c) = flagRec s (causeClass c) := by
    have := sendAlert_keeps d s .flags (by decide)
    simp [Part.same] at this
    simp [flagRec, this]
  unfold Raised raise
  simp only
  split
  · split
    · rw [alert, own]
    · split
      · rw [alert, other _ _ (by simpa [causeClass] using h), alert, own]
      · rw [other _ _ (by simpa [causeClass] using h), alert, own]
  · exact own s

/-! ### The figures -/

/-- The figures depend on the bays' states and grants, the slots, the supplies, the policy and the fans. -/
theorem figuresOf_congr {s t : State} (hb : ∀ b, sameBayRecord (bayRec s b) (bayRec t b))
    (h : ∀ p ∈ [Part.slots, .supplies, .powerPolicy, .fans], p.same s t) : figuresOf t = figuresOf s := by
  have state (b) : (bayRec t b).state = (bayRec s b).state := by rw [hb b]
  have grant (b) : (bayRec t b).grant = (bayRec s b).grant := by rw [hb b]
  simp only [List.mem_cons, List.not_mem_nil, or_false, forall_eq_or_imp, forall_eq, Part.same] at h
  obtain ⟨slots, supplies, policy, fans⟩ := h
  have slot (k) : slotRec t k = slotRec s k := by simp [slotRec, slots]
  have supply (p) : supplyRec t p = supplyRec s p := by simp [supplyRec, supplies]
  have fan (f) : fanRec t f = fanRec s f := by simp [fanRec, fans]
  have standby (b) : standbyOf t b = standbyOf s b := by simp [standbyOf, bayState, state, isComplete, slot]
  have main (b) : grantOf t b = grantOf s b := by unfold grantOf bayState; rw [state, grant]
  have fanPower (f) : fanPowerOf t f = fanPowerOf s f := by simp [fanPowerOf, fan, isComplete, slot]
  have caps : okCapacities t = okCapacities s := by simp [okCapacities, supply]
  simp [figuresOf, caps, policy, funext standby, funext main, funext fanPower]

/-- The recorded figures are current where they were those of a state that differs in no input of a figure. -/
theorem figures_current {s t : State} (hb : ∀ b, sameBayRecord (bayRec s b) (bayRec t b))
    (h : ∀ p ∈ [Part.slots, .supplies, .powerPolicy, .fans], p.same s t) (hf : t.pbu.figures = figuresOf s) :
    FiguresCurrent t := by rw [FiguresCurrent, hf, figuresOf_congr hb h]

/-! ### The comparison -/

/-- Raising an event leaves the PBU and the bays. -/
@[simp] theorem raise_pbu (c : Cause) (s : State) : (raise c s).pbu = s.pbu := by
  have alert (d : Cause) (s : State) : (sendAlert d s).pbu = s.pbu := by
    unfold sendAlert offerQuiet
    repeat' split
    all_goals simp [countDropped, enqueueCopy]
  unfold raise
  simp only
  repeat' split
  all_goals simp [alert, setFlag]

@[simp] theorem raise_bayRec (c : Cause) (s : State) (b : Bay) : bayRec (raise c s) b = bayRec s b :=
  bayRec_congr (raise_keeps c s .bays (by decide)) b

/-- An emergency begins (R72). -/
theorem beginEmergency_began (source : EmgSource) (s : State) :
    BeganEmergency source s (beginEmergency source s) := by
  unfold beginEmergency
  refine ⟨?_, ?_, ?_, ?_, ?_, ?_, raise_raised _ _ (by simp [causeClass])⟩ <;> simp [followThrottle]

@[simp] theorem endRun_pbu (s : State) :
    (endRun s).pbu = { s.pbu with emg := { s.pbu.emg with runShed := false } } := by
  unfold endRun
  simp only
  split <;> simp

@[simp] theorem endRun_bayRec (s : State) (b : Bay) : bayRec (endRun s) b = bayRec s b := by
  unfold endRun
  simp only
  split <;> simp

/-- An emergency ends (R83). -/
theorem endEmergency_ended (source : EmgSource) (s : State) :
    EndedEmergency source s (endEmergency source s)
      ∧ (endEmergency source s).pbu.emg.shedCount = s.pbu.emg.shedCount := by
  unfold endEmergency
  refine ⟨⟨?_, ?_, ?_, ?_, ?_, ?_, raise_raised _ _ (by simp [causeClass])⟩, ?_⟩ <;> simp [followThrottle]

/-- A run begins in EXHAUSTED with a request for the bay chosen (R77, R82). -/
theorem beginRun_sheds {s : State} {b : Bay} (h : chooseShed s = some b) :
    beginRun s = updEmg (fun e => { e with phase := .shedding, shedBay := some b, runShed := false }) s := by
  have : chooseShed (updEmg (fun e => { e with runShed := false }) s) = some b := h
  simp only [beginRun, handShed, this]
  rfl

/-- A comparison changes no bay but for an emergency's cause and BAY_THR, and leaves the figures. -/
theorem compareBudget_inputs (source : EmgSource) (s : State) :
    (∀ b, sameBayRecord (bayRec s b) (bayRec (compareBudget source s) b))
      ∧ (compareBudget source s).pbu.figures = s.pbu.figures := by
  unfold compareBudget
  split
  · split
    · simp [sameBayRecord]
    · simp [beginEmergency, sameBayRecord, followThrottle]
  · simp [endEmergency, sameBayRecord, followThrottle]
  · simp [endEmergency, sameBayRecord, followThrottle]
  · split
    · next h =>
      obtain ⟨b, hb⟩ := Option.isSome_iff_exists.mp h
      simp [beginRun_sheds hb, sameBayRecord]
    · simp [sameBayRecord]
  all_goals simp [sameBayRecord]

/-- The bay to shed depends on the bays' states and priorities. -/
theorem chooseShed_congr {s t : State} (hb : ∀ b, sameBayRecord (bayRec s b) (bayRec t b)) :
    chooseShed t = chooseShed s := by
  have state (b) : bayState t b = bayState s b := by unfold bayState; rw [hb b]
  have prio (b) : priorityOf t b = priorityOf s b := by unfold priorityOf; rw [hb b]
  have later (best b) : laterShed t best b = laterShed s best b := by simp only [laterShed, state, prio]
  simp only [chooseShed, state, funext fun best => funext (later best)]

/-- What the comparison of an evaluation comes to, its figures just recorded (R54). -/
theorem compareBudget_compared (source : EmgSource) (s : State) (hf : FiguresCurrent s) :
    Compared source s (compareBudget source s) := by
  have inputs := compareBudget_inputs source s
  have exceeds : overBudget (compareBudget source s) = overBudget s := by simp [overBudget, inputs.2]
  have current : FiguresCurrent (compareBudget source s) := by
    refine figures_current inputs.1 (fun p hp => compareBudget_keeps source s p ?_) (inputs.2.trans hf)
    revert p; decide
  refine ⟨current, ?_⟩
  rw [exceeds, chooseShed_congr inputs.1]
  unfold compareBudget
  cases hp : s.pbu.emg.phase <;> cases ho : overBudget s <;> cases hh : s.pbu.hold <;>
    simp [EmergencyKept, Part.same, beginEmergency_began, endEmergency_ended]
  all_goals
    refine ⟨fun h => by simp [h], fun b h => ?_⟩
    simp [h, beginRun_sheds h, flagRec]

/-! ### The evaluation -/

/-- A head evaluation changes the sequencer's state at most. -/
theorem evaluateHead_seq (s : State) : ∃ q, evaluateHead s = updPbu (fun p => { p with seq := q }) s := by
  unfold evaluateHead
  split
  · exact ⟨s.pbu.seq, rfl⟩
  · split
    · exact ⟨_, rfl⟩
    · exact ⟨s.pbu.seq, rfl⟩

/-- A comparison leaves the sequencer. -/
theorem compareBudget_sequencer (source : EmgSource) (s : State) :
    Part.sequencer.same s (compareBudget source s) := by
  unfold compareBudget
  split
  · split <;> simp [Part.same, beginEmergency]
  · simp [Part.same, endEmergency]
  · simp [Part.same, endEmergency]
  · split
    · next h =>
      obtain ⟨b, hb⟩ := Option.isSome_iff_exists.mp h
      simp [beginRun_sheds hb, Part.same]
    · simp [Part.same]
  all_goals simp [Part.same]

/-- A budget evaluation makes the comparison of its source and then evaluates the head (R54). -/
theorem evaluate_evaluatedFor (source : EmgSource) (s : State) : EvaluatedFor source s (evaluate source s) := by
  have compared : Compared source s (compareBudget source (recordFigures s)) :=
    compareBudget_compared source (recordFigures s) rfl
  have seq : (compareBudget source (recordFigures s)).pbu.seq = s.pbu.seq :=
    (compareBudget_sequencer source (recordFigures s)).1
  have gap : (compareBudget source (recordFigures s)).pbu.gapTimer = s.pbu.gapTimer :=
    (compareBudget_sequencer source (recordFigures s)).2
  refine ⟨?_, by simp [evaluate, gap], fun h => evaluateHead_evaluates _ (seq.trans h), fun h => ?_⟩
  · obtain ⟨q, hq⟩ := evaluateHead_seq (compareBudget source (recordFigures s))
    rw [evaluate, hq]
    exact compared
  · rw [evaluate, evaluateHead_busy _ (by rwa [seq]), seq]

end Sys2Proof.Machine
end

