-- ==== Sys2Proof/Laws/Service.lean ====
section
/-! SUPPORT. The arrival of a request's frame: its length and parts, and what a request command comes to where the
SVE is free to take it (R157, R163, R182 to R184, log 4). -/

namespace Sys2Proof.Machine

set_option Elab.async false

/-! ### Bytes -/

@[simp] theorem length_encode16 (n : Nat) : (encode16 n).length = 2 := rfl

@[simp] theorem length_encodeAddr (a : Addr) : (encodeAddr a).length = 6 := rfl

@[simp] theorem length_servicePadding (tag n : Nat) :
    (servicePadding tag n).length = agreedLength (tagFieldLength tag) n - (14 + tagFieldLength tag + 8 + n + 4) := by
  simp [servicePadding]

/-- An address at the beginning of a frame is read back as it was written (R182). -/
theorem readAddr_encodeAddr (a : Addr) (l : List Byte) : readAddr (encodeAddr a ++ l) 0 = a := by
  have h : a.toNat < 2 ^ 48 := a.isLt
  apply BitVec.eq_of_toNat_eq
  simp [readAddr, read32, read16, byteAt, encodeAddr, encode32, encode16, byteOf]
  omega

/-! ### The frame of a request -/

/-- The body of a well-formed request has at most 767 bytes, those of a curve of 255 points (R186). -/
theorem length_requestBody (r : Request) (h : r.wellFormed = true) : (requestBody r).length ≤ 767 := by
  cases r with
  | loadCurve zone points =>
    have h1 : points.length < 256 := by simpa [Request.wellFormed] using h
    have h2 : ((points.map fun p => p.1 :: encode16 p.2.toNat).flatten).length = 3 * points.length := by
      clear h h1
      induction points with
      | nil => rfl
      | cons p l ih => simp only [List.map_cons, List.flatten_cons, List.length_append, List.length_cons, length_encode16, ih]; omega
    simp only [requestBody, List.length_append, h2, List.length_cons, List.length_nil]; omega
  | announce image => simp [requestBody]
  | _ => simp [requestBody]

/-- The command's frame is the frame of R163 and R182 to R186 that carries its request. -/
theorem frameOfRequest_eq (e : Envelope) (r : Request) (s : State) : frameOfRequest e r s = requestFrame s e r := by
  have h : e.tag.toNat = 0 ↔ e.tag = 0 := by
    constructor
    · intro h; exact BitVec.eq_of_toNat_eq (by simpa using h)
    · intro h; simp [h]
  simp only [frameOfRequest, requestFrame, copyWire, serviceBytes, List.append_assoc, h]
  congr 1

/-- The length of a request's frame agrees with its body's (R184). -/
theorem frameLength_requestFrame (s : State) (e : Envelope) (r : Request) :
    frameLength (requestFrame s e r) = agreedLength (if e.tag = 0 then 0 else 4) (requestBody r).length := by
  by_cases h : e.tag = 0
  · simp only [frameLength, requestFrame, if_pos h]
    simp [h, tagFieldLength, agreedLength]; omega
  · have h' : e.tag.toNat ≠ 0 := fun k => h (BitVec.eq_of_toNat_eq (by simpa using k))
    simp only [frameLength, requestFrame, if_neg h]
    simp [h', tagFieldLength, agreedLength]; omega

/-- A well-formed request's frame takes at most seven cells, and its length passes the test of R132. -/
theorem requestFrame_sound (s : State) (e : Envelope) (r : Request) (h : r.wellFormed = true) :
    frameSound (requestFrame s e r) = true ∧ svcCells (requestFrame s e r) ≤ 7 := by
  have hb := length_requestBody r h
  have hl := frameLength_requestFrame s e r
  simp only [agreedLength] at hl
  have hc : (requestFrame s e r).checkOk = true := rfl
  have hs : 64 ≤ frameLength (requestFrame s e r) ∧ frameLength (requestFrame s e r) ≤ 797 := by
    rw [hl, Nat.max_def]; split <;> split <;> omega
  clear hl
  constructor
  · show (true && decide (64 ≤ frameLength (requestFrame s e r)) && decide (frameLength (requestFrame s e r) ≤ 1600)) = true
    rw [decide_eq_true hs.1, decide_eq_true (by omega)]; rfl
  · simp only [svcCells, cellsOf, Config.cellBytes, ceilDiv]; omega

/-- A request's frame is a service frame of this part (R163). -/
theorem requestFrame_isServiceFrame (s : State) (e : Envelope) (r : Request) :
    isServiceFrame s.sve.chassisNumber (requestFrame s e r) = true := by
  simp only [isServiceFrame, Bool.and_eq_true, beq_iff_eq]
  constructor
  · simp only [frameDst, requestFrame, List.append_assoc, readAddr_encodeAddr]
  · by_cases h : e.tag = 0
    all_goals
      simp only [etherType, hasTagField, requestFrame, h, if_true, if_false]
      simp [read16, byteAt, encodeAddr, encode32, encode16, byteOf, Config.tagType, Config.serviceType]

/-! ### The command -/

/-- Whatever the SVE is doing, a port that takes service frames offers the request's frame to the service input
queue (R21, R151, R157). -/
theorem receiveFrame_request {e : Envelope} {r : Request} {s : State} (h : r.wellFormed = true)
    (hp : PortOpen e.arrival s) :
    receiveFrame e.arrival (requestFrame s e r) s = offerService e.arrival (requestFrame s e r) s := by
  have h1 := (requestFrame_sound s e r h).1
  have h2 := requestFrame_isServiceFrame s e r
  cases ha : e.arrival with
  | bay b =>
    rw [ha] at hp
    simp only [PortOpen] at hp
    simp only [receiveFrame, bayFrame, h1, h2, hp, if_true]
  | uplink u =>
    rw [ha] at hp
    obtain ⟨hl, he, hr⟩ := hp
    simp only [receiveFrame, uplinkFrame, h1, h2, hl, he, hr, Bool.and_self, if_true]

/-- Where the SVE is free, a well-formed request is admitted, counted and taken in one event (R157, R164, log 4). -/
theorem serveCommand_free {e : Envelope} {r : Request} {s : State} (h : r.wellFormed = true) (hf : ServiceFree s)
    (hp : PortOpen e.arrival s) : serveCommand e r s = serve e r (oneTaken s) := by
  obtain ⟨hm, hs, hq, hh, hfree⟩ := hf
  have hc := (requestFrame_sound s e r h).2
  have hr : serviceReady s = true := by simp [serviceReady, isRunning, hm, hs]
  have hfit : svcFits s (requestFrame s e r) = true := by
    simp [svcFits, hq, hh, Config.svcFrames, Config.svcQuota]; omega
  have hpop : svcPop (svcAdmit e.arrival (requestFrame s e r) s) = oneTaken s := by
    simp [svcPop, svcAdmit, oneTaken, updFbm, hq, hh, satAdd, Config.top32]
    omega
  have hne : (svcAdmit e.arrival (requestFrame s e r) s).fbm.svc.frames.isEmpty = false := by
    simp [svcAdmit, updFbm, hq]
  simp [serveCommand, requestArrives, whenRunning, isRunning, hm, hr, headSpells, hq, frameOfRequest_eq,
    receiveFrame_request h hp, offerService, hfit, hpop, hne]

end Sys2Proof.Machine
end

