-- ==== Sys2Proof/Tests/Slice0.lean ====
section
/-! SUPPORT. Tests: what well-formedness refuses, the manual's worked tables, one step of a few commands,
and for each statement with hypotheses a state and operands that meet them. -/

namespace Sys2Proof.Tests

set_option Elab.async false

open Sys2Proof Sys2Proof.Machine

/-! ### Well-formedness -/

/-- A request from an uplink, and one from a bay. -/
def manager : Envelope := { arrival := .uplink 0, source := 0x020000000001, tag := 0, requestTag := 7 }
def blade (b : Bay) : Envelope := { manager with arrival := .bay b }

theorem test_bay_tag_too_wide :
    (Instr.readOwn { blade 5 with tag := 4096 }).wellFormed = false
      ∧ (Instr.readOwn { blade 5 with tag := 4095 }).wellFormed = true
      ∧ (Instr.readPower { manager with tag := 16383 }).wellFormed = true := by decide +kernel

theorem test_curve_too_long :
    (Instr.loadCurve manager 0 (List.replicate 256 (1, 2))).wellFormed = false
      ∧ (Instr.loadCurve manager 0 (List.replicate 255 (1, 2))).wellFormed = true := by decide +kernel

/-! ### The manual's worked tables -/

/-- Supplies in OK with these capacities, under a redundancy policy. -/
def supplied (caps : List Nat) (r : Redundancy) : State :=
  updPbu (fun p => { p with
    policy := { p.policy with redundancy := r }
    supplies := Bank.tab fun i => match caps[i.val]? with
      | some c => { resetSupply true with present := true, condition := .ok, capacity := c }
      | none => resetSupply false }) State.reset

def availableUnder (caps : List Nat) (r : Redundancy) : Nat := (figuresOf (supplied caps r)).available

/-- The table of R51. -/
theorem test_redundancy_table :
    ([[2000, 2000, 1600, 1600], [2000, 1600, 1600], [2000, 1600], [2000], []].map fun caps =>
        [Redundancy.none, .one, .half].map (availableUnder caps))
      = [[7200, 5200, 3200], [5200, 3200, 3200], [3600, 1600, 1600], [2000, 0, 2000], [0, 0, 0]] := by
  decide +kernel

def falling : List CurvePoint := [⟨0, 1000⟩, ⟨20, 700⟩, ⟨60, 350⟩, ⟨120, 200⟩]

/-- The table of R99. -/
theorem test_interpolation_table :
    ([1, 20, 45, 61, 130].map fun m => curveDemand m falling) = [985, 700, 482, 348, 200]
      ∧ curveDemand 101 [⟨100, 300⟩, ⟨140, 400⟩] = 303 := by decide +kernel

def fifth : Window := { bs := 4, cs := 12, bb := 20, cb := 40 }

/-- The forward and reverse tables of 07_tag_translation.md section 7.6, with its two changes of window. -/
theorem test_worked_translations :
    ([0, 1447, 3600, 700].map (forwardTag fifth)) = [some 0, some 5543, some 10768, some 700]
      ∧ ([5543, 10768, 700, 7700].map (reverseTag fifth)) = [some 1447, some 3600, some 700, none]
      ∧ ([3583, 3584, 4095].map (forwardTag { fifth with cb := 62 })) = [some 16383, none, none]
      ∧ reverseTag { fifth with cb := 62 } 10768 = none
      ∧ forwardTag ⟨0, 0, 0, 8⟩ 0 = some 2048 ∧ reverseTag ⟨0, 0, 0, 8⟩ 0 = none := by decide +kernel

/-- The overlapping areas of section 7.7. -/
theorem test_overlapping_areas :
    ([522, 1546].map (forwardTag ⟨4, 8, 0, 40⟩)) = [some 522, some 522]
      ∧ reverseTag ⟨4, 8, 0, 40⟩ 522 = some 1546 := by decide +kernel

/-- The fans of 06_fan_drive_and_tachometer_supervision.md section 6.11: 482 per mille over two of three
fans, the fall of the applied value, and the speed of F2. -/
theorem test_worked_fans :
    compensate 482 3 2 = 723 ∧ slew .auto 800 723 20 = 780 ∧ slew .auto 740 723 20 = 723
      ∧ compensate 1000 3 2 = 1000 ∧ slew .auto 723 1000 20 = 1000 ∧ fanDuty 780 300 = 780
      ∧ windowRpm { resetFan 2 with count := 170, prescale := 2 } 2 = 10200
      ∧ windowLow { resetFan 2 with minDuty := 800 } 12000 10200 = false
      ∧ windowLow { resetFan 2 with minDuty := 800 } 12000 4799 = true := by decide +kernel

/-! ### A populated part

Every bay state, every scan stage and every kind of entry stands somewhere in `lab`. -/

def bladeIdentity : Identity := { word := 0x11020304, signature := 5, data := .bay 400 20 }

def lineSlot (i : Identity) : SlotRec :=
  { resetSlot with present := true, status := .complete, source := some .line, ident := some i }

def powered (r : BayRec) (st : BayState) : BayRec := { r with state := st, pen := true, grant := 400 }

def labBay (b : Bay) : BayRec :=
  let r := resetBay b
  match b.val with
  | 0 => { r with insertTimer := some 0 }
  | 1 => { r with state := .identifying }
  | 2 => { r with state := .standby, removeTimer := some 0 }
  | 3 => { r with state := .waitPower }
  | 4 => { powered r .ramping with rampTimer := some 1000 }
  | 5 => powered r .poweredOn
  | 6 => { powered r .poweredOn with adopted := true, grant := 500 }
  | 7 => { powered r .stopping with sdr := true, stopTimer := some 30000 }
  | 8 => { r with state := .fault }
  | 9 => { r with state := .maint }
  | _ => r

/-- Slot 1 is in flight after three failures, slots 6 and 17 wait for it, slot 18 waits for a retry, and
slots 19 and 25 are empty. -/
def labSlot (k : Slot) : SlotRec :=
  let waiting : SlotRec := { resetSlot with present := true, source := some .line }
  match k.val with
  | 1 => { waiting with stage := .inFlight, status := .scanning, failures := 3 }
  | 2 | 3 | 4 | 5 | 7 | 8 => lineSlot bladeIdentity
  | 6 => { waiting with stage := .queued }
  | 9 => { waiting with source := some .announce, failures := 4 }
  | 16 => lineSlot { bladeIdentity with data := .psu 5000 }
  | 17 => { waiting with stage := .queued }
  | 18 => { waiting with stage := .retryWait, retryTimer := some 500, failures := 1 }
  | 20 => lineSlot { bladeIdentity with data := .fan 12000 24 2 }
  | 21 => { waiting with source := none, status := .unidentified, failures := 4 }
  | _ => resetSlot

def labSupply (p : Psu) : SupplyRec :=
  match p.val with
  | 0 => { resetSupply true with present := true, condition := .ok, capacity := 5000, removeTimer := some 0 }
  | 3 => { resetSupply true with insertTimer := some 0 }
  | _ => { resetSupply true with present := true, condition := .pending }

def labFan (f : Fan) : FanRec :=
  let turning : FanRec :=
    { resetFan f with tachTimer := some 1000, drive := 1000, removeTimer := some 0, count := 100 }
  match f.val with
  | 0 => { turning with state := .running, low := 2, prescale := 2 }
  | 1 => { turning with state := .spinup }
  | 2 => { resetFan f with insertTimer := some 0, drive := 1000 }
  | _ => resetFan f

def frameCopy : Copy := { kind := .forwarded, tag := 0, bytes := List.replicate 200 0 }

def labQueue (quota : Nat) : Queue :=
  { resetQueue quota with frames := [frameCopy], held := 2, enqueued := 1, sending := true }

def station (i : Nat) (a : Addr) (tag : Nat) (b : Bay) (kind : EntryKind) : Place :=
  { index := i, entry := { address := a, chassisTag := tag, bay := b, bladeTag := tag, kind := kind } }

def learned : Place := station 0 0x020000000005 9 5 (.dynamic 3)
def fixedPlace : Place := station 1 0x020000000002 0 2 .fixed

def labRecords : State :=
  { resetBlocks .powerOn { quietPins with link := Bank.tab fun _ => true } [] with
    bays := Bank.tab labBay
    ise := { slots := Bank.tab labSlot, queue := [6, 17], scan := some { slot := 1, timer := 5 } }
    pbu := { resetPbu quietPins with
      supplies := Bank.tab labSupply, policy := { resetPolicy with redundancy := .none }
      waitList := [{ bay := 3, stamp := 0 }], nextStamp := 1, seq := .ramp 4 }
    fdu := { fans := Bank.tab labFan, air := Bank.tab fun _ => resetAir }
    stb := { resetStb with places := [learned, fixedPlace] }
    fbm := { resetFbm with
      free := 2044, bayQ := Bank.put resetFbm.bayQ 5 (labQueue 96)
      upQ := Bank.put resetFbm.upQ 0 (labQueue 512) } }

/-- The populated part, with its figures evaluated. -/
def lab : State := { labRecords with pbu := { labRecords.pbu with figures := figuresOf labRecords } }

/-- The same part while it is held in a reset-line reset. -/
def inReset : State := { lab with mode := .lineReset }

def withPbu (f : Pbu → Pbu) : State := { lab with pbu := f lab.pbu }

/-- An emergency with this phase. -/
def emergencyIn (phase : EmgPhase) (b : Option Bay) (t : Timer) : State :=
  withPbu fun p => { p with ae := .closed, emg := { p.emg with phase := phase, shedBay := b, graceTimer := t } }

def withScan (k : Slot) (s : State) : State := { s with ise := { s.ise with scan := some { slot := k, timer := 5 } } }

theorem lab_scanLaw : ScanLaw lab := by unfold ScanLaw; decide +kernel

theorem lab_stationLaw : StationLaw lab := by unfold StationLaw keysDistinct; decide +kernel

theorem lab_classLaw : ClassLaw lab := by
  have h : ∀ k, ((slotRec lab k).ident.all fun i =>
      decide (i.data.kind = slotKind k) && classInRange i.data) = true := by decide +kernel
  intro k i hi
  have := h k
  simpa [hi] using this

theorem lab_identLaw : IdentLaw lab := by unfold IdentLaw; decide +kernel

theorem lab_figuresLaw : FiguresLaw lab :=
  ⟨lab_scanLaw, lab_classLaw, lab_identLaw, by unfold SupplyLaw; decide +kernel, fun _ => by unfold FiguresCurrent; decide +kernel⟩

theorem lab_poolLaw : PoolLaw lab := by
  refine ⟨by decide +kernel, ?_, by decide +kernel, by decide +kernel, by decide +kernel⟩
  intro p
  cases p with
  | bay b => unfold queueTrue; revert b; decide +kernel
  | uplink u => unfold queueTrue; revert u; decide +kernel

/-! ### One step of a few commands -/

/-- The state that a command leaves. -/
def after (c : Instr) (s : State) : State :=
  match exec c s with
  | .next t => t
  | .fault e => nomatch e
  | .refused _ => s

/-- R26: the two steps of an insertion raise BAY_CHANGE, and the bay waits in IDENTIFYING behind the slot
in flight. -/
theorem test_insertion :
    bayState (after (.bayInsertionDebounceExpiry 0) lab) 0 = .identifying
      ∧ (bayRec (after (.bayInsertionDebounceExpiry 0) lab) 0).insertions = 1
      ∧ (after (.bayInsertionDebounceExpiry 0) lab).ise.queue = [6, 17, 0] := by decide +kernel

/-- R65 and R68: BAY_PG completes the ramp, and the gap of 5 steps of 100 ms starts. -/
theorem test_ramp_completes :
    let t := after (.bayPgAsserted 4) lab
    bayState t 4 = .poweredOn ∧ t.pbu.seq = .gap 4 ∧ t.pbu.gapTimer = some 500 := by decide +kernel

/-- R14: a power fault flushes the queue and purges the learned entry. -/
theorem test_power_fault :
    let t := after (.bayPgLow 5) lab
    bayState t 5 = .fault ∧ (bayRec t 5).pen = false ∧ (queueOf t (.bay 5)).dropped = 1 ∧ t.fbm.free = 2046
      ∧ t.stb.places = [fixedPlace] := by decide +kernel

/-- R58: a bay of priority 3 asks for power and stands before the bay of priority 4 that already waits. -/
theorem test_wait_list_order :
    let s := updBay 2 (fun r => { r with priority := 3 }) lab
    (after (.powerOn manager 2) s).pbu.waitList = [{ bay := 2, stamp := 1 }, { bay := 3, stamp := 0 }] := by
  decide +kernel

/-- R83: a supply that comes back ends an emergency in GRACE, and AE is what AE2 held. -/
theorem test_emergency_ends :
    let s := updSupply 0 (fun r => { r with psuOk := false, condition := .notOk, capacity := 0 })
      (emergencyIn .grace none (some 100))
    let t := after (.psuOkChange 0 true) s
    t.pbu.emg.phase = .none ∧ t.pbu.ae = .opened ∧ t.pbu.figures.available = 5000
      ∧ flagRec t 2 = { raised := true, cause := some (.emergency .ended (.supply 0)) } := by decide +kernel

/-- R72 and R74: the loss of the supply begins an emergency, with that supply as its source. -/
theorem test_emergency_begins :
    let t := after (.psuOkChange 0 false) lab
    t.pbu.emg.phase = .grace ∧ t.pbu.emg.graceTimer = some 300 ∧ t.pbu.ae = .closed ∧ t.pbu.ae2 = .opened
      ∧ (bayRec t 0).emergencyCause = true
      ∧ flagRec t 2 = { raised := true, cause := some (.emergency .began (.supply 0)) } := by decide +kernel

/-- R9, R61 and R66: a ramp fault frees the sequencer, and the head of the list is admitted. -/
theorem test_ramp_fault_admits_head :
    let t := after (.rampTimerExpiry 4) lab
    bayState t 4 = .fault ∧ t.pbu.seq = .admitting 3 ∧ t.pbu.gapTimer = lab.pbu.gapTimer := by decide +kernel

/-- R118: the third low window in a row fails a running fan. -/
theorem test_fan_fails :
    let t := after (.tachWindowExpiry 0) (updFan 0 (fun r => { r with count := 1 }) lab)
    (fanRec t 0).state = .failed ∧ (fanRec t 0).rpm = some 60
      ∧ flagRec t 4 = { raised := true, cause := some (.fanFault 0 false) } := by decide +kernel

/-- R140: a learned entry whose idle count reaches the limit is forgotten, and a STATIC one stays. -/
theorem test_aging :
    (after .agingSweepTimerExpiry { lab with stb := { lab.stb with agingSteps := 4 } }).stb.places = [fixedPlace]
      ∧ (after .agingSweepTimerExpiry lab).stb.places
          = [{ learned with entry := { learned.entry with kind := .dynamic 4 } }, fixedPlace] := by
  decide +kernel

/-! ### Witnesses of the statements

Each shows a state and operands that meet the hypotheses of a statement together, and those of each of its
clauses, at the ends of their ranges. -/

def starting (stable resetN : Bool) : State :=
  { State.reset with mode := .powerOnReset stable, pins := { quietPins with resetN := resetN } }

theorem witness_StepRunsTheFrontCommand : inReset.pending = [] ∧ inReset.mode ≠ .running := by decide +kernel

theorem witness_PowerOnResetCompletes :
    ((starting true false).mode = .powerOnReset true ∧ (starting true false).pins.resetN = false)
      ∧ ((starting false false).mode = .powerOnReset false ∧ (starting false false).pins = quietPins)
      ∧ ((starting false true).mode = .powerOnReset false ∧ (starting false true).pins.resetN = true) := by
  decide +kernel

theorem witness_ResetBeginningEndsAllWork : lab.mode = .running ∧ inReset.mode ≠ .running := by decide +kernel

theorem witness_WarmResetTakesOver :
    inReset.mode = .lineReset ∧ (starting false false).mode = .powerOnReset false ∧ lab.mode = .running := by
  decide +kernel

/-- Every class is unmasked, and alerts go to a station on uplink 0. -/
def alerting : State :=
  { lab with sve := { lab.sve with
      unmasked := Bank.tab fun _ => true, alertTarget := some (0, 0x020000000001) } }

/-- R173, R183 and R185: the completed ramp of B4 sends a frame of 64 bytes less its check bytes, of kind ALERT
and with the record 0, 4, 0. -/
theorem test_alert_sent :
    let q := queueOf (after (.bayPgAsserted 4) alerting) (.uplink 0)
    (q.frames.getLast?.map fun c => (c.kind, c.bytes.length, (c.bytes.drop 12).take 13))
        = some (.alert, 60, [0xD3, 0x80, 1, 3, 0, 0, 0, 0, 0, 3, 0, 4, 0])
      ∧ q.held = 3 ∧ (after (.bayPgAsserted 4) alerting).fbm.free = 2043 := by decide +kernel

/-- Presence lines: an EMPTY and a standing module, each with a line that rises and one that falls. -/
def presences (present : Bool) : State :=
  { lab with pins := { lab.pins with
      bayPres := Bank.tab fun _ => present, psuPres := Bank.tab fun _ => present
      fanPres := Bank.tab fun _ => present } }

theorem witness_PresenceLinesDebounced :
    (∀ p : Bool, (presences p).mode = .running ∧ Bank.read (presences p).pins.bayPres 0 ≠ (!p)
        ∧ bayState (presences p) 0 = .empty ∧ bayState (presences p) 9 ≠ .empty
        ∧ Bank.read (presences p).pins.psuPres 3 ≠ (!p)
        ∧ (supplyRec (presences p) 3).present = false ∧ (supplyRec (presences p) 0).present = true
        ∧ Bank.read (presences p).pins.fanPres 2 ≠ (!p) ∧ (fanRec (presences p) 2).state = .absent
        ∧ (fanRec (presences p) 0).state ≠ .absent)
      ∧ Bank.read lab.pins.bayPres 0 = false ∧ inReset.mode ≠ .running := by decide +kernel

theorem witness_BayInserted :
    lab.mode = .running ∧ ScanLaw lab ∧ bayState lab 0 = .empty ∧ (bayRec lab 0).insertTimer ≠ none :=
  ⟨by decide +kernel, lab_scanLaw, by decide +kernel, by decide +kernel⟩

/-- The bay whose slot is being scanned is about to be removed. -/
def leaving : State := updBay 1 (fun r => { r with removeTimer := some 0 }) lab

theorem witness_BayRemoved :
    (lab.mode = .running ∧ bayState lab 2 ≠ .empty ∧ (bayRec lab 2).removeTimer ≠ none)
      ∧ leaving.mode = .running ∧ bayState leaving 1 ≠ .empty ∧ (bayRec leaving 1).removeTimer ≠ none
      ∧ leaving.ise.scan.map (·.slot) = some (slotOfBay 1) ∧ leaving.ise.queue = [6, 17] := by decide +kernel

/-- R33 and R39: the aborted scan frees the engine, which takes the head of the queue. -/
theorem test_abort_moves_on :
    let t := after (.bayRemovalDebounceExpiry 1) leaving
    t.ise.scan = some { slot := 6, timer := 20 } ∧ t.ise.queue = [17] ∧ (slotRec t 6).stage = .inFlight := by
  decide +kernel

theorem witness_BayPowerGoodCompletesARamp :
    lab.mode = .running ∧ bayState lab 4 = .ramping ∧ lab.pbu.seq = .ramp 4 ∧ lab.pbu.policy.gapSteps ≠ 0
      ∧ (withPbu fun p => { p with policy := { p.policy with gapSteps := 0 } }).pbu.policy.gapSteps = 0
      ∧ (withPbu fun p => { p with seq := .idle }).pbu.seq ≠ .ramp 4
      ∧ inReset.mode ≠ .running ∧ bayState lab 5 ≠ .ramping := by decide +kernel

theorem witness_BayPowerFault :
    lab.mode = .running ∧ bayState lab 5 = .poweredOn ∧ bayState lab 7 = .stopping
      ∧ inReset.mode ≠ .running ∧ bayState lab 4 ≠ .poweredOn ∧ bayState lab 4 ≠ .stopping := by decide +kernel

theorem witness_RampFaultAndStopEnd :
    lab.mode = .running ∧ (bayState lab 4 = .ramping ∧ (bayRec lab 4).rampTimer ≠ none)
      ∧ bayState lab 7 = .stopping ∧ (bayRec lab 7).stopTimer ≠ none := by decide +kernel

/-- Nothing is powered, no supply gives power, and fan 2 is about to be inserted. -/
def unpoweredIn (phase : EmgPhase) : State :=
  updFan 2 (fun r => { r with insertTimer := some 0 }) (updEmg (fun e => { e with phase := phase }) State.reset)

/-- Each clause of `Compared` has its case, by the figures after the loss or the return of the supply, or after the
insertion of a fan. -/
theorem witness_evaluations :
    (∀ phase ∈ ([.none, .grace, .shedding, .exhausted] : List EmgPhase),
        overBudget (after (.psuOkChange 0 false) (emergencyIn phase none none)) = true
          ∧ overBudget (after (.fanInsertionDebounceExpiry 2) (emergencyIn phase none none)) = false)
      ∧ overBudget (after (.psuOkChange 0 false) (withPbu fun p => { p with hold := true })) = true
      ∧ chooseShed (after (.psuOkChange 0 false) (emergencyIn .exhausted none none)) = some 4
      ∧ overBudget (after (.fanInsertionDebounceExpiry 2) (unpoweredIn .exhausted)) = true
      ∧ chooseShed (after (.fanInsertionDebounceExpiry 2) (unpoweredIn .exhausted)) = none := by decide +kernel

/-- R82: the loss of more power in EXHAUSTED, with a bay in RAMPING, sheds that bay. -/
theorem test_exhausted_sheds_again :
    let t := after (.psuOkChange 0 false) (emergencyIn .exhausted none none)
    t.pbu.emg.phase = .shedding ∧ t.pbu.emg.shedBay = some 4 ∧ flagRec t 2 = flagRec lab 2 := by decide +kernel

/-- The admission of a bay is handed over, BAY_PG being low or driven, with a stagger gap or without. -/
def admitting (b : Bay) (good : Bool) (gap : Nat) : State :=
  { withPbu (fun p => { p with seq := .admitting b, policy := { p.policy with gapSteps := gap } }) with
    pins := { lab.pins with bayPg := Bank.tab fun _ => good } }

theorem witness_AdmissionTaken :
    (∀ good : Bool, ∀ gap ∈ [0, 20], (admitting 3 good gap).mode = .running
        ∧ (admitting 3 good gap).pbu.seq = .admitting 3 ∧ bayState (admitting 3 good gap) 3 = .waitPower
        ∧ Bank.read (admitting 3 good gap).pins.bayPg 3 = good
        ∧ (admitting 3 good gap).pbu.policy.gapSteps = gap)
      ∧ (admitting 2 false 0).pbu.seq = .admitting 2 ∧ bayState (admitting 2 false 0) 2 ≠ .waitPower := by
  decide +kernel

theorem witness_ShedTaken :
    (∀ b ∈ ([4, 5, 7, 2] : List Bay), (emergencyIn .shedding (some b) none).mode = .running
        ∧ (emergencyIn .shedding (some b) none).pbu.emg.phase = .shedding
        ∧ (emergencyIn .shedding (some b) none).pbu.emg.shedBay = some b)
      ∧ (∀ b ∈ ([4, 5, 7] : List Bay), hasMain (bayState (emergencyIn .shedding (some b) none) b) = true)
      ∧ hasMain (bayState (emergencyIn .shedding (some 2) none) 2) = false := by decide +kernel

/-- R79 and R81: a declined request ends a run that has shed B9, and SHED names B9. -/
theorem test_declined_shed :
    let s := emergencyIn .shedding (some 2) none
    let t := after .shedTaken { s with pbu := { s.pbu with
      emg := { s.pbu.emg with runShed := true, lastShed := some 9, shedCount := 1 } } }
    t.pbu.emg.phase = .none ∧ t.pbu.emg.shedCount = 1 ∧ t.pbu.emg.lastShed = some 9
      ∧ flagRec t 3 = { raised := true, cause := some (.shed 9) }
      ∧ flagRec t 2 = { raised := true, cause := some (.emergency .ended (.bay 9)) } := by decide +kernel

theorem witness_SuppliesInsertedAndRemoved :
    (lab.mode = .running ∧ ScanLaw lab ∧ (supplyRec lab 3).present = false ∧ (supplyRec lab 3).insertTimer ≠ none)
      ∧ (supplyRec lab 0).present = true ∧ (supplyRec lab 0).removeTimer ≠ none :=
  ⟨⟨by decide +kernel, lab_scanLaw, by decide +kernel, by decide +kernel⟩, by decide +kernel⟩

theorem witness_SupplyConditionFollowsItsInputs : lab.mode = .running ∧ inReset.mode ≠ .running := by
  decide +kernel

/-- The adoption hold is in force, and no bay is in a ramp. -/
def held : State := withPbu fun p => { p with seq := .idle, hold := true, holdTimer := some 5000 }

theorem witness_PowerTimersExpire :
    (held.mode = .running ∧ held.pbu.hold = true ∧ held.pbu.holdTimer ≠ none ∧ held.pbu.emg.phase = .none)
      ∧ ((emergencyIn .grace none (some 0)).mode = .running
        ∧ (emergencyIn .grace none (some 0)).pbu.emg.phase = .grace
        ∧ (emergencyIn .grace none (some 0)).pbu.emg.graceTimer ≠ none
        ∧ chooseShed (emergencyIn .grace none (some 0)) = some 4 ∧ chooseShed State.reset = none)
      ∧ (withPbu fun p => { p with seq := .gap 4, gapTimer := some 0 }).pbu.seq = .gap 4
      ∧ (withPbu fun p => { p with seq := .gap 4, gapTimer := some 0 }).pbu.gapTimer ≠ none := by decide +kernel

/-- Only this slot is being scanned, after `n` failures. -/
def scanningSlot (k : Slot) (n : Nat) : State :=
  { lab with ise := {
      slots := Bank.tab fun j => if j = k then
          { resetSlot with
            present := true, source := some .line, stage := .inFlight, status := .scanning, failures := n }
        else resetSlot
      queue := [], scan := some { slot := k, timer := 5 } } }

/-- A class image with these leading bytes: the format byte is 1 and the last byte makes the sum 0. -/
def imageOf (lead : List Nat) : Image :=
  Bank.tab fun i => BitVec.ofNat 8 (if i.val = 14 then 1 else if i.val = 15 then 511 - lead.sum % 256
    else lead.getD i.val 0)

def bladeImage (power standby : Nat) : Image :=
  imageOf [0x11, 2, 3, 4, 0, 0, 0, 5, power / 256, power % 256, standby]

def supplyImage : Image := imageOf [0x21, 2, 3, 4, 0, 0, 0, 5, 0x13, 0x88]

def fanImage : Image := imageOf [0x31, 2, 3, 4, 0, 0, 0, 5, 0x2E, 0xE0, 24, 2]

/-- R29: the images of this file are valid, and the first check that fails names the failure. -/
theorem test_image_checks :
    imageFailure .bay (bladeImage 2000 50) = none ∧ imageFailure .bay (bladeImage 50 0) = none
      ∧ imageFailure .bay (bladeImage 2001 0) = some .range ∧ imageFailure .bay (bladeImage 49 0) = some .range
      ∧ imageFailure .bay (bladeImage 400 51) = some .range ∧ imageFailure .psu (bladeImage 400 0) = some .kind
      ∧ imageFailure .psu supplyImage = none ∧ imageFailure .fan fanImage = none
      ∧ imageFailure .bay (Bank.tab fun _ => 0) = some .format
      ∧ imageFailure .bay (Bank.tab fun _ => 16) = some .format
      ∧ imageFailure .bay (Bank.put (bladeImage 400 20) 15 0) = some .check := by decide +kernel

theorem witness_ScanCompletes :
    (∀ b ∈ ([1, 5, 6, 8] : List Bay), (scanningSlot (slotOfBay b) 3).mode = .running
        ∧ scanning (scanningSlot (slotOfBay b) 3) (slotOfBay b) = true
        ∧ imageFailure (slotKind (slotOfBay b)) (bladeImage 400 20) = none)
      ∧ bayState lab 1 = .identifying ∧ isUp (bayState lab 6) = true ∧ (bayRec lab 6).adopted = true
      ∧ hasMain (bayState lab 5) = true ∧ (bayRec lab 5).adopted = false ∧ bayState lab 8 ≠ .identifying
      ∧ hasMain (bayState lab 8) = false
      ∧ scanning (scanningSlot (slotOfPsu 1) 0) (slotOfPsu 1) = true ∧ (supplyRec lab 1).present = true
      ∧ imageFailure (slotKind (slotOfPsu 1)) supplyImage = none
      ∧ scanning (scanningSlot (slotOfFan 0) 0) (slotOfFan 0) = true
      ∧ imageFailure (slotKind (slotOfFan 0)) fanImage = none := by decide +kernel

theorem witness_ScanCompletes_law :
    ScanLaw (scanningSlot 1 3) ∧ ScanLaw (scanningSlot (slotOfPsu 1) 0) ∧ ScanLaw (scanningSlot (slotOfFan 0) 0) :=
  ⟨by unfold ScanLaw; decide +kernel, by unfold ScanLaw; decide +kernel, by unfold ScanLaw; decide +kernel⟩

/-- The adoption hold waits for the identity of P1 alone. -/
def lastPending (failures : Nat) : State :=
  let s := scanningSlot (slotOfPsu 1) failures
  { s with pbu := { s.pbu with
      hold := true, holdTimer := some 5000, seq := .idle
      supplies := Bank.put s.pbu.supplies 2 { resetSupply true with present := true, condition := .notOk } } }

/-- R86: the hold ends with the scan of the last PENDING supply, whether that completes or fails for good. -/
theorem test_hold_ends_with_scan :
    (lastPending 0).pbu.hold = true ∧ (supplyRec (lastPending 0) 1).condition = .pending
      ∧ (after (.sixteenthByteReceived (slotOfPsu 1) supplyImage) (lastPending 0)).pbu.hold = false
      ∧ (after (.scanNoAnswer (slotOfPsu 1)) (lastPending 3)).pbu.hold = false
      ∧ (after (.scanNoAnswer (slotOfPsu 1)) (lastPending 2)).pbu.hold = true := by decide +kernel

theorem witness_ScanFails :
    (scanning (scanningSlot 1 2) 1 = true ∧ (slotRec (scanningSlot 1 2) 1).failures < 3)
      ∧ (scanning (scanningSlot 1 3) 1 = true ∧ (slotRec (scanningSlot 1 3) 1).failures = 3)
      ∧ (scanning (scanningSlot 17 3) 17 = true ∧ (slotRec (scanningSlot 17 3) 17).failures = 3
        ∧ slotKind 17 ≠ .bay)
      ∧ scanFailure 1 (.scanNoAnswer 1) = some .noAnswer ∧ scanFailure 1 (.scanTimerExpiry 1) = some .timeout
      ∧ scanFailure 17 (.sixteenthByteReceived 17 (bladeImage 400 20)) = some .kind
      ∧ scanning (scanningSlot 1 3) 0 = false := by decide +kernel

theorem witness_ScanFails_law :
    ScanLaw (scanningSlot 1 2) ∧ ScanLaw (scanningSlot 1 3) ∧ ScanLaw (scanningSlot 17 3) :=
  ⟨by unfold ScanLaw; decide +kernel, by unfold ScanLaw; decide +kernel, by unfold ScanLaw; decide +kernel⟩

/-- A slot waits for its retry while the engine is idle. -/
def retryOnly : State :=
  { lab with ise := { slots := Bank.put (Bank.tab fun _ => resetSlot) 18 (labSlot 18), queue := [], scan := none } }

theorem witness_RetryQueuesTheSlot :
    (lab.mode = .running ∧ ScanLaw lab ∧ (slotRec lab 18).stage = .retryWait ∧ lab.ise.scan ≠ none)
      ∧ ScanLaw retryOnly ∧ (slotRec retryOnly 18).stage = .retryWait ∧ retryOnly.ise.scan = none :=
  ⟨⟨by decide +kernel, lab_scanLaw, by decide +kernel⟩, by unfold ScanLaw; decide +kernel, by decide +kernel⟩

theorem witness_FansInsertedAndRemoved :
    (lab.mode = .running ∧ ScanLaw lab ∧ (fanRec lab 2).state = .absent ∧ (fanRec lab 2).insertTimer ≠ none)
      ∧ (fanRec lab 0).state ≠ .absent ∧ (fanRec lab 0).removeTimer ≠ none :=
  ⟨⟨by decide +kernel, lab_scanLaw, by decide +kernel⟩, by decide +kernel⟩

theorem witness_TachPulsesAndWindows :
    lab.mode = .running ∧ (fanRec lab 0).state ≠ .absent
      ∧ (fanRec lab 0).residue + 1 < (fanRec lab 0).prescale
      ∧ (fanRec lab 1).state = .spinup ∧ (fanRec lab 1).prescale ≤ (fanRec lab 1).residue + 1
      ∧ (fanRec lab 5).state = .absent ∧ (fanRec lab 0).tachTimer ≠ none ∧ (fanRec lab 1).tachTimer ≠ none
      ∧ (fanRec lab 0).state = .running ∧ fanIdentity lab 0 = some (12000, 2) ∧ 200 ≤ (fanRec lab 0).minDuty
      ∧ fanIdentity (updFan 1 (fun r => { r with state := .running }) lab) 1 = none
      ∧ (fanRec (updFan 0 (fun r => { r with state := .failed, good := 2 }) lab) 0).state = .failed := by
  decide +kernel

/-- A bay in ON with this thermal entry, under the stale limit of 4 s. -/
def reported (margin : Nat) (critical current : Bool) (age : Nat) : State :=
  updThermal 5 (fun _ => { margin := some margin, critical := critical, current := current, age := age }) lab

/-- R91, R97 and R98: a margin of 0 is critical, and an age equal to the limit is not stale. -/
theorem test_thermal_classes :
    classIn (reported 0 false true 0) 0 5 = some .critical ∧ classIn (reported 9 true true 4001) 0 5 = some .critical
      ∧ classIn (reported 9 true false 4001) 0 5 = some .stale ∧ classIn (reported 9 false true 4001) 0 5 = some .stale
      ∧ classIn (reported 9 false true 4000) 0 5 = some .reporting
      ∧ classIn (reported 9 true false 4000) 0 5 = some .awaiting
      ∧ classIn lab 1 5 = none ∧ demandIn (reported 9 false true 4001) 0 5 = 1000 := by decide +kernel

theorem witness_ControlTimerDrivesTheFans :
    (lab.mode = .running ∧ lab.thu.controlTimer ≠ none)
      ∧ (zoneAir (after .controlTimerExpiry lab) 1).airflow ≠ (zoneAir lab 1).airflow
      ∧ (∀ z, (zoneAir (after .controlTimerExpiry (updFans (fun _ r => { r with state := .running }) lab)) z).airflow
          = (zoneAir lab z).airflow)
      ∧ isUp (bayState lab 5) = true ∧ (bayRec lab 5).zone = 0 := by decide +kernel

/-! #### Frames -/

/-- A frame of the shortest length, 64 bytes with its check bytes. -/
def frameTo (dst src : Addr) (tag : Nat) : RxFrame :=
  let head := encodeAddr dst ++ encodeAddr src ++ encode16 0xD381 ++ encode16 tag ++ encode16 0x0800
  { bytes := head ++ List.replicate (60 - head.length) 0, checkOk := true }

def toNobody : RxFrame := frameTo 0x020000000099 0x020000000007 9
def toStation : RxFrame := frameTo 0x020000000005 0x020000000007 9
def toGroup : RxFrame := frameTo 0xFFFFFFFFFFFF 0x020000000007 9
def toPart : RxFrame := frameTo (serviceAddress 0) 0x020000000007 9
def request : RxFrame := requestFrame lab manager .readPower

theorem test_frame_kinds :
    frameSound toNobody = true ∧ frameSound { toNobody with bytes := toNobody.bytes.take 59 } = false
      ∧ frameSound { toNobody with checkOk := false } = false ∧ frameSound request = true
      ∧ isServiceFrame 0 request = true ∧ isServiceFrame 0 toPart = false ∧ frameTag (.bay 5) toNobody = 9
      ∧ isGroup (frameDst toGroup) = true ∧ isGroup (frameDst toNobody) = false := by decide +kernel

/-- The lab with the window of section 7.6 whose upper pages 14 and 15 overflow, at bay 5. -/
def overflowing : State := updWindow 5 { fifth with cb := 62 } lab

theorem witness_BayPortFrames :
    (inReset.mode ≠ .running ∧ lab.mode = .running)
      ∧ (isServiceFrame lab.sve.chassisNumber request = true ∧ accepting (bayState lab 5) = true
        ∧ bayState lab 0 = .empty ∧ bayState lab 9 = .maint)
      ∧ (isServiceFrame lab.sve.chassisNumber toNobody = false ∧ bayState lab 4 ≠ .poweredOn
        ∧ bayState lab 5 = .poweredOn)
      ∧ (isServiceFrame lab.sve.chassisNumber toPart = false
        ∧ frameDst toPart = serviceAddress lab.sve.chassisNumber)
      ∧ frameDst toNobody ≠ serviceAddress lab.sve.chassisNumber
      ∧ forwardTag (window overflowing 5) (frameTag (.bay 5) (frameTo 0x020000000099 1 3584)) = none
      ∧ forwardTag (window overflowing 5) (frameTag (.bay 5) (frameTo 0x020000000099 1 3583)) = some 16383 := by
  decide +kernel

theorem witness_UpstreamCopies :
    lab.mode = .running ∧ bayState lab 5 = .poweredOn
      ∧ (∀ f ∈ [toNobody, toStation, toGroup], frameSound f = true
        ∧ frameDst f ≠ serviceAddress lab.sve.chassisNumber
        ∧ forwardTag (window lab 5) (frameTag (.bay 5) f) = some 9)
      ∧ isGroup (frameDst toNobody) = false ∧ isGroup (frameDst toGroup) = true
      ∧ findStation (learn 5 (frameSrc toStation) 9 9 lab) (frameDst toStation) 9 = some learned
      ∧ findStation (learn 5 (frameSrc toNobody) 9 9 lab) (frameDst toNobody) 9 = none
      ∧ selectedUplink lab 5 = some 0
      ∧ selectedUplink (updUplink 1 (fun r => { r with link := false }) (updUplink 0 (fun r =>
          { r with link := false }) lab)) 5 = none := by decide +kernel

theorem witness_UplinkPortFrames :
    (lab.mode = .running ∧ inReset.mode ≠ .running ∧ (uplinkRec State.reset 0).link = false)
      ∧ ((uplinkRec lab 0).link = true ∧ (uplinkRec lab 0).enabled = true ∧ (uplinkRec lab 0).right = true)
      ∧ (uplinkRec (updUplink 0 (fun r => { r with enabled := false }) lab) 0).enabled = false
      ∧ (uplinkRec (updUplink 0 (fun r => { r with right := false }) lab) 0).right = false
      ∧ isServiceFrame lab.sve.chassisNumber request = true
      ∧ isServiceFrame lab.sve.chassisNumber toStation = false
      ∧ findStation lab (frameDst toStation) (frameTag (.uplink 0) toStation) = some learned
      ∧ findStation lab (frameDst (frameTo 0x020000000002 1 0)) 0 = some fixedPlace
      ∧ isDynamic learned.entry = true ∧ isDynamic fixedPlace.entry = false ∧ bayState lab 2 ≠ .poweredOn := by
  decide +kernel

/-- The response of a SOFT_RESET is being sent by uplink 0. -/
def resetAnswered : State :=
  let q : Queue := { resetQueue 512 with
    frames := [{ frameCopy with kind := .resetResponse }], held := 2, sending := true }
  putQueue (.uplink 0) q { lab with sve := { lab.sve with softReset := some 0 } }

theorem witness_TransmissionCompletes :
    (lab.mode = .running ∧ (queueOf lab (.bay 5)).sending = true ∧ headAwaitsReset (.bay 5) lab = false
        ∧ (queueOf lab (.bay 5)).frames.head? = some frameCopy)
      ∧ (resetAnswered.mode = .running ∧ (queueOf resetAnswered (.uplink 0)).sending = true
        ∧ resetAnswered.sve.softReset = some 0
        ∧ ((queueOf resetAnswered (.uplink 0)).frames.head?.map (·.kind)) = some .resetResponse)
      ∧ (queueOf lab (.bay 6)).sending = false := by decide +kernel

theorem witness_AgingSweepForgetsSilentStations : lab.mode = .running ∧ lab.stb.sweepTimer ≠ none := by
  decide +kernel

theorem witness_LinkReportsTaken :
    (State.reset.mode = .running ∧ (uplinkRec State.reset 0).link = false)
      ∧ (lab.mode = .running ∧ (uplinkRec lab 0).link = true ∧ awaitsReset 0 lab = false ∧ usable lab 0 = true)
      ∧ usable (updUplink 0 (fun r => { r with enabled := false }) lab) 0 = false
      ∧ (resetAnswered.mode = .running ∧ (uplinkRec resetAnswered 0).link = true
        ∧ usable resetAnswered 0 = true ∧ awaitsReset 0 resetAnswered = true) := by decide +kernel

/-! #### Requests -/

theorem lab_fromManager : FromManager manager 0 lab := by
  unfold FromManager ServiceFree; dsimp only [PortOpen]; decide +kernel

theorem lab_fromBay : FromBay (blade 5) 5 lab ∧ FromBay (blade 7) 7 lab ∧ FromBay (blade 2) 2 lab := by
  unfold FromBay ServiceFree; dsimp only [PortOpen]; decide +kernel

theorem witness_ReadsAnswerTheirRecords :
    FromManager manager 0 lab ∧ FromBay (blade 5) 5 lab ∧ (0x3FF : Word16).toNat ≤ 1023
      ∧ 1023 < (0x400 : Word16).toNat :=
  ⟨lab_fromManager, lab_fromBay.1, by decide +kernel⟩

theorem witness_EventRequestsCarriedOut :
    FromManager manager 0 lab ∧ (1023 : Word16).toNat < 1024 ∧ 1024 ≤ (1024 : Word16).toNat
      ∧ asUplink 1 = some 1 ∧ 2 ≤ (2 : Byte).toNat :=
  ⟨lab_fromManager, by decide +kernel⟩

theorem witness_BayPolicySet :
    FromManager manager 0 lab ∧ WaitListLaw lab ∧ bayState lab 3 = .waitPower ∧ bayState lab 2 ≠ .waitPower
      ∧ hasMain (bayState lab 5) = true ∧ (bayRec lab 5).adopted = false
      ∧ FromManager manager 0 held ∧ held.pbu.seq = .idle
      ∧ 16 ≤ (16 : Byte).toNat ∧ 2 ≤ (2 : Byte).toNat ∧ 3 ≤ (3 : Byte).toNat :=
  ⟨lab_fromManager, by unfold WaitListLaw before; decide +kernel, by decide +kernel, by decide +kernel,
    by decide +kernel, by decide +kernel, lab_fromManager, by decide +kernel, by decide +kernel⟩

theorem witness_WindowLoaded :
    FromManager manager 0 lab ∧ StationLaw lab ∧ (0 : Byte).toNat ≤ (16 : Byte).toNat
      ∧ (16 : Byte).toNat ≤ 16 ∧ (63 : Byte).toNat ≤ 63 ∧ 63 < (64 : Byte).toNat ∧ 16 < (17 : Byte).toNat :=
  ⟨lab_fromManager, lab_stationLaw, by decide +kernel⟩

/-- R125: of two STATIC entries of one bay that a window gives one key, that of the lower index stays. -/
theorem test_clashing_statics :
    let s : State := { lab with stb := { lab.stb with
      places := [station 3 0x020000000002 1546 2 .fixed, station 8 0x020000000002 522 2 .fixed] } }
    let t := after (.loadWindow manager 2 4 8 0 40) s
    t.stb.places = [{ index := 3, entry := { address := 0x020000000002, chassisTag := 522, bay := 2
                                             bladeTag := 1546, kind := .fixed } }]
      ∧ flagRec t 9 = { raised := true, cause := some (.translateDrop 2 true) } := by decide +kernel

theorem witness_PowerRequestsQueued :
    FromManager manager 0 lab ∧ FromManager manager 0 held ∧ WaitListLaw lab ∧ held.pbu.seq = .idle
      ∧ lab.pbu.seq ≠ .idle ∧ bayState lab 2 = .standby ∧ isComplete lab (slotOfBay 2) = true
      ∧ isComplete (updSlot 2 (fun _ => resetSlot) lab) (slotOfBay 2) = false ∧ bayState lab 3 ≠ .standby
      ∧ FromBay (blade 2) 2 lab ∧ FromBay (blade 5) 5 lab :=
  ⟨lab_fromManager, lab_fromManager, by unfold WaitListLaw before; decide +kernel, by decide +kernel,
    by decide +kernel, by decide +kernel, by decide +kernel, by decide +kernel, by decide +kernel,
    lab_fromBay.2.2, lab_fromBay.1⟩

theorem witness_PowerTakenOff :
    FromManager manager 0 lab ∧ (bayState lab 4 = .ramping ∧ bayState lab 5 = .poweredOn ∧ bayState lab 7 = .stopping)
      ∧ bayState lab 3 = .waitPower ∧ (hasMain (bayState lab 2) = false ∧ bayState lab 2 ≠ .waitPower)
      ∧ (FromBay (blade 5) 5 lab ∧ isUp (bayState lab 5) = true) ∧ (FromBay (blade 7) 7 lab)
      ∧ FromBay (blade 2) 2 lab ∧ isUp (bayState lab 2) = false :=
  ⟨lab_fromManager, by decide +kernel, by decide +kernel, by decide +kernel,
    ⟨lab_fromBay.1, by decide +kernel⟩, lab_fromBay.2.1, lab_fromBay.2.2, by decide +kernel⟩

theorem witness_MaintenanceAndFaultRequests :
    FromManager manager 0 lab ∧ ScanLaw lab ∧ bayState lab 5 ≠ .empty ∧ bayState lab 5 ≠ .maint
      ∧ bayState lab 9 = .maint ∧ bayState lab 0 = .empty ∧ bayState lab 8 = .fault :=
  ⟨lab_fromManager, lab_scanLaw, by decide +kernel⟩

/-- A bay in ON has fallen back to ANNOUNCE. -/
def fallenBack : State :=
  updSlot 5 (fun r => { r with source := some .announce, status := .none, failures := 4 }) lab

theorem witness_RescanAndAnnounce :
    FromManager manager 0 lab ∧ ScanLaw lab
      ∧ ((slotRec lab 5).present = true ∧ (∀ b, slotOfBay b = 5 → bayState lab b ≠ .maint))
      ∧ ((slotRec lab 16).present = true ∧ slotOfPsu 0 = 16 ∧ (supplyRec lab 0).present = true
        ∧ (slotRec lab 16).status = .complete)
      ∧ (slotRec lab 25).present = false ∧ slotOfBay 9 = 9 ∧ bayState lab 9 = .maint
      ∧ FromBay (blade 5) 5 fallenBack ∧ (slotRec fallenBack (slotOfBay 5)).source = some .announce
      ∧ imageFailure .bay (bladeImage 2000 50) = none ∧ imageFailure .bay (bladeImage 2001 50) ≠ none
      ∧ FromBay (blade 5) 5 lab ∧ (slotRec lab (slotOfBay 5)).source ≠ some .announce :=
  ⟨lab_fromManager, lab_scanLaw, by decide +kernel, by decide +kernel, by decide +kernel, by decide +kernel,
    by decide +kernel, lab_fromBay.1, by decide +kernel, by decide +kernel, by decide +kernel, lab_fromBay.1,
    by decide +kernel⟩

theorem witness_PowerPolicyAndGateSet :
    FromManager manager 0 lab ∧ asRedundancy 2 = some .half ∧ 2 < (3 : Byte).toNat
      ∧ asGate 1 = some .closed ∧ 1 < (2 : Byte).toNat ∧ lab.pbu.emg.phase = .none ∧ held.pbu.hold = true
      ∧ FromManager manager 0 (emergencyIn .grace none (some 100))
      ∧ (emergencyIn .grace none (some 100)).pbu.emg.phase = .grace
      ∧ (emergencyIn .exhausted none none).pbu.emg.phase = .exhausted :=
  ⟨lab_fromManager, by decide +kernel, by decide +kernel, by decide +kernel, by decide +kernel,
    by decide +kernel, by decide +kernel, lab_fromManager, by decide +kernel⟩

theorem witness_CurvesAndZonesSet :
    FromManager manager 0 lab ∧ asZone 2 = some 2 ∧ asZone 3 = none ∧ asMode 2 = some .forced ∧ asMode 3 = none
      ∧ (zoneRec lab 2).curve = []
      ∧ (zoneRec (updZone 2 (fun r => { r with curve := falling }) lab) 2).curve ≠ []
      ∧ (falling.Pairwise fun p q => p.margin < q.margin) ∧ falling.length < 256 :=
  ⟨lab_fromManager, by decide +kernel⟩

theorem witness_FanSettingsAndThermalReports :
    FromManager manager 0 lab ∧ asFan 5 = some 5 ∧ asFan 6 = none ∧ asZone 0 = some 0
      ∧ FromBay (blade 5) 5 lab ∧ isUp (bayState lab 5) = true
      ∧ FromBay (blade 2) 2 lab ∧ isUp (bayState lab 2) = false ∧ (1 : Byte).toNat < 2 ∧ 2 ≤ (2 : Byte).toNat :=
  ⟨lab_fromManager, by decide +kernel, by decide +kernel, by decide +kernel, lab_fromBay.1, by decide +kernel,
    lab_fromBay.2.2, by decide +kernel⟩

/-- Uplink 0 asks that uplink 1 keep or lose its right, and a request of uplink 1 waits behind. -/
def contested (right : Byte) : State :=
  { lab with fbm := { lab.fbm with
      svc := { lab.fbm.svc with
        frames := [{ arrival := .uplink 0, frame := requestFrame lab manager (.setUplink 1 0 right) },
          { arrival := .uplink 1, frame := request }], held := 2 } } }

/-- R153: the loss of the right bars the frames that wait, and nothing else does. -/
theorem test_waiting_frames_barred :
    (after .serviceFrameTaken (contested 1)).fbm.svc.frames = [{ arrival := .uplink 1, frame := request, barred := true }]
      ∧ (after .serviceFrameTaken (contested 0)).fbm.svc.frames = [{ arrival := .uplink 1, frame := request }] := by
  decide +kernel

/-- A barred frame of uplink 1, which holds the right again. -/
def barredFrame : State :=
  { lab with fbm := { lab.fbm with
      svc := { lab.fbm.svc with frames := [{ arrival := .uplink 1, frame := request, barred := true }], held := 1 } } }

/-- R153: a barred frame is refused at its take although its uplink holds the right again. -/
theorem test_barred_frame_refused :
    let t := after .serviceFrameTaken barredFrame
    portRefuses barredFrame (.uplink 1) = false ∧ (uplinkRec t 1).refused = (uplinkRec lab 1).refused + 1
      ∧ t.fbm.svc.frames = [] ∧ queueOf t (.uplink 1) = queueOf lab (.uplink 1) := by decide +kernel

theorem witness_UplinksAndQuotasSet :
    FromManager manager 0 lab ∧ ((uplinkRec lab 1).enabled = true ∧ (uplinkRec lab 1).right = true)
      ∧ usable lab 1 = true ∧ usable (updUplink 1 (fun r => { r with link := false }) lab) 1 = false
      ∧ asQueue 17 = some (.egress (.uplink 1)) ∧ asQueue 16 = some (.egress (.uplink 0))
      ∧ min (13 : Word16).toNat 2048 = 13 ∧ min (12 : Word16).toNat 2048 < 13 ∧ 18 ≤ (18 : Byte).toNat
      ∧ (∀ r ∈ [0, 1], serviceReady (contested r) = true ∧ portRefuses (contested r) (.uplink 0) = false
        ∧ (contested r).fbm.svc.frames.head?
            = some { arrival := .uplink 0, frame := requestFrame (contested r) manager (.setUplink 1 0 r) }) :=
  ⟨lab_fromManager, by decide +kernel⟩

/-- The first `n` places hold learned entries. -/
def crowd (n : Nat) : List Place :=
  (List.range n).map fun i => station i (BitVec.ofNat 48 (0x020000010000 + i)) 1 5 (.dynamic 0)

/-- The table is full of learned entries. -/
def crowded : State := { lab with stb := { lab.stb with places := crowd 1024 } }

theorem crowded_full : FromManager manager 0 crowded ∧ lowestEmpty crowded = none :=
  ⟨by unfold FromManager ServiceFree; dsimp only [PortOpen]; decide +kernel, by decide +kernel⟩

theorem witness_AlertsFollowNewFlags :
    (alerting.sve.alertTarget = some (0, 0x020000000001) ∧ usable alerting 0 = true
        ∧ (∀ c, (flagRec alerting c).raised = false ∧ Bank.read alerting.sve.unmasked c = true)
        ∧ (queueOf alerting (.uplink 0)).held + 1 ≤ (queueOf alerting (.uplink 0)).quota ∧ 1 ≤ alerting.fbm.free)
      ∧ lab.sve.alertTarget = none
      ∧ (alerting.mode = .running ∧ (fanRec alerting 0).tachTimer ≠ none ∧ (fanRec alerting 0).state = .running
        ∧ (fanRec (after (.tachWindowExpiry 0) (updFan 0 (fun r => { r with count := 1 }) alerting)) 0).state = .failed
        ∧ (fanRec (after (.tachWindowExpiry 0)
            (updFan 0 (fun r => { r with state := .failed, good := 2, count := 200 }) alerting)) 0).state = .running)
      ∧ (State.reset.mode = .running ∧ (uplinkRec State.reset 0).link = false) ∧ bayState alerting 4 = .ramping
      ∧ forwardTag (window overflowing 5) (frameTag (.bay 5) (frameTo 0x020000000099 1 3584)) = none
      ∧ (isGroup 0x020000000099 = false ∧ findStation crowded 0x020000000099 9 = none ∧ lowestEmpty crowded = none)
      ∧ (State.reset.pbu.emg.phase = .grace ∧ State.reset.pbu.emg.graceTimer ≠ none ∧ chooseShed State.reset = none)
      ∧ bayState lab 8 = .fault := by decide +kernel

theorem crowd_ordered (n : Nat) (hn : n ≤ 1024) :
    ((crowd n).Pairwise fun p q => p.index < q.index) ∧ keysDistinct (crowd n)
      ∧ ∀ p ∈ crowd n, p.index < 1024 ∧ p.entry.bay = 5 ∧ p.entry.bladeTag = 1 ∧ p.entry.chassisTag = 1 := by
  refine ⟨List.pairwise_map.2 (List.pairwise_lt_range.imp fun h => h), ?_, ?_⟩
  · refine List.pairwise_map.2 (List.Pairwise.imp_of_mem ?_ List.pairwise_lt_range)
    intro i j hi hj hij h
    have h1 := List.mem_range.1 hi
    have h2 := List.mem_range.1 hj
    have h3 := congrArg BitVec.toNat h.1
    simp [station] at h3
    omega
  · intro p hp
    obtain ⟨i, hi, rfl⟩ := List.mem_map.1 hp
    exact ⟨Nat.lt_of_lt_of_le (List.mem_range.1 hi) hn, rfl, rfl, rfl⟩

theorem crowd_stationLaw (n : Nat) (hn : n ≤ 1024) (s : State) (hp : s.stb.places = crowd n)
    (hw : forwardTag (window s 5) 1 = some 1) : StationLaw s := by
  have h := crowd_ordered n hn
  rw [← hp] at h
  refine ⟨h.1, fun p m => (h.2.2 p m).1, h.2.1, fun p m => ?_⟩
  obtain ⟨-, h1, h2, h3⟩ := h.2.2 p m
  rw [h1, h2, h3, hw]

/-- The full table is in order. -/
theorem crowded_stationLaw : StationLaw crowded :=
  crowd_stationLaw 1024 (by decide) crowded (by simp only [crowded]) (by decide +kernel)

theorem witness_StationRequestsCarriedOut :
    FromManager manager 0 lab ∧ (asBay 15 = some 15 ∧ asBay 16 = none)
      ∧ forwardTag (window lab 15) 4095 = some 4095 ∧ 4095 < (4096 : Word16).toNat
      ∧ forwardTag (window overflowing 5) 3584 = none
      ∧ findStation lab 0x020000000005 9 = some learned ∧ findStation lab 0x020000000002 0 = some fixedPlace
      ∧ findStation lab 0x020000000002 9 = none ∧ lowestEmpty lab = some 2
      ∧ FromManager manager 0 crowded ∧ lowestEmpty crowded = none ∧ StationLaw lab ∧ StationLaw crowded :=
  ⟨lab_fromManager, by decide +kernel, by decide +kernel, by decide +kernel, by decide +kernel,
    by decide +kernel, by decide +kernel, by decide +kernel, by decide +kernel, crowded_full.1, crowded_full.2,
    lab_stationLaw, crowded_stationLaw⟩

/-- The request stands at the head of the service input queue. -/
def asked : State :=
  { lab with fbm := { lab.fbm with
      svc := { lab.fbm.svc with frames := [{ arrival := .uplink 0, frame := request }], held := 1 } } }

/-- The lab with the link of uplink 0 down. -/
def unplugged : State := updUplink 0 (fun r => { r with link := false }) lab

/-- The lab with no free cell in the pool. -/
def starved : State := { lab with fbm := { lab.fbm with free := 0 } }

/-- R157: a request on an empty queue is admitted, counted and taken; its cells are back before the response takes
one. -/
theorem test_request_admitted_and_taken :
    let t := after (.readPower manager) lab
    t.fbm.svc = { lab.fbm.svc with enqueued := 1 } ∧ t.fbm.free = lab.fbm.free - 1
      ∧ (queueOf t (.uplink 0)).enqueued = (queueOf lab (.uplink 0)).enqueued + 1 := by decide +kernel

/-- R157: with too few free cells the frame of a request is dropped whole, counted and reported. -/
theorem test_request_dropped :
    let t := after (.readPower manager) starved
    t.fbm.svc = { lab.fbm.svc with dropped := 1 } ∧ queueOf t (.uplink 0) = queueOf lab (.uplink 0)
      ∧ flagRec t 7 = { raised := true, cause := some (.queueDrop .svc) } := by decide +kernel

/-- R157: a request behind another frame is admitted and waits. -/
theorem test_request_waits :
    let t := after (.readOwn (blade 5)) asked
    t.fbm.svc.frames.length = 2 ∧ t.fbm.svc.enqueued = 1 ∧ t.fbm.free = asked.fbm.free - 1
      ∧ queueOf t (.bay 5) = queueOf lab (.bay 5) := by decide +kernel

/-- The request to reset stands at the head of the service input queue, and its uplink has gone down. -/
def resetAsked : State :=
  { unplugged with fbm := { unplugged.fbm with
      svc := { unplugged.fbm.svc with
        frames := [{ arrival := .uplink 0, frame := requestFrame unplugged manager .softReset }], held := 1 } } }

theorem witness_SoftResetTaken :
    (FromManager manager 0 lab ∧ FromManager manager 0 { lab with fbm := { lab.fbm with free := 7 } }
        ∧ FromManager manager 0 (putQueue (.uplink 0) { resetQueue 512 with held := 512 } lab))
      ∧ (queueOf lab (.uplink 0)).held + copyCells (responseTo manager 31 0 [] lab) ≤ 512
      ∧ copyCells (responseTo manager 31 0 [] lab) = 1
      ∧ (serviceReady resetAsked = true ∧ resetAsked.fbm.svc.frames.head?
            = some { arrival := manager.arrival, frame := requestFrame resetAsked manager .softReset }
        ∧ (uplinkRec resetAsked 0).enabled = true ∧ (uplinkRec resetAsked 0).right = true
        ∧ (uplinkRec resetAsked 0).link = false)
      ∧ resetAnswered.sve.softReset = some 0 ∧ (Instr.readPower manager).request? ≠ none
      ∧ resetAnswered.mode = .running ∧ PortOpen manager.arrival resetAnswered := by
  refine ⟨⟨lab_fromManager, ?_, ?_⟩, by decide +kernel, by decide +kernel, by decide +kernel, by decide +kernel,
    by decide +kernel, by decide +kernel, by show _ ∧ _; decide +kernel⟩
  all_goals unfold FromManager ServiceFree; dsimp only [PortOpen]; decide +kernel

theorem witness_EveryCommandAnswersNext :
    WithoutEffect .controlTimerExpiry inReset ∧ WithoutEffect (.rampTimerExpiry 5) lab
      ∧ WithoutEffect (.readPower manager) unplugged ∧ WithoutEffect (.setAging manager 3) resetAsked
      ∧ WithoutEffect .serviceFrameTaken lab ∧ WithoutEffect (.bayPortFrame 5 { toNobody with checkOk := false }) lab :=
  ⟨.inl (by decide +kernel), .inr (.inl (by decide +kernel)),
    .inr ⟨_, rfl, .inr (by decide +kernel), 0, rfl, by decide +kernel⟩,
    .inr ⟨_, rfl, .inr (by decide +kernel), 0, rfl, by decide +kernel⟩,
    .inr (.inr (by decide +kernel)), .inr (by show _ = _; decide +kernel)⟩

theorem witness_ServiceFramesAreTheirCommands :
    ((Instr.readPower manager).request? = some (manager, .readPower)
        ∧ (Instr.readPower manager).wellFormed = true ∧ serviceReady asked = true
        ∧ asked.fbm.svc.frames.head?
            = some { arrival := manager.arrival, frame := requestFrame asked manager .readPower })
      ∧ (serviceReady lab = true ∧ PortOpen manager.arrival lab ∧ lab.fbm.svc.frames = []
        ∧ ServiceRoom (requestFrame lab manager .readPower) lab)
      ∧ (asked.mode = .running ∧ PortOpen (blade 5).arrival asked ∧ NotAtHead (blade 5) .readOwn asked
        ∧ asked.fbm.svc.frames ≠ [])
      ∧ (starved.mode = .running ∧ PortOpen manager.arrival starved ∧ NotAtHead manager .readPower starved
        ∧ ¬ServiceRoom (requestFrame starved manager .readPower) starved)
      ∧ NotAtHead manager .readPower resetAnswered
      ∧ serviceReady inReset = false ∧ lab.fbm.svc.frames = [] := by
  refine ⟨by decide +kernel, ⟨by decide +kernel, by show _ ∧ _; decide +kernel, by decide +kernel,
      by unfold ServiceRoom; decide +kernel⟩,
    ⟨by decide +kernel, by show _ = _; decide +kernel, .inr (by decide +kernel), by decide +kernel⟩,
    ⟨by decide +kernel, by show _ ∧ _; decide +kernel, .inr (by decide +kernel),
      by unfold ServiceRoom; decide +kernel⟩,
    .inl (by decide +kernel), by decide +kernel⟩

theorem witness_ServiceFramesCheckedInOrder :
    (serviceReady asked = true ∧ asked.fbm.svc.frames.head? = some { arrival := .uplink 0, frame := request }
        ∧ portRefuses asked (.uplink 0) = false ∧ headerVersion request = 1 ∧ lengthAgrees request = true
        ∧ headerKind request = 1 ∧ headerCode request = 3)
      ∧ (requestCode .readPower < 33 ∧ 33 ≤ requestCode .readOwn ∧ namesExist (.readBay 16) = false
        ∧ (Instr.readPower manager).wellFormed = true ∧ (Instr.readOwn (blade 9)).wellFormed = true)
      ∧ (FromBay (blade 5) 5 lab ∧ FromManager manager 0 lab)
      ∧ (serviceReady barredFrame = true ∧ barredFrame.fbm.svc.frames.head?.map (·.barred) = some true)
      ∧ (NotAtHead (blade 9) .readOwn lab ∧ portRefuses lab (.bay 9) = true ∧ portRefuses lab (.bay 0) = true)
      ∧ (NotAtHead manager .readPower (updUplink 0 (fun r => { r with right := false }) lab)
        ∧ portRefuses (updUplink 0 (fun r => { r with right := false }) lab) (.uplink 0) = true
        ∧ (uplinkRec (updUplink 0 (fun r => { r with right := false }) lab) 0).link = true) :=
  ⟨by decide +kernel, by decide +kernel, ⟨lab_fromBay.1, lab_fromManager⟩, by decide +kernel,
    ⟨.inr (by decide +kernel), by decide +kernel⟩, .inr (by decide +kernel), by decide +kernel⟩

theorem witness_BodiesReadBack :
    (Request.loadCurve 2 (List.replicate 255 (1, 2))).wellFormed = true ∧ Request.readPower.wellFormed = true := by
  decide +kernel

theorem witness_ReverseTranslation :
    windowValid fifth = true ∧ windowValid ⟨0, 0, 0, 8⟩ = true ∧ windowValid ⟨16, 16, 63, 63⟩ = true
      ∧ reverseTag fifth 10768 = some 3600 ∧ forwardTag fifth 4095 = some 11263
      ∧ (fifth.bs ≤ fifth.cs ∧ (⟨2, 4, 62, 60⟩ : Window).bs ≤ 4)
      ∧ forwardTag ⟨2, 4, 62, 60⟩ 511 = some 511 ∧ forwardTag ⟨2, 4, 62, 60⟩ 512 = some 15872
      ∧ forwardTag ⟨2, 4, 63, 60⟩ 768 = none ∧ forwardTag ⟨2, 4, 62, 60⟩ 2047 = some 16383
      ∧ forwardTag ⟨2, 4, 62, 60⟩ 2048 = none := by decide +kernel

theorem witness_ShedOrder :
    RampLaw lab ∧ bayState lab 4 = .ramping
      ∧ (∀ c, bayState (updBay 4 (fun r => { r with state := .standby }) lab) c ≠ .ramping)
      ∧ chooseShed (updBay 4 (fun r => { r with state := .standby }) lab) = some 7
      ∧ (∀ c, hasMain (bayState State.reset c) = false) :=
  ⟨by unfold RampLaw; decide +kernel, by decide +kernel⟩

theorem witness_CurveDemand :
    (falling.Pairwise fun p q => p.margin < q.margin)
      ∧ classIn (updThermal 5 (fun _ => { margin := some 45, critical := false, current := true, age := 0 }) lab)
          0 5 = some .reporting := by decide +kernel

/-! #### Steps that keep the laws -/

/-- Frames wait behind a lost power good: a busy step. -/
def busy : State := { lab with pending := [.bayPgLow 5] }

/-- No timer of the part after reset is at 0. -/
theorem reset_noneRunOut : ∀ c, ¬RunOut State.reset c := by
  have h : (∀ b, (bayRec State.reset b).insertTimer ≠ some 0 ∧ (bayRec State.reset b).removeTimer ≠ some 0
        ∧ (bayRec State.reset b).rampTimer ≠ some 0 ∧ (bayRec State.reset b).stopTimer ≠ some 0)
      ∧ (∀ p, (supplyRec State.reset p).insertTimer ≠ some 0 ∧ (supplyRec State.reset p).removeTimer ≠ some 0)
      ∧ (∀ k, (slotRec State.reset k).retryTimer ≠ some 0)
      ∧ (∀ f, (fanRec State.reset f).insertTimer ≠ some 0 ∧ (fanRec State.reset f).removeTimer ≠ some 0
        ∧ (fanRec State.reset f).tachTimer ≠ some 0) := by decide +kernel
  intro c hc
  cases c <;> first
    | exact hc
    | exact (h.1 _).1 hc | exact (h.1 _).2.1 hc | exact (h.1 _).2.2.1 hc | exact (h.1 _).2.2.2 hc
    | exact (h.2.1 _).1 hc | exact (h.2.1 _).2 hc | exact h.2.2.1 _ hc
    | exact (h.2.2.2 _).1 hc | exact (h.2.2.2 _).2.1 hc | exact (h.2.2.2 _).2.2 hc
    | exact absurd hc (by show ¬(_ = _); decide +kernel)
    | cases hc

theorem witness_QuietPartRunsItsTimers :
    (State.reset.pending = [] ∧ State.reset.mode = .running ∧ handOver State.reset = none
        ∧ ∀ c, ¬RunOut State.reset c)
      ∧ (lab.pending = [] ∧ lab.mode = .running ∧ handOver lab = none ∧ RunOut lab (.bayInsertionDebounceExpiry 0))
      ∧ (admitting 3 false 0).pbu.seq = .admitting 3
      ∧ (lab.pbu.seq = .ramp 4 ∧ (emergencyIn .shedding (some 4) none).pbu.emg.phase = .shedding
        ∧ (emergencyIn .shedding (some 4) none).pbu.emg.shedBay ≠ none)
      ∧ asked.pbu.emg.phase ≠ .shedding ∧ serviceReady asked = true ∧ asked.fbm.svc.frames ≠ [] :=
  ⟨⟨by decide +kernel, by decide +kernel, by decide +kernel, reset_noneRunOut⟩,
    ⟨by decide +kernel, by decide +kernel, by decide +kernel, by show _ = _; decide +kernel⟩, by decide +kernel⟩

theorem witness_FrameBufferIsConserved :
    PoolLaw busy ∧ DynamicLaw busy ∧ ServedLaw busy ∧ ∃ t, step busy = .next t :=
  ⟨lab_poolLaw, by unfold DynamicLaw; decide +kernel, by unfold ServedLaw; decide +kernel, _, rfl⟩

theorem witness_StationTableStaysSound : StationLaw busy ∧ DynamicLaw busy ∧ ∃ t, step busy = .next t :=
  ⟨lab_stationLaw, by unfold DynamicLaw; decide +kernel, _, rfl⟩

theorem witness_AdmissionStaysOrdered : WaitListLaw busy ∧ RampLaw busy ∧ ∃ t, step busy = .next t :=
  ⟨by unfold WaitListLaw before; decide +kernel, by unfold RampLaw; decide +kernel, _, rfl⟩

theorem witness_PowerStaysInBudget : BudgetLaw busy ∧ EmergencyLaw busy ∧ ∃ t, step busy = .next t :=
  ⟨by unfold BudgetLaw; decide +kernel, by unfold EmergencyLaw; decide +kernel, _, rfl⟩

theorem witness_OutputsFollowTheRecords :
    LinesLaw busy ∧ DriveLaw busy ∧ CriticalLaw busy ∧ CurveLaw busy ∧ ManagementLaw busy
      ∧ ∃ t, step busy = .next t :=
  ⟨by unfold LinesLaw; decide +kernel, by unfold DriveLaw; decide +kernel,
    by unfold CriticalLaw; decide +kernel, by unfold CurveLaw; decide +kernel,
    by unfold ManagementLaw; decide +kernel, _, rfl⟩

theorem witness_ScanningStaysOrderly : ScanLaw busy ∧ IdentLaw busy ∧ ∃ t, step busy = .next t :=
  ⟨lab_scanLaw, lab_identLaw, _, rfl⟩

theorem witness_FiguresStayCurrent : FiguresLaw busy ∧ ∃ t, step busy = .next t := ⟨lab_figuresLaw, _, rfl⟩

/-- The head of the list waits under the adoption hold, whose timer is about to expire. -/
theorem witness_NoAdmissibleHeadWaits :
    FiguresLaw held ∧ WaitListLaw held ∧ HeadLaw held ∧ held.pbu.seq = .idle ∧ held.pbu.waitList ≠ []
      ∧ ∃ t, step { held with pending := [.adoptionHoldTimerExpiry] } = .next t :=
  ⟨lab_figuresLaw, by unfold WaitListLaw before; decide +kernel,
    fun _ _ _ _ h => by have := h.2.2.1; revert this; decide +kernel, by decide +kernel,
    by decide +kernel, _, rfl⟩

end Sys2Proof.Tests
end

section
/-! SUPPORT. Frames read: a record that a frame does not list is the same before and after. -/

namespace Sys2Proof.Machine

section
variable {l : List Part} {s t : State} (h : KeepsAllBut l s t)
include h

theorem KeepsAllBut.mode_eq (hl : Part.mode ∉ l := by decide) : t.mode = s.mode := h .mode hl

theorem KeepsAllBut.bayRec_eq (b : Bay) (hl : Part.bays ∉ l := by decide) : bayRec t b = bayRec s b :=
  bayRec_congr (h .bays hl) b

theorem KeepsAllBut.bayState_eq (b : Bay) (hl : Part.bays ∉ l := by decide) : bayState t b = bayState s b := by
  rw [bayState, h.bayRec_eq b hl, bayState]

theorem KeepsAllBut.slotRec_eq (k : Slot) (hl : Part.slots ∉ l := by decide) : slotRec t k = slotRec s k :=
  slotRec_congr (h .slots hl) k

theorem KeepsAllBut.isComplete_eq (k : Slot) (hl : Part.slots ∉ l := by decide) : isComplete t k = isComplete s k := by
  rw [isComplete, h.slotRec_eq k hl, isComplete]

theorem KeepsAllBut.supplyRec_eq (p : Psu) (hl : Part.supplies ∉ l := by decide) : supplyRec t p = supplyRec s p := by
  rw [supplyRec, h .supplies hl, supplyRec]

theorem KeepsAllBut.thermalEntry_eq (b : Bay) (hl : Part.thermal ∉ l := by decide) :
    thermalEntry t b = thermalEntry s b := by rw [thermalEntry, h .thermal hl, thermalEntry]

theorem KeepsAllBut.zoneRec_eq (z : Zone) (hl : Part.zones ∉ l := by decide) : zoneRec t z = zoneRec s z := by
  rw [zoneRec, h .zones hl, zoneRec]

theorem KeepsAllBut.zoneAir_eq (z : Zone) (hl : Part.air ∉ l := by decide) : zoneAir t z = zoneAir s z := by
  rw [zoneAir, h .air hl, zoneAir]

theorem KeepsAllBut.fanRec_eq (f : Fan) (hl : Part.fans ∉ l := by decide) : fanRec t f = fanRec s f := by
  rw [fanRec, h .fans hl, fanRec]

theorem KeepsAllBut.window_eq (b : Bay) (hl : Part.windows ∉ l := by decide) : window t b = window s b := by
  rw [window, h .windows hl, window]

theorem KeepsAllBut.uplinkRec_eq (u : Uplink) (hl : Part.uplinks ∉ l := by decide) :
    uplinkRec t u = uplinkRec s u := by rw [uplinkRec, h .uplinks hl, uplinkRec]

theorem KeepsAllBut.usable_eq (u : Uplink) (hl : Part.uplinks ∉ l := by decide) : usable t u = usable s u :=
  usable_congr (h .uplinks hl) u

theorem KeepsAllBut.flagRec_eq (c : EventClass) (hl : Part.flags ∉ l := by decide) : flagRec t c = flagRec s c := by
  rw [flagRec, h .flags hl, flagRec]

theorem KeepsAllBut.bayQueue_eq (b : Bay) (hl : Part.bayQueues ∉ l := by decide) :
    queueOf t (.bay b) = queueOf s (.bay b) := by rw [queueOf, h .bayQueues hl, queueOf]

theorem KeepsAllBut.uplinkQueue_eq (u : Uplink) (hl : Part.uplinkQueues ∉ l := by decide) :
    queueOf t (.uplink u) = queueOf s (.uplink u) := by rw [queueOf, h .uplinkQueues hl, queueOf]

end

/-- The emergency, the gates, the hold and the policy are parts of the PBU's record; a frame that lists none of its
parts keeps it whole. -/
theorem KeepsAllBut.pbu_eq {l : List Part} {s t : State} (h : KeepsAllBut l s t)
    (hl : ∀ p ∈ [Part.supplies, .powerPolicy, .gates, .waitList, .sequencer, .emergency, .hold, .figures], p ∉ l := by
      decide) : t.pbu = s.pbu := by
  have supplies : t.pbu.supplies = s.pbu.supplies := h .supplies (hl _ (by decide))
  have policy : t.pbu.policy = s.pbu.policy := h .powerPolicy (hl _ (by decide))
  obtain ⟨ae, ae2⟩ : t.pbu.ae = s.pbu.ae ∧ t.pbu.ae2 = s.pbu.ae2 := h .gates (hl _ (by decide))
  obtain ⟨list, stamp⟩ : t.pbu.waitList = s.pbu.waitList ∧ t.pbu.nextStamp = s.pbu.nextStamp :=
    h .waitList (hl _ (by decide))
  obtain ⟨seq, gap⟩ : t.pbu.seq = s.pbu.seq ∧ t.pbu.gapTimer = s.pbu.gapTimer := h .sequencer (hl _ (by decide))
  have emg : t.pbu.emg = s.pbu.emg := h .emergency (hl _ (by decide))
  obtain ⟨hold, timer⟩ : t.pbu.hold = s.pbu.hold ∧ t.pbu.holdTimer = s.pbu.holdTimer := h .hold (hl _ (by decide))
  have figures : t.pbu.figures = s.pbu.figures := h .figures (hl _ (by decide))
  cases ht : t.pbu; cases hs : s.pbu
  simp_all

/-- What a frame says of a state that is further written where the frame allows. -/
theorem Part.same_refl (p : Part) (s : State) : p.same s s := KeepsAllBut.refl [] s p (by simp)

/-! ### Bay records but for the emergency's cause -/

theorem sameBayRecord.refl (r : BayRec) : sameBayRecord r r := rfl

theorem sameBayRecord.trans {r r' r'' : BayRec} (h : sameBayRecord r r') (k : sameBayRecord r' r'') :
    sameBayRecord r r'' := by
  unfold sameBayRecord at *
  rw [k, h]

/-- BAY_THR may follow the causes. -/
theorem sameBayRecord_followThrottle (r : BayRec) : sameBayRecord r (followThrottle r) := rfl

theorem sameBayRecord.state_eq {r r' : BayRec} (h : sameBayRecord r r') : r'.state = r.state := by rw [h]

/-- The emergency's cause and BAY_THR aside, a record may be changed on both sides. -/
theorem sameBayRecord.of_eq {r r' : BayRec} (h : r' = r) : sameBayRecord r r' := h ▸ .refl r

/-- An evaluation changes no bay but for the emergency's cause and BAY_THR (R73). -/
theorem evaluate_bays (source : EmgSource) (s : State) (b : Bay) :
    sameBayRecord (bayRec s b) (bayRec (evaluate source s) b) := by
  rw [evaluate, (evaluateHead_keeps _).bayRec_eq b]
  exact (compareBudget_inputs source (recordFigures s)).1 b

theorem evaluate_bayState (source : EmgSource) (s : State) (b : Bay) :
    bayState (evaluate source s) b = bayState s b := (evaluate_bays source s b).state_eq

/-! ### Entering a state -/

/-- A bay's record as it enters a state, its other fields just written (R26). -/
theorem bayRec_enterState_updBay (b c : Bay) (st : BayState) (f : BayRec → BayRec) (s : State) :
    bayRec (enterState b st (updBay b f s)) c
      = if c = b then followThrottle { f (bayRec s b) with state := st } else bayRec s c := by
  rw [enterState, raise_bayRec, bayRec_updBay]
  split
  · rw [bayRec_updBay_self]; rfl
  · next h => exact bayRec_updBay_ne f s h

theorem bayRec_enterState (b c : Bay) (st : BayState) (s : State) :
    bayRec (enterState b st s) c
      = if c = b then followThrottle { bayRec s b with state := st } else bayRec s c := by
  rw [enterState, raise_bayRec, bayRec_updBay]

theorem enterState_updBay_keeps (b : Bay) (st : BayState) (f : BayRec → BayRec) (s : State) :
    KeepsAllBut (.bays :: reportParts) s (enterState b st (updBay b f s)) :=
  ((updBay_keeps b f s).within (l := .bays :: reportParts)).and (enterState_keeps b st _)

end Sys2Proof.Machine
end

section
/-! SUPPORT. The standing laws of the outputs and settings (O57), kept together: one relation between two states says
that each of the five laws passes from the first to the second, and every operation of the part is shown to keep it. -/

namespace Sys2Proof.Machine

/-! ### The relation -/

/-- A bay record whose lines and grant are those of its state (R5, R20, R24). -/
def LinesTrue (r : BayRec) : Prop :=
  r.pen = hasMain r.state ∧ r.sdr = (r.state == .stopping)
    ∧ r.thr = ((r.emergencyCause || r.airflowCause) && isUp r.state) ∧ (hasMain r.state = false → r.grant = 0)

theorem linesLaw_iff (s : State) : LinesLaw s ↔ (s.mode = .running → ∀ b, LinesTrue (bayRec s b)) := Iff.rfl

/-- FAN_DRV carries what `followDrive` writes (R108). -/
def DriveTrue (r : FanRec) : Prop := r.drive = (followDrive r).drive

theorem driveLaw_iff (s : State) : DriveLaw s ↔ (s.mode = .running → ∀ f, DriveTrue (fanRec s f)) := Iff.rfl

theorem driveTrue_followDrive (r : FanRec) : DriveTrue (followDrive r) := rfl

/-- A zone in AUTO has a curve (R93, R98). -/
def CurveTrue (r : ZoneRec) : Prop := r.mode = .auto → r.curve ≠ []

/-- Each of the five laws passes from `s` to `t`. -/
structure LawsKept (s t : State) : Prop where
  lines : LinesLaw s → LinesLaw t
  drive : DriveLaw s → DriveLaw t
  critical : CriticalLaw s → CriticalLaw t
  curve : CurveLaw s → CurveLaw t
  management : ManagementLaw s → ManagementLaw t

theorem LawsKept.refl (s : State) : LawsKept s s := ⟨id, id, id, id, id⟩

theorem LawsKept.trans {s t u : State} (h : LawsKept s t) (k : LawsKept t u) : LawsKept s u :=
  ⟨k.lines ∘ h.lines, k.drive ∘ h.drive, k.critical ∘ h.critical, k.curve ∘ h.curve, k.management ∘ h.management⟩

theorem LawsKept.foldl {α : Type} {f : State → α → State} (h : ∀ s a, LawsKept s (f s a)) (as : List α) (s : State) :
    LawsKept s (as.foldl f s) := by
  induction as generalizing s with
  | nil => exact .refl s
  | cons a rest ih => exact (h s a).trans (ih _)

/-- The laws are kept where the mode stands and each record keeps its own share of them. -/
theorem LawsKept.of_records {s t : State} (mode : t.mode = s.mode)
    (lines : ∀ b, LinesTrue (bayRec s b) → LinesTrue (bayRec t b))
    (drive : ∀ f, DriveTrue (fanRec s f) → DriveTrue (fanRec t f))
    (critical : ∀ b, (bayRec s b).critical = (thermalEntry s b).critical →
      (bayRec t b).critical = (thermalEntry t b).critical)
    (curve : ∀ z, CurveTrue (zoneRec s z) → CurveTrue (zoneRec t z))
    (right : ManagementLaw s → ManagementLaw t) : LawsKept s t :=
  ⟨fun h run b => lines b (h (mode ▸ run) b), fun h run f => drive f (h (mode ▸ run) f),
    fun h b => critical b (h b), fun h z => curve z (h z), right⟩

/-- The management right depends on the uplinks alone. -/
theorem managementLaw_congr {l : List Part} {s t : State} (h : KeepsAllBut l s t)
    (hl : Part.uplinks ∉ l := by decide) (hs : ManagementLaw s) : ManagementLaw t := by
  obtain ⟨u, hu⟩ := hs
  exact ⟨u, by rw [h.uplinkRec_eq u hl, hu]⟩

/-- The parts that the five laws speak of. -/
def lawParts : List Part := [.mode, .bays, .thermal, .zones, .fans, .uplinks]

/-- An operation that touches none of those parts keeps the laws. -/
theorem LawsKept.of_keeps {l : List Part} {s t : State} (h : KeepsAllBut l s t)
    (hl : ∀ p ∈ lawParts, p ∉ l := by decide) : LawsKept s t := by
  have bays (b) := h.bayRec_eq b (hl _ (by decide))
  have thermal (b) := h.thermalEntry_eq b (hl _ (by decide))
  exact .of_records (h.mode_eq (hl _ (by decide))) (fun b => by rw [bays]; exact id)
    (fun f => by rw [h.fanRec_eq f (hl _ (by decide))]; exact id) (fun b => by rw [bays, thermal]; exact id)
    (fun z => by rw [h.zoneRec_eq z (hl _ (by decide))]; exact id) (managementLaw_congr h (hl _ (by decide)))

/-- An operation that touches none of those parts, after one that keeps the laws. -/
theorem LawsKept.and {l : List Part} {s t u : State} (h : LawsKept s t) (k : KeepsAllBut l t u)
    (hl : ∀ p ∈ lawParts, p ∉ l := by decide) : LawsKept s u := h.trans (.of_keeps k hl)

/-! ### Writes of a record -/

/-- A change of the bays and the thermal entries that keeps lines true and critical flags in agreement. -/
theorem LawsKept.of_bays {l : List Part} {s t : State} (h : KeepsAllBut l s t)
    (lines : ∀ b, LinesTrue (bayRec s b) → LinesTrue (bayRec t b))
    (critical : ∀ b, (bayRec s b).critical = (thermalEntry s b).critical →
      (bayRec t b).critical = (thermalEntry t b).critical)
    (hl : ∀ p ∈ [Part.mode, .zones, .fans, .uplinks], p ∉ l := by decide) : LawsKept s t :=
  .of_records (h.mode_eq (hl _ (by decide))) lines
    (fun f => by rw [h.fanRec_eq f (hl _ (by decide))]; exact id) critical
    (fun z => by rw [h.zoneRec_eq z (hl _ (by decide))]; exact id) (managementLaw_congr h (hl _ (by decide)))

/-- A write of one bay's record that keeps its lines true and its critical flag. -/
theorem LawsKept.updBay {b : Bay} {f : BayRec → BayRec} {s : State}
    (lines : LinesTrue (bayRec s b) → LinesTrue (followThrottle (f (bayRec s b))))
    (critical : (f (bayRec s b)).critical = (bayRec s b).critical) : LawsKept s (updBay b f s) := by
  refine .of_bays (updBay_keeps b f s) (fun c => ?_) (fun c => ?_) <;> rw [bayRec_updBay] <;> split
  · next h => subst h; exact lines
  · exact id
  · next h => subst h; exact critical.trans
  · exact id

/-- A write of fields that the laws do not speak of, or of the causes that BAY_THR follows. -/
theorem LawsKept.updBay_aside {b : Bay} {f : BayRec → BayRec} {s : State}
    (h : ∀ r, (f r).state = r.state ∧ (f r).pen = r.pen ∧ (f r).sdr = r.sdr ∧ (f r).grant = r.grant
      ∧ (f r).critical = r.critical) : LawsKept s (Machine.updBay b f s) := by
  obtain ⟨state, pen, sdr, grant, critical⟩ := h (bayRec s b)
  refine .updBay (fun ⟨p, d, _, g⟩ => ⟨?_, ?_, rfl, ?_⟩) critical
  · simp [followThrottle, state, pen, p]
  · simp [followThrottle, state, sdr, d]
  · simpa [followThrottle, state, grant] using g

/-- A write of every bay's record that keeps lines true and critical flags. -/
theorem LawsKept.updBays {f : Bay → BayRec → BayRec} (s : State)
    (lines : ∀ b r, LinesTrue r → LinesTrue (followThrottle (f b r)))
    (critical : ∀ b r, (f b r).critical = r.critical) : LawsKept s (updBays f s) := by
  refine .of_bays (updBays_keeps f s) (fun c => ?_) (fun c => ?_) <;> rw [bayRec_updBays]
  · exact lines c _
  · exact (critical c _).trans

/-- A change of fan records alone, after which FAN_DRV carries what it should. -/
theorem LawsKept.of_fans {s t : State} (h : KeepsAllBut [.fans] s t)
    (drive : ∀ f, DriveTrue (fanRec s f) → DriveTrue (fanRec t f)) : LawsKept s t := by
  have bays (b) := h.bayRec_eq b
  have thermal (b) := h.thermalEntry_eq b
  exact .of_records h.mode_eq (fun b => by rw [bays]; exact id) drive (fun b => by rw [bays, thermal]; exact id)
    (fun z => by rw [h.zoneRec_eq z]; exact id) (managementLaw_congr h)

theorem updFan_lawsKept (i : Fan) (f : FanRec → FanRec) (s : State) : LawsKept s (updFan i f s) := by
  refine .of_fans (updFan_keeps i f s) fun j => ?_
  rw [fanRec_updFan]
  split
  · exact fun _ => driveTrue_followDrive _
  · exact id

theorem updFans_lawsKept (f : Fan → FanRec → FanRec) (s : State) : LawsKept s (updFans f s) :=
  .of_fans (updFans_keeps f s) fun j _ => by rw [fanRec_updFans]; exact driveTrue_followDrive _

/-- A change of zone records alone that leaves a zone in AUTO with a curve. -/
theorem LawsKept.of_zones {s t : State} (h : KeepsAllBut [.zones] s t)
    (curve : ∀ z, CurveTrue (zoneRec s z) → CurveTrue (zoneRec t z)) : LawsKept s t := by
  have bays (b) := h.bayRec_eq b
  have thermal (b) := h.thermalEntry_eq b
  exact .of_records h.mode_eq (fun b => by rw [bays]; exact id) (fun f => by rw [h.fanRec_eq f]; exact id)
    (fun b => by rw [bays, thermal]; exact id) curve (managementLaw_congr h)

/-- A write of one zone's record that leaves it with a curve where it is in AUTO. -/
theorem LawsKept.updZone {z : Zone} {f : ZoneRec → ZoneRec} {s : State}
    (curve : CurveTrue (zoneRec s z) → CurveTrue (f (zoneRec s z))) : LawsKept s (updZone z f s) := by
  refine .of_zones (updZone_keeps z f s) fun y => ?_
  rw [zoneRec_updZone]
  split
  · next h => subst h; exact curve
  · exact id

/-- A change of uplink records alone that leaves the management right with an uplink. -/
theorem LawsKept.of_uplinks {s t : State} (h : KeepsAllBut [.uplinks] s t)
    (right : ManagementLaw s → ManagementLaw t) : LawsKept s t := by
  have bays (b) := h.bayRec_eq b
  have thermal (b) := h.thermalEntry_eq b
  exact .of_records h.mode_eq (fun b => by rw [bays]; exact id) (fun f => by rw [h.fanRec_eq f]; exact id)
    (fun b => by rw [bays, thermal]; exact id) (fun z => by rw [h.zoneRec_eq z]; exact id) right

/-- A write of an uplink's record that leaves its management right. -/
theorem LawsKept.updUplink {u : Uplink} {f : UplinkRec → UplinkRec} {s : State}
    (right : (f (uplinkRec s u)).right = (uplinkRec s u).right) : LawsKept s (updUplink u f s) := by
  refine .of_uplinks (updUplink_keeps u f s) fun ⟨v, hv⟩ => ⟨v, ?_⟩
  rw [uplinkRec_updUplink]
  split
  · next h => subst h; exact right.trans hv
  · exact hv

/-! ### Events, the budget and the sequencer -/

theorem raise_lawsKept (c : Cause) (s : State) : LawsKept s (raise c s) := .of_keeps (raise_keeps c s)

/-- A bay without main power passes to another state without it. -/
theorem enterState_lawsKept {b : Bay} {st : BayState} {s : State} (from_ : hasMain (bayState s b) = false)
    (off : hasMain st = false) : LawsKept s (enterState b st s) := by
  refine LawsKept.trans (.updBay (fun h => ?_) rfl) (raise_lawsKept _ _)
  obtain ⟨pen, sdr, -, grant⟩ := h
  change hasMain (bayRec s b).state = false at from_
  have notStopping (x : BayState) (hx : hasMain x = false) : (x == .stopping) = false := by
    cases x <;> simp_all [hasMain]
  refine ⟨?_, ?_, rfl, fun _ => grant from_⟩
  · simp [followThrottle, pen, from_, off]
  · simp [followThrottle, sdr, notStopping _ from_, notStopping _ off]

/-- Setting or clearing the emergency cause of every bay, BAY_THR following (R73). -/
theorem updBays_emergencyCause_lawsKept (x : Bool) (s : State) :
    LawsKept s (updBays (fun _ r => { r with emergencyCause := x }) s) :=
  .updBays s (fun _ _ ⟨pen, sdr, _, grant⟩ => ⟨pen, sdr, rfl, grant⟩) fun _ _ => rfl

theorem beginEmergency_lawsKept (source : EmgSource) (s : State) : LawsKept s (beginEmergency source s) :=
  (((LawsKept.of_keeps (updPbu_gates_keeps _ _ s)).trans (updBays_emergencyCause_lawsKept true _)).and
    (updEmg_keeps _ _)).trans (raise_lawsKept _ _)

theorem endRun_lawsKept (s : State) : LawsKept s (endRun s) := by
  unfold endRun
  have h := LawsKept.of_keeps (updEmg_keeps (fun e => { e with runShed := false }) s)
  simp only
  split
  · exact h.trans (raise_lawsKept _ _)
  · exact h

theorem endEmergency_lawsKept (source : EmgSource) (s : State) : LawsKept s (endEmergency source s) :=
  ((((LawsKept.of_keeps (updEmg_keeps _ s)).trans (updBays_emergencyCause_lawsKept false _)).and
    (updPbu_ae_keeps _ _)).trans (endRun_lawsKept _)).trans (raise_lawsKept _ _)

theorem handShed_lawsKept (s : State) : LawsKept s (handShed s) := by
  unfold handShed
  split
  · exact .of_keeps (updEmg_keeps _ s)
  · exact ((LawsKept.of_keeps (updEmg_keeps _ s)).trans (endRun_lawsKept _)).trans (raise_lawsKept _ _)

theorem beginRun_lawsKept (s : State) : LawsKept s (beginRun s) :=
  (LawsKept.of_keeps (updEmg_keeps _ s)).trans (handShed_lawsKept _)

theorem compareBudget_lawsKept (source : EmgSource) (s : State) : LawsKept s (compareBudget source s) := by
  unfold compareBudget
  split
  · split
    · exact .refl s
    · exact beginEmergency_lawsKept source s
  · exact endEmergency_lawsKept source s
  · exact endEmergency_lawsKept source s
  · split
    · exact beginRun_lawsKept s
    · exact .refl s
  all_goals exact .refl s

theorem evaluate_lawsKept (source : EmgSource) (s : State) : LawsKept s (evaluate source s) :=
  ((LawsKept.of_keeps (recordFigures_keeps s)).trans (compareBudget_lawsKept source _)).and (evaluateHead_keeps _)

theorem testHold_lawsKept (s : State) : LawsKept s (testHold s) := by
  unfold testHold
  split
  · exact (LawsKept.of_keeps (updPbu_hold_keeps _ _ s)).trans (evaluate_lawsKept _ _)
  · exact .refl s

theorem supplyChanged_lawsKept (p : Psu) (s : State) : LawsKept s (supplyChanged p s) := by
  have h := LawsKept.of_keeps (updSupply_keeps p (fun _ => supplyNow s p) s)
  have evaluated (c : Prop) [Decidable c] (t : State) : LawsKept t (if c then t else evaluate (.supply p) t) := by
    split
    · exact .refl t
    · exact evaluate_lawsKept _ t
  unfold supplyChanged
  simp only [recomputeSupply]
  split
  · exact h.trans (evaluated _ _)
  · exact (h.trans (evaluated _ _)).trans (testHold_lawsKept _)

/-! ### Identity scanning -/

/-- The grant of a bay with main power may change. -/
theorem updBay_grant_lawsKept {b : Bay} {g : BayRec → Nat} {a : BayRec → Bool} {s : State}
    (h : hasMain (bayState s b) = true) :
    LawsKept s (updBay b (fun r => { r with adopted := a r, grant := g r }) s) := by
  refine .updBay (fun ⟨pen, sdr, _, _⟩ => ⟨pen, sdr, rfl, fun off => ?_⟩) rfl
  exact absurd (h.symm.trans off) (by decide)

theorem completeAtBay_lawsKept (b : Bay) (s : State) : LawsKept s (completeAtBay b s) := by
  unfold completeAtBay
  split
  · next h => exact enterState_lawsKept (by rw [h]; rfl) rfl
  · next h _ => exact updBay_grant_lawsKept (by rw [h]; rfl)
  · next h _ => exact updBay_grant_lawsKept (by rw [h]; rfl)
  · next h _ => exact updBay_grant_lawsKept (by rw [h]; rfl)
  · next h _ => exact updBay_grant_lawsKept (by rw [h]; rfl)
  · next h _ => exact updBay_grant_lawsKept (by rw [h]; rfl)
  · exact .refl s

theorem reportComplete_lawsKept (k : Slot) (s : State) : LawsKept s (reportComplete k s) := by
  unfold reportComplete
  split
  · exact (completeAtBay_lawsKept _ s).trans (evaluate_lawsKept _ _)
  · exact supplyChanged_lawsKept _ s
  · exact evaluate_lawsKept _ s

theorem reportStatus_lawsKept (k : Slot) (s : State) : LawsKept s (reportStatus k s) := by
  unfold reportStatus
  split
  · exact evaluate_lawsKept _ s
  · exact supplyChanged_lawsKept _ s
  · exact evaluate_lawsKept _ s

theorem requestScan_lawsKept (k : Slot) (s : State) : LawsKept s (requestScan k s) := by
  have h := (LawsKept.of_keeps (freshRequest_keeps k s)).and (engineTakes_keeps _)
  unfold requestScan
  simp only
  split
  · exact h.trans (reportStatus_lawsKept k _)
  · exact h

theorem scanComplete_lawsKept (k : Slot) (i : Identity) (s : State) : LawsKept s (scanComplete k i s) :=
  (((LawsKept.of_keeps (updSlot_keeps k _ s)).trans (reportComplete_lawsKept k _)).trans (raise_lawsKept _ _)).and
    (engineTakes_keeps _)

theorem scanFailed_lawsKept (k : Slot) (f : ScanFailure) (s : State) : LawsKept s (scanFailed k f s) := by
  have after (s : State) : LawsKept s (afterFailure k s) := by
    unfold afterFailure
    split
    · exact .of_keeps (updSlot_keeps k _ s)
    · split <;>
        exact ((LawsKept.of_keeps (updSlot_keeps k _ s)).trans (reportStatus_lawsKept k _)).trans (raise_lawsKept _ _)
  exact ((LawsKept.of_keeps (updSlot_keeps k _ s)).trans (after _)).and (engineTakes_keeps _)

theorem judgeScan_lawsKept (k : Slot) (image : Image) (s : State) : LawsKept s (judgeScan k image s) := by
  have h := LawsKept.of_keeps (endTransaction_keeps s)
  unfold judgeScan
  split
  · exact h.trans (scanComplete_lawsKept k _ _)
  · exact h.trans (scanFailed_lawsKept k _ _)

theorem acceptAnnounce_lawsKept (k : Slot) (i : Identity) (s : State) : LawsKept s (acceptAnnounce k i s) :=
  ((LawsKept.of_keeps (updSlot_keeps k _ s)).trans (reportComplete_lawsKept k _)).trans (raise_lawsKept _ _)

/-! ### Cooling -/

/-- Stages 3 to 5 write airflow causes, which BAY_THR follows, and duties, which FAN_DRV follows. -/
theorem driveZone_lawsKept (z : Zone) (s : State) : LawsKept s (driveZone z s) := by
  have airflow (a : Airflow) (s : State) : LawsKept s (changeAirflow z a s) := by
    unfold changeAirflow
    split
    · exact .refl s
    · refine ((LawsKept.of_keeps (updAir_keeps z _ s)).trans (raise_lawsKept _ _)).trans (.updBays _ ?_ ?_)
      · rintro b r ⟨pen, sdr, -, grant⟩
        split <;> exact ⟨pen, sdr, rfl, grant⟩
      · intro b r
        split <;> rfl
  exact (((LawsKept.of_keeps (updAir_keeps z _ s)).trans (airflow _ _)).and (updAir_keeps z _ _)).trans
    (updFans_lawsKept _ _)

theorem computeZones_lawsKept (s : State) : LawsKept s (computeZones s) :=
  .of_zones (computeZones_keeps s) fun z h => by simpa [zoneRec, computeZones, computeZone, CurveTrue] using h

theorem tachWindow_lawsKept (f : Fan) (s : State) : LawsKept s (tachWindow f s) := by
  have h (g : FanRec → FanRec) := updFan_lawsKept f g s
  unfold tachWindow raiseFanFault
  simp only
  split
  · exact (h _).trans (raise_lawsKept _ _)
  · exact (h _).trans (raise_lawsKept _ _)
  · exact h _

/-! ### Bays -/

/-- A bay that loses main power and enters a state without it. -/
theorem enterState_unpowered_lawsKept {b : Bay} {st : BayState} {f : BayRec → BayRec} {s : State}
    (off : hasMain st = false) (h : ∀ r, ∃ m, f r = { unpowered r with shedMark := m }) :
    LawsKept s (enterState b st (updBay b f s)) := by
  have frame := enterState_updBay_keeps b st f s
  obtain ⟨m, hm⟩ := h (bayRec s b)
  have notStopping : (st == .stopping) = false := by cases st <;> simp_all [hasMain]
  refine .of_bays frame (fun c => ?_) (fun c => ?_) <;>
    rw [bayRec_enterState_updBay] <;> try rw [frame.thermalEntry_eq]
  all_goals split
  · simp [LinesTrue, followThrottle, hm, unpowered, off, notStopping]
  · exact id
  · next e => subst e; simp [followThrottle, hm, unpowered]
  · exact id

theorem dropTo_lawsKept {b : Bay} {st : BayState} (s : State) (off : hasMain st = false) :
    LawsKept s (dropTo b st s) :=
  (enterState_unpowered_lawsKept off fun r => ⟨r.shedMark, rfl⟩).trans (evaluate_lawsKept _ _)

theorem hasMain_standbyState (s : State) (b : Bay) : hasMain (standbyState s b) = false := by
  unfold standbyState
  split <;> rfl

theorem leaveOn_lawsKept (b : Bay) (s : State) : LawsKept s (leaveOn b s) := .of_keeps (leaveOn_keeps b s)

theorem rampEndUnpowered_lawsKept (b : Bay) (s : State) : LawsKept s (rampEndUnpowered b s) :=
  .of_keeps (rampEndUnpowered_keeps b s)

theorem enterDetected_lawsKept {b : Bay} {s : State} (h : hasMain (bayState s b) = false) :
    LawsKept s (enterDetected b s) := by
  have k := ((enterState_lawsKept h (st := .detected) rfl).trans (evaluate_lawsKept (.bay b) _)).trans
    (requestScan_lawsKept (slotOfBay b) _)
  unfold enterDetected
  simp only
  split
  · next e => exact k.trans (enterState_lawsKept (by rw [e]; rfl) rfl)
  · exact k

theorem insertBay_lawsKept {b : Bay} {s : State} (h : bayState s b = .empty) : LawsKept s (insertBay b s) := by
  refine LawsKept.trans ?_ (enterDetected_lawsKept ?_)
  · exact .updBay_aside fun _ => ⟨rfl, rfl, rfl, rfl, rfl⟩
  · rw [bayState, bayRec_updBay_self]
    exact congrArg hasMain h

/-- A ramp that completes: BAY_PEN stays driven. -/
theorem completeRamp_lawsKept {b : Bay} {s : State} (h : bayState s b = .ramping) : LawsKept s (completeRamp b s) := by
  have frame := completeRamp_keeps b s
  have rec_ (c) : bayRec (completeRamp b s) c
      = if c = b then followThrottle { bayRec s b with rampTimer := none, state := .poweredOn } else bayRec s c := by
    rw [completeRamp, (rampEndPowered_keeps b _).bayRec_eq, (updThermal_keeps b _ _).bayRec_eq,
      bayRec_enterState_updBay]
  have entry (c) : (thermalEntry (completeRamp b s) c).critical = (thermalEntry s c).critical := by
    rw [completeRamp, (rampEndPowered_keeps b _).thermalEntry_eq, thermalEntry_updThermal]
    have frame := enterState_updBay_keeps b .poweredOn (fun r => { r with rampTimer := none }) s
    split
    · next e => subst e; rw [frame.thermalEntry_eq]
    · rw [frame.thermalEntry_eq]
  change (bayRec s b).state = .ramping at h
  refine .of_bays frame (fun c => ?_) (fun c => ?_) <;> rw [rec_] <;> split
  · next e =>
    subst e
    rintro ⟨pen, sdr, -, -⟩
    simp [LinesTrue, followThrottle, pen, sdr, h, hasMain]
  · exact id
  · next e => subst e; rw [entry]; exact id
  · rw [entry]; exact id

/-- A bay whose admission is taken is in RAMPING (R7). -/
theorem takeAdmission_bayState (b : Bay) (s : State) : bayState (takeAdmission b s) b = .ramping := by
  rw [takeAdmission, evaluate_bayState, bayState, bayRec_updPbu, bayRec_enterState_updBay, if_pos rfl,
    followThrottle_state]

/-- An admission that is taken: BAY_PEN is driven as the bay enters RAMPING. -/
theorem takeAdmission_lawsKept {b : Bay} {s : State} (h : bayState s b = .waitPower) :
    LawsKept s (takeAdmission b s) := by
  have left := leaveWaitList_keeps b s
  have frame := enterState_updBay_keeps b .ramping (rampingRec (classGrant s b)) (leaveWaitList b s)
  change (bayRec s b).state = .waitPower at h
  refine ((LawsKept.of_keeps left).trans (LawsKept.and (.of_bays frame (fun c => ?_) (fun c => ?_))
    (updPbu_seq_keeps _ _))).trans (evaluate_lawsKept _ _) <;>
    rw [bayRec_enterState_updBay, left.bayRec_eq, left.bayRec_eq] <;> try rw [frame.thermalEntry_eq]
  all_goals split
  · next e =>
    subst e
    rintro ⟨-, sdr, -, -⟩
    simp [LinesTrue, followThrottle, rampingRec, sdr, h, hasMain]
  · exact id
  · next e => subst e; simp [followThrottle, rampingRec]
  · exact id

end Sys2Proof.Machine
end

section
/-! SUPPORT. The standing laws through the ways out of main power, the frames, the requests and the resets. -/

namespace Sys2Proof.Machine

/-! ### Queues and counters -/

theorem queuePart_not_law (r : Port) : ∀ p ∈ lawParts, p ∉ queuePart r :: reportParts := by
  cases r <;> simp [queuePart, lawParts, reportParts]

theorem countRefused_lawsKept (r : Port) (s : State) : LawsKept s (countRefused r s) := by
  unfold countRefused
  cases r with
  | bay b => exact .updBay_aside fun _ => ⟨rfl, rfl, rfl, rfl, rfl⟩
  | uplink u => exact .updUplink (f := fun r => { r with refused := satAdd r.refused 1 Config.top16 }) rfl

theorem offer_lawsKept (r : Port) (c : Copy) (s : State) : LawsKept s (offer r c s) :=
  .of_keeps (offer_keeps r c s) (queuePart_not_law r)

theorem putQueue_lawsKept (r : Port) (q : Queue) (s : State) : LawsKept s (putQueue r q s) :=
  .of_keeps ((putQueue_keeps r q s).within (l := queuePart r :: reportParts) (by simp)) (queuePart_not_law r)

theorem countDropped_lawsKept (n : Nat) (r : Port) (s : State) : LawsKept s (countDropped n r s) :=
  putQueue_lawsKept r _ s

theorem flush_lawsKept (r : Port) (s : State) : LawsKept s (flush r s) :=
  .of_keeps ((flush_keeps r s).within (l := queuePart r :: reportParts) (by simp [reportParts])) (queuePart_not_law r)

/-! ### The ways out of main power -/

theorem powerFault_lawsKept (b : Bay) (s : State) : LawsKept s (powerFault b s) := by
  unfold powerFault
  split
  · exact (leaveOn_lawsKept b s).trans (dropTo_lawsKept _ rfl)
  · exact (flush_lawsKept (.bay b) s).trans (dropTo_lawsKept _ rfl)
  · exact .refl s

theorem endStop_lawsKept (b : Bay) (s : State) : LawsKept s (endStop b s) :=
  dropTo_lawsKept s (hasMain_standbyState s b)

/-- A stop begins: BAY_SDR is driven as the bay enters STOPPING, with BAY_PEN as it was. -/
theorem beginStop_lawsKept {b : Bay} {s : State} (h : bayState s b = .poweredOn) : LawsKept s (beginStop b s) := by
  have left := leaveOn_keeps b s
  have frame := enterState_updBay_keeps b .stopping
    (fun r => { r with sdr := true, stopTimer := some (s.pbu.policy.stopTimeout * 1000) }) (leaveOn b s)
  change (bayRec s b).state = .poweredOn at h
  unfold beginStop
  refine (leaveOn_lawsKept b s).trans (.of_bays frame (fun c => ?_) (fun c => ?_)) <;>
    rw [bayRec_enterState_updBay, left.bayRec_eq, left.bayRec_eq] <;> try rw [frame.thermalEntry_eq]
  all_goals split
  · next e =>
    subst e
    rintro ⟨pen, -, -, -⟩
    simp [LinesTrue, followThrottle, pen, h, hasMain]
  · exact id
  · next e => subst e; exact id
  · exact id

theorem cancelWait_lawsKept {b : Bay} {s : State} (h : bayState s b = .waitPower) : LawsKept s (cancelWait b s) := by
  have left := leaveWaitList_keeps b s
  have cleared : LawsKept (leaveWaitList b s) (updBay b (fun r => { r with adopted := false }) (leaveWaitList b s)) :=
    .updBay_aside fun _ => ⟨rfl, rfl, rfl, rfl, rfl⟩
  refine ((LawsKept.of_keeps left).trans (cleared.trans (enterState_lawsKept ?_ (hasMain_standbyState s b)))).and
    (evaluateHead_keeps _)
  rw [bayState, bayRec_updBay_self, left.bayRec_eq]
  exact congrArg hasMain h

theorem forceOff_lawsKept (b : Bay) (s : State) : LawsKept s (forceOff b s) := by
  have off := hasMain_standbyState s b
  unfold forceOff
  split
  · exact (leaveOn_lawsKept b s).trans (dropTo_lawsKept _ off)
  · exact dropTo_lawsKept s off
  · exact (dropTo_lawsKept s off).trans (rampEndUnpowered_lawsKept b _)
  · next h => exact cancelWait_lawsKept h
  · exact .refl s

/-- A bay's write that leaves its priority may come before or after the bay joins the wait list. -/
theorem joinWaitList_updBay {b c : Bay} {f : BayRec → BayRec} {s : State}
    (h : (f (bayRec s b)).priority = (bayRec s b).priority) :
    joinWaitList c (updBay b f s) = updBay b f (joinWaitList c s) := by
  have prio : priorityOf (updBay b f s) = priorityOf s := by
    funext x
    rw [priorityOf, bayRec_updBay]
    split
    · next e => subst e; exact h
    · rfl
  simp only [joinWaitList, prio]
  rfl

/-- Where a shed bay arrives (R16). -/
def shedState (s : State) (b : Bay) : BayState :=
  if (bayRec s b).autoRestore && isComplete s (slotOfBay b) then .waitPower else standbyState s b

/-- The wait list as a shed leaves it: with the bay where it is to be restored (R16, R59). -/
def shedJoins (b : Bay) (s : State) : State :=
  if (bayRec s b).autoRestore && isComplete s (slotOfBay b) then joinWaitList b (leaveOn b s) else leaveOn b s

/-- A shed takes the bay off main power, puts it in the list or not, and enters its state (R16). -/
theorem shedTo_eq (b : Bay) (s : State) :
    shedTo b s = enterState b (shedState s b)
      (updBay b (fun r => { unpowered r with shedMark := true }) (shedJoins b s)) := by
  unfold shedTo shedState shedJoins
  simp only
  split
  · rw [joinWaitList_updBay rfl]
  · rfl

theorem shedJoins_keeps (b : Bay) (s : State) :
    KeepsAllBut [.waitList, .bayQueues, .pool, .stations] s (shedJoins b s) := by
  have h := (leaveOn_keeps b s).within (l := [.waitList, .bayQueues, .pool, .stations])
  unfold shedJoins
  split
  · exact h.and (joinWaitList_keeps b _)
  · exact h

theorem takeShed_lawsKept (b : Bay) (s : State) : LawsKept s (takeShed b s) := by
  have off : hasMain (shedState s b) = false := by
    unfold shedState
    split
    · rfl
    · exact hasMain_standbyState s b
  have shed : LawsKept s (shedTo b s) := by
    rw [shedTo_eq]
    exact (LawsKept.of_keeps (shedJoins_keeps b s)).trans (enterState_unpowered_lawsKept off fun r => ⟨true, rfl⟩)
  exact ((shed.and (updEmg_keeps _ _)).trans (evaluate_lawsKept _ _)).trans (rampEndUnpowered_lawsKept b _)

theorem shedAnswered_lawsKept (b : Bay) (s : State) : LawsKept s (shedAnswered b s) := by
  have answer (s : State) : LawsKept s (answerShed s) := by
    unfold answerShed
    split
    · exact handShed_lawsKept s
    · exact (endEmergency_lawsKept _ s).and (evaluateHead_keeps _)
  unfold shedAnswered
  split
  · exact (takeShed_lawsKept b s).trans (answer _)
  · exact (evaluate_lawsKept _ s).trans (answer _)

/-- A removal writes the bay's critical flag and its thermal entry together. -/
theorem removeBay_lawsKept (b : Bay) (s : State) : LawsKept s (removeBay b s) := by
  have before : LawsKept s (clearSlot (slotOfBay b) (leaveWaitList b (leaveOn b s))) :=
    ((leaveOn_lawsKept b s).and (leaveWaitList_keeps b _)).and (clearSlot_keeps _ _)
  have written (t : State) : LawsKept t (enterState b .empty (updBay b
      (fun r => { unpowered r with shedMark := false, critical := false, removeTimer := none })
      (updThermal b (fun _ => resetThermal) t))) := by
    have thermal := updThermal_keeps b (fun _ => resetThermal) t
    have frame := enterState_updBay_keeps b .empty
      (fun r => { unpowered r with shedMark := false, critical := false, removeTimer := none })
      (updThermal b (fun _ => resetThermal) t)
    refine .of_bays ((thermal.within (l := .thermal :: .bays :: reportParts)).and frame) (fun c => ?_) (fun c => ?_) <;>
      rw [bayRec_enterState_updBay, thermal.bayRec_eq, thermal.bayRec_eq] <;>
      try rw [frame.thermalEntry_eq, thermalEntry_updThermal]
    all_goals split
    · exact fun _ => by simp [LinesTrue, followThrottle, unpowered, hasMain]
    · exact id
    · exact fun _ => rfl
    · exact id
  exact ((before.trans (written _)).trans (evaluate_lawsKept _ _)).trans (rampEndUnpowered_lawsKept b _)

theorem isolate_lawsKept (b : Bay) (s : State) : LawsKept s (isolate b s) :=
  ((((leaveOn_lawsKept b s).and (leaveWaitList_keeps b _)).and (abortScan_keeps _ _)).trans (dropTo_lawsKept _ rfl)).trans
    (rampEndUnpowered_lawsKept b _)

theorem requestPower_lawsKept {b : Bay} {s : State} (h : bayState s b = .standby) : LawsKept s (requestPower b s) := by
  have join := joinWaitList_keeps b s
  refine ((LawsKept.of_keeps join).trans (enterState_lawsKept ?_ rfl)).and (evaluateHead_keeps _)
  rw [join.bayState_eq, h]; rfl

theorem setBayPolicy_lawsKept (b : Bay) (priority cap : Nat) (u : Uplink) (z : Zone) (restore : Bool) (s : State) :
    LawsKept s (setBayPolicy b priority cap u z restore s) := by
  have written : LawsKept s (updBay b (policyRec s priority cap u z restore) s) :=
    .updBay_aside fun _ => ⟨rfl, rfl, rfl, rfl, rfl⟩
  have moved (s : State) : LawsKept s (replaceInList b s) := by
    unfold replaceInList
    split
    · exact (LawsKept.of_keeps (moveInWaitList_keeps b s)).and (evaluateHead_keeps _)
    · exact .refl s
  have granted (s : State) : LawsKept s (recomputeGrant b s) := by
    unfold recomputeGrant
    simp only
    split
    · next h =>
      simp only [Bool.and_eq_true] at h
      exact (updBay_grant_lawsKept h.1.1).trans (evaluate_lawsKept _ _)
    · exact .refl s
  exact (written.trans (moved _)).trans (granted _)

/-! ### Frames -/

theorem flood_lawsKept (skip : Option Bay) (f : RxFrame) (c : Nat) (s : State) : LawsKept s (flood skip f c s) := by
  refine LawsKept.foldl (fun s b => ?_) _ s
  unfold floodBay
  split
  · split
    · exact offer_lawsKept _ _ s
    · exact .refl s
  · exact .refl s

theorem bayFrame_lawsKept (b : Bay) (f : RxFrame) (s : State) : LawsKept s (bayFrame b f s) := by
  have toUplink (c : Nat) (s : State) : LawsKept s (sendUplink b f c s) := by
    unfold sendUplink
    split
    · exact offer_lawsKept _ _ s
    · exact .updBay_aside fun _ => ⟨rfl, rfl, rfl, rfl, rfl⟩
  have destination (c : Nat) (s : State) : LawsKept s (upstreamDestination b f c s) := by
    unfold upstreamDestination
    split
    · exact (toUplink c s).trans (flood_lawsKept _ _ _ _)
    · split
      · split
        · exact .refl s
        · split
          · exact offer_lawsKept _ _ s
          · exact toUplink c s
      · exact toUplink c s
  have overflow : LawsKept s (dropOverflow b s) := by
    refine LawsKept.trans ?_ (raise_lawsKept _ _)
    exact .updBay_aside fun _ => ⟨rfl, rfl, rfl, rfl, rfl⟩
  have upward : LawsKept s (upstream b f s) := by
    unfold upstream
    split
    · exact .refl s
    · split
      · exact overflow
      · exact (LawsKept.of_keeps (learn_keeps b _ _ _ s)).trans (destination _ _)
  unfold bayFrame
  split
  · split
    · exact .of_keeps (offerService_keeps _ f s)
    · exact countRefused_lawsKept _ s
  · split
    · exact upward
    · exact countDropped_lawsKept 1 _ s

theorem uplinkFrame_lawsKept (u : Uplink) (f : RxFrame) (s : State) : LawsKept s (uplinkFrame u f s) := by
  have downward : LawsKept s (downstream u f s) := by
    unfold downstream
    split
    · exact .refl s
    · simp only
      split
      · exact flood_lawsKept _ _ _ s
      · split
        · split
          · exact flood_lawsKept _ _ _ s
          · exact offer_lawsKept _ _ s
        · exact flood_lawsKept _ _ _ s
  unfold uplinkFrame
  simp only
  split
  · split
    · exact .of_keeps (offerService_keeps _ f s)
    · exact countRefused_lawsKept _ s
  · split
    · exact downward
    · exact countDropped_lawsKept 1 _ s

theorem receiveFrame_lawsKept (p : Port) (f : RxFrame) (s : State) : LawsKept s (receiveFrame p f s) := by
  unfold receiveFrame
  split
  · split
    · exact bayFrame_lawsKept _ f s
    · exact .refl s
  · split
    · exact uplinkFrame_lawsKept _ f s
    · exact .refl s

theorem completeTransmission_lawsKept (r : Port) (s : State) : LawsKept s (completeTransmission r s) :=
  .of_keeps ((completeTransmission_keeps r s).within (l := queuePart r :: reportParts) (by simp [reportParts]))
    (queuePart_not_law r)

/-! ### Resets -/

/-- Out of a running mode the lines and the drives are free; a reset that begins keeps the other laws. -/
theorem beginReset_lawsKept {powerOn : Bool} {m : Mode} (h : m ≠ .running) (s : State) :
    LawsKept s (beginReset powerOn m s) := by
  refine ⟨fun _ run => absurd run h, fun _ run => absurd run h, fun hs b => ?_, id, id⟩
  have := hs b
  simpa [bayRec, beginReset, thermalEntry, endBayWork] using this

/-- All five laws hold. -/
structure Lawful (t : State) : Prop where
  lines : ∀ b, LinesTrue (bayRec t b)
  drive : ∀ f, DriveTrue (fanRec t f)
  critical : CriticalLaw t
  curve : CurveLaw t
  management : ManagementLaw t

theorem Lawful.kept {t : State} (h : Lawful t) (s : State) : LawsKept s t :=
  ⟨fun _ _ => h.lines, fun _ _ => h.drive, fun _ => h.critical, fun _ => h.curve, fun _ => h.management⟩

theorem linesTrue_resetBay (b : Bay) : LinesTrue (resetBay b) := ⟨rfl, rfl, rfl, fun _ => rfl⟩

theorem resetBlocks_lawful (cause : ResetCause) (pins : Pins) (pending : List Instr) :
    Lawful (resetBlocks cause pins pending) where
  lines b := by simpa [bayRec, resetBlocks] using linesTrue_resetBay b
  drive f := by simp [fanRec, resetBlocks, resetFdu, DriveTrue, followDrive, resetFan]
  critical b := by simp [bayRec, thermalEntry, resetBlocks, resetThu, resetBay, resetThermal]
  curve z := by simp [zoneRec, resetBlocks, resetThu, resetZone]
  management := ⟨0, by simp [uplinkRec, resetBlocks, resetUplink]⟩

theorem updBay_debounce_linesTrue (p : Bool) {r : BayRec} (h : LinesTrue r) :
    LinesTrue (followThrottle (debounceBay p r)) := by
  obtain ⟨pen, sdr, -, grant⟩ := h
  cases p <;> exact ⟨pen, sdr, rfl, grant⟩

theorem completePowerOn_lawsKept (straps : BitVec 4) (s : State) : LawsKept s (completePowerOn straps s) := by
  have debounced (t : State) : LawsKept t (startDebounces t) := by
    have bays : LawsKept t (updBays (fun b => debounceBay (Bank.read t.pins.bayPres b)) t) :=
      .updBays t (fun b r => updBay_debounce_linesTrue _) fun b r => by unfold debounceBay; split <;> rfl
    have supplies (f : Pbu → Bank SupplyRec 4) (t : State) :
        LawsKept t (updPbu (fun p => { p with supplies := f p }) t) := ⟨id, id, id, id, id⟩
    exact (bays.trans (supplies _ _)).trans (updFans_lawsKept _ _)
  exact (((resetBlocks_lawful .powerOn (withStraps straps s.pins) s.pending).kept s).trans (debounced _)).trans
    (evaluate_lawsKept _ _)

theorem takeBays_lawful (adopted present : Bay → Bool) (cause : ResetCause) (pins : Pins) (pending : List Instr) :
    Lawful (takeBays adopted present (resetBlocks cause pins pending)) := by
  have base := resetBlocks_lawful cause pins pending
  have frame : KeepsAllBut [.bays] (resetBlocks cause pins pending)
      (takeBays adopted present (resetBlocks cause pins pending)) := updBays_keeps _ _
  have fresh (b) : bayRec (resetBlocks cause pins pending) b = resetBay b := by simp [bayRec, resetBlocks]
  have rec_ (b) : bayRec (takeBays adopted present (resetBlocks cause pins pending)) b
      = followThrottle (if adopted b then adoptedRec (resetBay b) else debounceBay (present b) (resetBay b)) := by
    rw [takeBays, bayRec_updBays, fresh]
  constructor
  case lines =>
    intro b
    rw [rec_]
    split
    · exact ⟨rfl, rfl, rfl, fun off => Bool.noConfusion off⟩
    · exact updBay_debounce_linesTrue _ (linesTrue_resetBay b)
  case drive => exact fun f => by rw [frame.fanRec_eq]; exact base.drive f
  case critical =>
    intro b
    rw [rec_, frame.thermalEntry_eq, ← base.critical b, fresh]
    split
    · rfl
    · cases present b <;> rfl
  case curve => exact fun z => by rw [frame.zoneRec_eq]; exact base.curve z
  case management => exact managementLaw_congr frame (by decide) base.management

/-- A takeover leaves the laws, whatever went before. -/
theorem takeover_lawsKept (cause : ResetCause) (straps : BitVec 4) (s : State) :
    LawsKept s (takeover cause straps s) := by
  have modules (t : State) : LawsKept t (takeModules t) := by
    have supplies (f : Pbu → Bank SupplyRec 4) (t : State) :
        LawsKept t (updPbu (fun p => { p with supplies := f p }) t) := ⟨id, id, id, id, id⟩
    exact (supplies _ t).trans (updFans_lawsKept _ _)
  have hold (t : State) : LawsKept t (startHold t) :=
    ((LawsKept.of_keeps (updPbu_hold_keeps _ _ t)).and (recordFigures_keeps _)).trans (testHold_lawsKept _)
  have counted (f : Sve → Sve) (t : State) : LawsKept t (updSve f t) := ⟨id, id, id, id, id⟩
  have raised (adopted : Bay → Bool) (t : State) : LawsKept t (raiseAdopted adopted t) :=
    LawsKept.foldl (fun t b => raise_lawsKept _ t) _ t
  have scans (l : List Slot) (t : State) : LawsKept t (l.foldl (fun t k => requestScan k t) t) :=
    LawsKept.foldl (fun t k => requestScan_lawsKept k t) l t
  exact (((((takeBays_lawful _ _ _ _ _).kept s).trans (raised _ _)).trans (modules _)).trans (scans _ _)).trans
    ((counted _ _).trans (hold _))

theorem softResetNow_lawsKept (s : State) : LawsKept s (softResetNow s) :=
  ((LawsKept.of_keeps (updPins_keeps _ s)).trans (beginReset_lawsKept (by decide) _)).trans (takeover_lawsKept _ _ _)

end Sys2Proof.Machine
end

section
/-! SUPPORT. The standing laws through the service requests, the commands and time; and O57 itself. -/

namespace Sys2Proof.Machine

/-! ### Requests -/

/-- An answer adds nothing to the effect of its request. -/
theorem answered_lawsKept {st : Status} {s t : State} (h : LawsKept s t) : LawsKept s (answered st t).state := h

/-- A request that names something keeps the laws where it does for everything that it may name. -/
theorem named_lawsKept {α : Type} {n : Option α} {s : State} {f : α → Reply} (h : ∀ x, LawsKept s (f x).state) :
    LawsKept s (named n s f).state := by
  cases n with
  | none => exact .refl s
  | some x => exact h x

theorem forArrivalBay_lawsKept {e : Envelope} {s : State} {f : Bay → Reply} (h : ∀ b, LawsKept s (f b).state) :
    LawsKept s (forArrivalBay e s f).state := by
  unfold forArrivalBay
  split
  · exact h _
  · exact .refl s

theorem askPower_lawsKept (b : Bay) (s : State) : LawsKept s (askPower b s).state := by
  unfold askPower
  split
  · next h =>
    split
    · exact requestPower_lawsKept h
    · exact .refl s
  · exact .refl s

theorem powerOffForced_lawsKept (b : Bay) (s : State) : LawsKept s (powerOffForced b s).state := by
  unfold powerOffForced
  split
  iterate 4 exact forceOff_lawsKept b s
  all_goals exact .refl s

theorem powerOffGraceful_lawsKept (b : Bay) (s : State) : LawsKept s (powerOffGraceful b s).state := by
  unfold powerOffGraceful
  split
  · next h => exact beginStop_lawsKept h
  · exact .refl s
  iterate 2 exact powerOffForced_lawsKept b s
  all_goals exact .refl s

theorem setGate_lawsKept (g : Gate) (s : State) : LawsKept s (setGate g s) := by
  unfold setGate
  split
  · simp only
    split
    · exact (LawsKept.of_keeps (updPbu_ae_keeps _ s)).and (evaluateHead_keeps _)
    · exact .of_keeps (updPbu_ae_keeps _ s)
  · exact .of_keeps (updPbu_ae2_keeps _ s)

/-- SET_ZONE leaves a zone in AUTO only where it has a curve (R93). -/
theorem setZone_lawsKept {z : Zone} {m : ZoneMode} (floor forced staleLimit stepDown : Nat) {s : State}
    (h : ¬(m = .auto ∧ (zoneRec s z).curve = [])) : LawsKept s (setZone z m floor forced staleLimit stepDown s) := by
  have written : LawsKept s (updZone z (zoneSettings m floor forced staleLimit stepDown) s) :=
    .updZone fun _ auto empty => h ⟨auto, empty⟩
  unfold setZone
  simp only
  split
  · refine written.trans (LawsKept.trans ?_ (driveZone_lawsKept z _))
    exact .updZone id
  · exact written

/-- An accepted report writes the bay's critical flag and its thermal entry together (R88, R89). -/
theorem acceptReport_lawsKept (b : Bay) (margin : Nat) (critical : Bool) (s : State) :
    LawsKept s (acceptReport b margin critical s) := by
  have thermal := updThermal_keeps b
    (fun _ => { margin := some margin, critical := critical, current := true, age := 0 }) s
  have bay := updBay_keeps b (fun r => { r with critical := critical }) (updThermal b
    (fun _ => { margin := some margin, critical := critical, current := true, age := 0 }) s)
  unfold acceptReport
  refine .of_bays ((thermal.within (l := [.thermal, .bays])).and bay) (fun c => ?_) (fun c => ?_) <;>
    rw [bayRec_updBay, thermal.bayRec_eq, thermal.bayRec_eq] <;>
    try rw [bay.thermalEntry_eq, thermalEntry_updThermal]
  all_goals split
  · next e => subst e; exact fun ⟨pen, sdr, _, grant⟩ => ⟨pen, sdr, rfl, grant⟩
  · exact id
  · exact fun _ => rfl
  · exact id

/-- Every other uplink keeps its record where one uplink's record changes. -/
theorem changeUplink_uplinkRec_ne {u v : Uplink} (f : UplinkRec → UplinkRec) (s : State) (h : v ≠ u) :
    uplinkRec (changeUplink u f s) v = uplinkRec s v := by
  have one : uplinkRec (updUplink u f s) v = uplinkRec s v := by rw [uplinkRec_updUplink, if_neg h]
  unfold changeUplink
  simp only
  split
  · rw [(flush_keeps (.uplink u) _).uplinkRec_eq v (by simp [queuePart]), one]
  · exact one

/-- SET_UPLINK keeps the laws where some other uplink holds the management right or the right is left (R152). -/
theorem setUplink_lawsKept {u : Uplink} {enabled right : Bool} {s : State}
    (h : right = true ∨ ∃ v, v ≠ u ∧ (uplinkRec s v).right = true) : LawsKept s (setUplink u enabled right s) := by
  have changed : LawsKept s (changeUplink u (fun r => { r with enabled := enabled, right := right }) s) := by
    have written : LawsKept s (updUplink u (fun r => { r with enabled := enabled, right := right }) s) := by
      refine .of_uplinks (updUplink_keeps _ _ s) fun _ => ?_
      obtain yes | ⟨v, ne, hv⟩ := h
      · exact ⟨u, by rw [uplinkRec_updUplink_self, yes]⟩
      · exact ⟨v, by rw [uplinkRec_updUplink, if_neg ne, hv]⟩
    unfold changeUplink
    simp only
    split
    · exact written.trans (flush_lawsKept _ _)
    · exact written
  unfold setUplink
  simp only
  split
  · exact .refl s
  · refine LawsKept.trans ?_ (raise_lawsKept _ _)
    split
    · exact changed.and (barWaiting_keeps u _)
    · exact changed

/-- A request to which its sender has rights keeps the laws. -/
theorem carryOut_lawsKept {e : Envelope} {r : Request} {s : State} (port : portRefuses s e.arrival = false)
    (rights : hasRights e.arrival (requestCode r) = true) : LawsKept s (carryOut e r s).state := by
  have sve (f : Sve → Sve) : LawsKept s (answered .ok (updSve f s)).state := ⟨id, id, id, id, id⟩
  cases r with
  | readBay bay => exact named_lawsKept fun b => .refl s
  | readSlot slot => exact named_lawsKept fun k => .refl s
  | readPower => exact .refl s
  | readZone zone => exact named_lawsKept fun z => .refl s
  | readFan fan => exact named_lawsKept fun f => .refl s
  | readUplink uplink => exact named_lawsKept fun u => .refl s
  | readQueue queue => exact named_lawsKept fun q => .refl s
  | readStation first count =>
    change LawsKept s (replyReadStation first count s).state
    unfold replyReadStation
    split
    · exact .refl s
    · exact .refl s
  | readEvents => exact .refl s
  | clearEvents classes => exact named_lawsKept fun f => sve (clearFlags f)
  | setEventMask classes => exact named_lawsKept fun f => sve fun v => { v with unmasked := Bank.tab f }
  | setAlertTarget presence uplink address =>
    change LawsKept s (replySetAlertTarget presence uplink address s).state
    unfold replySetAlertTarget
    split
    · exact sve fun v => { v with alertTarget := none }
    · split
      · exact named_lawsKept fun u => sve fun v => { v with alertTarget := some (u, address) }
      · exact .refl s
  | setBayPolicy bay priority cap uplink zone autoRestore =>
    exact named_lawsKept fun b => named_lawsKept fun u => named_lawsKept fun z => named_lawsKept fun a =>
      setBayPolicy_lawsKept b _ _ u z a s
  | loadWindow bay bs cs bb cb =>
    refine named_lawsKept fun b => ?_
    simp only
    split
    · exact ((LawsKept.of_keeps (updWindow_keeps b _ s)).and (purge_keeps b _)).and (recomputeStatics_keeps b _)
    · exact .refl s
  | powerOn bay => exact named_lawsKept fun b => askPower_lawsKept b s
  | powerOff bay form =>
    refine named_lawsKept fun b => ?_
    split
    · exact powerOffGraceful_lawsKept b s
    · split
      · exact powerOffForced_lawsKept b s
      · exact .refl s
  | setMaint bay =>
    refine named_lawsKept fun b => ?_
    split
    iterate 2 exact .refl s
    all_goals exact isolate_lawsKept b s
  | clearMaint bay =>
    refine named_lawsKept fun b => ?_
    split
    · next h => exact enterDetected_lawsKept (by rw [h]; rfl)
    · exact .refl s
  | clearFault bay =>
    refine named_lawsKept fun b => ?_
    split
    · next h => exact enterState_lawsKept (by rw [h]; rfl) (hasMain_standbyState s b)
    · exact .refl s
  | rescan slot =>
    refine named_lawsKept fun k => ?_
    split
    · exact requestScan_lawsKept k s
    · exact .refl s
  | setPowerPolicy redundancy baseLoad gapSteps grace stopTimeout =>
    exact named_lawsKept fun p => (LawsKept.of_keeps (updPbu_policy_keeps _ s)).trans (evaluate_lawsKept _ _)
  | setAdmission gate => exact named_lawsKept fun g => setGate_lawsKept g s
  | loadCurve zone points =>
    refine named_lawsKept fun z => ?_
    split
    · next h =>
      refine answered_lawsKept (.updZone fun _ _ empty => ?_)
      simp only [curveValid, Bool.and_eq_true, decide_eq_true_eq] at h
      simp only at empty
      simp [empty] at h
    · exact .refl s
  | setZone zone mode floor forced staleLimit stepDown =>
    refine named_lawsKept fun z => named_lawsKept fun m => ?_
    split
    · exact .refl s
    · split
      · exact .refl s
      · next h => exact setZone_lawsKept _ _ _ _ h
  | setFan fan zone minRun prescale =>
    refine named_lawsKept fun f => named_lawsKept fun z => ?_
    split
    · exact updFan_lawsKept f _ s
    · exact .refl s
  | setUplink uplink enabled right =>
    obtain ⟨v, hv⟩ : ∃ v, e.arrival = .uplink v := by
      cases h : e.arrival with
      | bay b => simp [h, hasRights, requestCode, bayRequestCode] at rights
      | uplink v => exact ⟨v, rfl⟩
    refine named_lawsKept fun u => named_lawsKept fun en => named_lawsKept fun ri => ?_
    split
    · exact .refl s
    · next cut =>
      refine setUplink_lawsKept ?_
      by_cases same : v = u
      · subst same
        exact .inl (by simp_all)
      · refine .inr ⟨v, same, ?_⟩
        rw [hv] at port
        simp only [portRefuses, Bool.not_eq_false', Bool.and_eq_true] at port
        exact port.2
  | setQuota queue quota =>
    change LawsKept s (replySetQuota e queue quota s).state
    unfold replySetQuota
    split
    · simp only
      split
      · exact .refl s
      · exact answered_lawsKept (putQueue_lawsKept _ _ s)
    all_goals exact .refl s
  | addStatic address bay bladeTag =>
    refine named_lawsKept fun b => ?_
    split
    · exact .refl s
    · refine named_lawsKept fun c => ?_
      unfold addStatic
      split
      · exact .of_keeps (updPlaces_keeps _ s)
      · split
        · exact .of_keeps (updPlaces_keeps _ s)
        · exact .refl s
  | removeStatic address chassisTag =>
    change LawsKept s (replyRemoveStatic address chassisTag s).state
    unfold replyRemoveStatic
    split
    · split
      · exact .refl s
      · exact .of_keeps (updPlaces_keeps _ s)
    · exact .refl s
  | setAging steps => exact ⟨id, id, id, id, id⟩
  | softReset => exact .refl s
  | identifyPart => exact .refl s
  | announce image =>
    refine forArrivalBay_lawsKept fun b => ?_
    split
    · split
      · exact acceptAnnounce_lawsKept _ _ s
      · exact .refl s
    · exact .refl s
  | thermalReport margin critical =>
    refine forArrivalBay_lawsKept fun b => named_lawsKept fun c => ?_
    split
    · exact acceptReport_lawsKept b _ c s
    · exact .refl s
  | powerRequest => exact forArrivalBay_lawsKept fun b => askPower_lawsKept b s
  | powerRelease =>
    refine forArrivalBay_lawsKept fun b => ?_
    split
    · exact forceOff_lawsKept b s
    · exact endStop_lawsKept b s
    all_goals exact .refl s
  | readOwn => exact forArrivalBay_lawsKept fun b => .refl s

/-! ### The service engine -/

theorem denied_lawsKept (e : Envelope) (s : State) : LawsKept s (denied e s).state := by
  unfold denied
  split
  · exact answered_lawsKept (countRefused_lawsKept _ s)
  · exact .refl s

theorem reply_lawsKept {e : Envelope} {r : Request} {s : State} (port : portRefuses s e.arrival = false) :
    LawsKept s (reply e r s).state := by
  unfold reply
  split
  · exact denied_lawsKept e s
  · next h =>
    split
    · exact .refl s
    · exact carryOut_lawsKept port (by simpa using h)

theorem respond_lawsKept (e : Envelope) (code : Nat) (r : Reply) : LawsKept r.state (respond e code r) := by
  have pend (u : Uplink) (t : State) : LawsKept t (updSve (fun v => { v with softReset := some u }) t) :=
    ⟨id, id, id, id, id⟩
  unfold respond
  simp only
  split
  · unfold offerAndReset
    simp only
    split
    · exact (offer_lawsKept _ _ _).trans (pend _ _)
    · exact (offer_lawsKept _ _ _).trans (softResetNow_lawsKept _)
  · exact offer_lawsKept _ _ _

theorem serve_lawsKept (e : Envelope) (r : Request) (s : State) : LawsKept s (serve e r s) := by
  unfold serve
  split
  · exact countRefused_lawsKept _ s
  · next h => exact (reply_lawsKept (by simpa using h)).trans (respond_lawsKept _ _ _)

theorem svcPop_lawsKept (s : State) : LawsKept s (svcPop s) := .of_keeps (svcPop_keeps s)

theorem serveCommand_lawsKept (e : Envelope) (r : Request) (s : State) : LawsKept s (serveCommand e r s) := by
  unfold serveCommand
  split
  · exact (svcPop_lawsKept s).trans (serve_lawsKept e r _)
  · unfold whenRunning
    split
    · unfold requestArrives
      simp only
      split
      · exact ((receiveFrame_lawsKept _ _ s).trans (svcPop_lawsKept _)).trans (serve_lawsKept e r _)
      · exact receiveFrame_lawsKept _ _ s
    · exact .refl s

theorem replyFrame_lawsKept {f : SvcFrame} {s : State} (port : portRefuses s f.arrival = false) :
    LawsKept s (replyFrame f s).state := by
  unfold replyFrame
  simp only
  split
  · exact .refl s
  · split
    · exact denied_lawsKept _ s
    · split
      · exact .refl s
      · exact reply_lawsKept port

theorem takeFrame_lawsKept (s : State) : LawsKept s (takeFrame s) := by
  have served (f : SvcFrame) (s : State) : LawsKept s (serveFrame f s) := by
    unfold serveFrame
    split
    · exact countRefused_lawsKept _ s
    · next h =>
      split
      · exact respond_lawsKept _ _ (answered .length s)
      · split
        · exact countRefused_lawsKept _ s
        · refine (replyFrame_lawsKept ?_).trans (respond_lawsKept _ _ _)
          simp only [frameRefused, Bool.or_eq_true, not_or, Bool.not_eq_true] at h
          exact h.2
  unfold takeFrame
  split
  · split
    · exact .refl s
    · exact (svcPop_lawsKept s).trans (served _ _)
  · exact .refl s

/-! ### Commands -/

theorem whenRunning_lawsKept {s t : State} (h : LawsKept s t) : LawsKept s (whenRunning s t) := by
  unfold whenRunning
  split
  · exact h
  · exact .refl s

theorem ite_lawsKept {c : Bool} {s t : State} (h : c = true → LawsKept s t) : LawsKept s (if c then t else s) := by
  split
  · next hc => exact h hc
  · exact .refl s

theorem linkUpReported_lawsKept (u : Uplink) (s : State) : LawsKept s (linkUpReported u s) := by
  have moved := LawsKept.of_keeps (updPins_keeps (fun p => { p with link := Bank.put p.link u true }) s)
  have up (t : State) : LawsKept t (linkComesUp u t) := by
    refine LawsKept.trans ?_ (raise_lawsKept _ _)
    exact .updUplink (f := fun r => { r with link := true }) rfl
  unfold linkUpReported
  simp only
  split
  · exact moved.trans (up _)
  · exact moved

theorem linkDownReported_lawsKept (u : Uplink) (s : State) : LawsKept s (linkDownReported u s) := by
  have moved := LawsKept.of_keeps (updPins_keeps (fun p => { p with link := Bank.put p.link u false }) s)
  have down (t : State) : LawsKept t (linkGoesDown u t) := by
    have raised : LawsKept t (raise (.uplinkChange u .linkDown) (updUplink u (fun r => { r with link := false }) t)) := by
      refine LawsKept.trans ?_ (raise_lawsKept _ _)
      exact .updUplink (f := fun r => { r with link := false }) rfl
    unfold linkGoesDown
    simp only
    split
    · split
      · exact (raised.trans (flush_lawsKept _ _)).trans (softResetNow_lawsKept _)
      · exact raised.trans (flush_lawsKept _ _)
    · exact raised
  unfold linkDownReported
  simp only
  split
  · exact moved.trans (down _)
  · exact moved

theorem endTransmission_lawsKept (p : Port) (s : State) : LawsKept s (endTransmission p s) := by
  have done := completeTransmission_lawsKept p s
  unfold endTransmission
  split
  · exact done.trans (softResetNow_lawsKept _)
  · exact done

/-- A state out of a running mode keeps the laws of the state whose records it has. -/
theorem stopped_lawsKept {m : Mode} (h : m ≠ .running) (s : State) : LawsKept s { s with mode := m } :=
  ⟨fun _ run => absurd run h, fun _ run => absurd run h, id, id, id⟩

theorem supplyStable_lawsKept (straps : BitVec 4) (s : State) : LawsKept s (supplyStable straps s) := by
  unfold supplyStable
  split
  · split
    · exact stopped_lawsKept (by decide) s
    · exact completePowerOn_lawsKept straps s
  all_goals exact .refl s

theorem lineAsserted_lawsKept (s : State) : LawsKept s (lineAsserted s) := by
  have moved := LawsKept.of_keeps (updPins_keeps (fun p => { p with resetN := true }) s)
  unfold lineAsserted
  simp only
  split
  · exact moved.trans (beginReset_lawsKept (by decide) _)
  all_goals exact moved

theorem lineReleased_lawsKept (straps : BitVec 4) (s : State) : LawsKept s (lineReleased straps s) := by
  have moved := LawsKept.of_keeps (updPins_keeps (fun p => { p with resetN := false }) s)
  unfold lineReleased
  simp only
  split
  · exact moved.trans (takeover_lawsKept _ _ _)
  · exact moved.trans (completePowerOn_lawsKept straps _)
  all_goals exact moved

theorem bayPresence_aside (present : Bool) (r : BayRec) :
    (bayPresence present r).state = r.state ∧ (bayPresence present r).pen = r.pen
      ∧ (bayPresence present r).sdr = r.sdr ∧ (bayPresence present r).grant = r.grant
      ∧ (bayPresence present r).critical = r.critical := by
  unfold bayPresence
  split <;> exact ⟨rfl, rfl, rfl, rfl, rfl⟩

theorem bayPresChanged_lawsKept (b : Bay) (present : Bool) (s : State) : LawsKept s (bayPresChanged b present s) := by
  have moved := LawsKept.of_keeps (updPins_keeps (fun p => { p with bayPres := Bank.put p.bayPres b present }) s)
  unfold bayPresChanged
  split
  · exact .refl s
  · simp only
    split
    · exact moved.trans (.updBay_aside (bayPresence_aside present))
    · exact moved

theorem bayPgAsserted_lawsKept (b : Bay) (s : State) : LawsKept s (bayPgAsserted b s) := by
  have moved := LawsKept.of_keeps (updPins_keeps (fun p => { p with bayPg := Bank.put p.bayPg b true }) s)
  unfold bayPgAsserted
  simp only
  split
  · next h =>
    simp only [Bool.and_eq_true, beq_iff_eq] at h
    exact moved.trans (completeRamp_lawsKept h.2)
  · exact moved

theorem bayPgLow_lawsKept (b : Bay) (s : State) : LawsKept s (bayPgLow b s) := by
  have moved := LawsKept.of_keeps (updPins_keeps (fun p => { p with bayPg := Bank.put p.bayPg b false }) s)
  unfold bayPgLow
  simp only
  split
  · exact moved.trans (powerFault_lawsKept b _)
  · exact moved

theorem psuPresChanged_lawsKept (p : Psu) (present : Bool) (s : State) : LawsKept s (psuPresChanged p present s) := by
  have moved := LawsKept.of_keeps (updPins_keeps (fun x => { x with psuPres := Bank.put x.psuPres p present }) s)
  unfold psuPresChanged
  split
  · exact .refl s
  · simp only
    split
    · exact moved.and (updSupply_keeps p _ _)
    · exact moved

theorem psuOkChanged_lawsKept (p : Psu) (asserted : Bool) (s : State) : LawsKept s (psuOkChanged p asserted s) := by
  have moved := LawsKept.of_keeps (updPins_keeps (fun x => { x with psuOk := Bank.put x.psuOk p asserted }) s)
  unfold psuOkChanged
  simp only
  split
  · exact (moved.and (updSupply_keeps p _ _)).trans (supplyChanged_lawsKept p _)
  · exact moved

theorem fanPresChanged_lawsKept (f : Fan) (present : Bool) (s : State) : LawsKept s (fanPresChanged f present s) := by
  have moved := LawsKept.of_keeps (updPins_keeps (fun x => { x with fanPres := Bank.put x.fanPres f present }) s)
  unfold fanPresChanged
  split
  · exact .refl s
  · simp only
    split
    · exact moved.trans (updFan_lawsKept f _ _)
    · exact moved

theorem answerAdmission_lawsKept (b : Bay) (s : State) : LawsKept s (answerAdmission b s) := by
  unfold answerAdmission
  split
  · next h =>
    have taken := takeAdmission_lawsKept h
    simp only
    split
    · exact taken.trans (completeRamp_lawsKept (takeAdmission_bayState b s))
    · exact taken
  · exact (LawsKept.of_keeps (updPbu_seq_keeps _ s)).and (evaluateHead_keeps _)

theorem insertSupply_lawsKept (p : Psu) (s : State) : LawsKept s (insertSupply p s) :=
  ((LawsKept.of_keeps (updSupply_keeps p _ s)).trans (requestScan_lawsKept _ _)).trans (evaluate_lawsKept _ _)

theorem removeSupply_lawsKept (p : Psu) (s : State) : LawsKept s (removeSupply p s) :=
  (((LawsKept.of_keeps (updSupply_keeps p _ s)).and (clearSlot_keeps _ _)).trans (evaluate_lawsKept _ _)).trans
    (testHold_lawsKept _)

theorem insertFan_lawsKept (f : Fan) (s : State) : LawsKept s (insertFan f s) :=
  ((updFan_lawsKept f _ s).trans (requestScan_lawsKept _ _)).trans (evaluate_lawsKept _ _)

theorem removeFan_lawsKept (f : Fan) (s : State) : LawsKept s (removeFan f s) :=
  ((updFan_lawsKept f _ s).and (clearSlot_keeps _ _)).trans (evaluate_lawsKept _ _)

theorem controlZones_lawsKept (s : State) : LawsKept s (controlZones s) := by
  have restarted : LawsKept s { s with thu := { s.thu with controlTimer := some Config.controlPeriod } } :=
    ⟨id, id, id, id, id⟩
  exact (((restarted.trans (computeZones_lawsKept _)).trans (driveZone_lawsKept 0 _)).trans
    (driveZone_lawsKept 1 _)).trans (driveZone_lawsKept 2 _)

theorem sweep_lawsKept (s : State) : LawsKept s (sweep s) := ⟨id, id, id, id, id⟩

/-! ### One step -/

theorem exec_lawsKept {c : Instr} {s t : State} (h : exec c s = .next t) : LawsKept s t := by
  obtain rfl : t = (match exec c s with | .next u => u | _ => s) := by rw [h]
  clear h
  cases c with
  | bayPresChange b present => exact bayPresChanged_lawsKept b present s
  | bayInsertionDebounceExpiry b =>
    refine whenRunning_lawsKept (ite_lawsKept fun h => ?_)
    simp only [Bool.and_eq_true, beq_iff_eq] at h
    exact insertBay_lawsKept h.2
  | bayRemovalDebounceExpiry b => exact whenRunning_lawsKept (ite_lawsKept fun _ => removeBay_lawsKept b s)
  | bayPgAsserted b => exact bayPgAsserted_lawsKept b s
  | bayPgLow b => exact bayPgLow_lawsKept b s
  | rampTimerExpiry b =>
    exact whenRunning_lawsKept (ite_lawsKept fun _ =>
      (dropTo_lawsKept s rfl).trans (rampEndUnpowered_lawsKept b _))
  | stopTimerExpiry b => exact whenRunning_lawsKept (ite_lawsKept fun _ => endStop_lawsKept b s)
  | admissionTaken =>
    refine whenRunning_lawsKept ?_
    unfold takeHandedAdmission
    split
    · exact answerAdmission_lawsKept _ s
    all_goals exact .refl s
  | shedTaken =>
    refine whenRunning_lawsKept ?_
    unfold takeHandedShed
    split
    · exact shedAnswered_lawsKept _ s
    · exact .refl s
  | psuPresChange p present => exact psuPresChanged_lawsKept p present s
  | psuInsertionDebounceExpiry p => exact whenRunning_lawsKept (ite_lawsKept fun _ => insertSupply_lawsKept p s)
  | psuRemovalDebounceExpiry p => exact whenRunning_lawsKept (ite_lawsKept fun _ => removeSupply_lawsKept p s)
  | psuOkChange p asserted => exact psuOkChanged_lawsKept p asserted s
  | adoptionHoldTimerExpiry =>
    exact whenRunning_lawsKept (ite_lawsKept fun _ =>
      (LawsKept.of_keeps (updPbu_hold_keeps _ _ s)).trans (evaluate_lawsKept _ _))
  | graceTimerExpiry =>
    exact whenRunning_lawsKept (ite_lawsKept fun _ =>
      (LawsKept.of_keeps (updEmg_keeps _ s)).trans (beginRun_lawsKept _))
  | staggerGapTimerExpiry =>
    exact whenRunning_lawsKept (ite_lawsKept fun _ =>
      (LawsKept.of_keeps (updPbu_gap_keeps _ _ s)).and (evaluateHead_keeps _))
  | sixteenthByteReceived k image => exact whenRunning_lawsKept (ite_lawsKept fun _ => judgeScan_lawsKept k image s)
  | scanNoAnswer k | scanTimerExpiry k =>
    exact whenRunning_lawsKept (ite_lawsKept fun _ =>
      (LawsKept.of_keeps (endTransaction_keeps s)).trans (scanFailed_lawsKept k _ _))
  | retryTimerExpiry k =>
    exact whenRunning_lawsKept (ite_lawsKept fun _ =>
      (LawsKept.of_keeps (queueSlot_keeps k s)).and (engineTakes_keeps _))
  | fanPresChange f present => exact fanPresChanged_lawsKept f present s
  | fanInsertionDebounceExpiry f => exact whenRunning_lawsKept (ite_lawsKept fun _ => insertFan_lawsKept f s)
  | fanRemovalDebounceExpiry f => exact whenRunning_lawsKept (ite_lawsKept fun _ => removeFan_lawsKept f s)
  | fanTachPulse f =>
    refine whenRunning_lawsKept ?_
    split
    · exact .refl s
    · exact updFan_lawsKept f _ s
  | tachWindowExpiry f => exact whenRunning_lawsKept (ite_lawsKept fun _ => tachWindow_lawsKept f s)
  | controlTimerExpiry => exact whenRunning_lawsKept (ite_lawsKept fun _ => controlZones_lawsKept s)
  | bayPortFrame b f => exact whenRunning_lawsKept (receiveFrame_lawsKept _ f s)
  | uplinkPortFrame u f => exact whenRunning_lawsKept (receiveFrame_lawsKept _ f s)
  | transmissionComplete p => exact whenRunning_lawsKept (ite_lawsKept fun _ => endTransmission_lawsKept p s)
  | agingSweepTimerExpiry => exact whenRunning_lawsKept (ite_lawsKept fun _ => sweep_lawsKept s)
  | linkUp u => exact linkUpReported_lawsKept u s
  | linkDown u => exact linkDownReported_lawsKept u s
  | powerOnResetBegin => exact beginReset_lawsKept (by decide) s
  | powerOnResetComplete straps => exact supplyStable_lawsKept straps s
  | resetNAsserted => exact lineAsserted_lawsKept s
  | resetNReleased straps => exact lineReleased_lawsKept straps s
  | serviceFrameTaken => exact takeFrame_lawsKept s
  | _ => exact serveCommand_lawsKept _ _ s

/-- A timer that runs still runs a ms later (00_scope.md section 5). -/
theorem tickTimer_eq_none (t : Timer) : tickTimer t = none ↔ t = none := by cases t <;> simp [tickTimer]

theorem bayRec_tick (s : State) (b : Bay) : bayRec (tick s) b = tickBay (bayRec s b) := by
  rw [bayRec, tick, Bank.read_update, bayRec]

theorem fanRec_tick (s : State) (f : Fan) : fanRec (tick s) f = tickFan (fanRec s f) := by
  rw [fanRec, tick, Bank.read_update, fanRec]

theorem thermalEntry_tick (s : State) (b : Bay) : thermalEntry (tick s) b = tickEntry (thermalEntry s b) := by
  rw [thermalEntry, tick, Bank.read_update, thermalEntry]

theorem zoneRec_tick (s : State) (z : Zone) : zoneRec (tick s) z = zoneRec s z := rfl

theorem uplinkRec_tick (s : State) (u : Uplink) : uplinkRec (tick s) u = uplinkRec s u := rfl

theorem tickFan_driveTrue {r : FanRec} (h : DriveTrue r) : DriveTrue (tickFan r) := by
  simpa only [DriveTrue, followDrive, tickFan, tickTimer_eq_none] using h

/-- One ms moves timers and thermal ages alone (R88). -/
theorem tick_lawsKept (s : State) : LawsKept s (tick s) := by
  refine .of_records rfl (fun b => ?_) (fun f => ?_) (fun b => ?_) (fun z => ?_) fun ⟨u, hu⟩ => ⟨u, ?_⟩
  · rw [bayRec_tick]; exact id
  · rw [fanRec_tick]; exact tickFan_driveTrue
  · rw [bayRec_tick, thermalEntry_tick]; exact id
  · rw [zoneRec_tick]; exact id
  · rw [uplinkRec_tick]; exact hu

theorem step_lawsKept {s t : State} (h : step s = .next t) : LawsKept s t := by
  unfold step at h
  split at h
  · obtain ⟨lines, drive, critical, curve, management⟩ := exec_lawsKept h
    exact ⟨lines, drive, critical, curve, management⟩
  · injection h with h
    subst h
    unfold idle
    split
    · split
      · exact ⟨id, id, id, id, id⟩
      · exact tick_lawsKept s
    · exact .refl s

/-- Settles O57: each command, each expiry and each ms keeps all five laws, by `step_lawsKept`. -/
theorem outputsFollowTheRecords : Obligations.OutputsFollowTheRecords :=
  ⟨fun _ _ h k => (step_lawsKept k).lines h, fun _ _ h k => (step_lawsKept k).drive h,
    fun _ _ h k => (step_lawsKept k).critical h, fun _ _ h k => (step_lawsKept k).curve h,
    fun _ _ h k => (step_lawsKept k).management h⟩

end Sys2Proof.Machine
end

section
/-! SUPPORT. What a raising comes to, said once: its bytes, its flag, its alert (R169, R173, R185), and how the flags
and alerts of several operations add up. -/

namespace Sys2Proof.Machine

/-! ### The bytes that the part sends -/

theorem sixBytes_eq (a : Addr) : sixBytes a = encodeAddr a := by
  have h : a.toNat < 2 ^ 48 := a.isLt
  simp only [sixBytes, encodeAddr, encode16, encode32, byteOf, List.cons_append, List.nil_append, List.cons.injEq,
    and_true]
  refine ⟨?_, ?_, ?_, ?_, ?_, ?_⟩ <;>
    (apply BitVec.eq_of_toNat_eq; simp [BitVec.extractLsb'_toNat, Nat.shiftRight_eq_div_pow]; try omega)

/-- A service frame as the statements lay it out is what the part sends (R163, R183, R184). -/
theorem serviceBytes_eq (s : State) (dst : Addr) (tag kind code status requestTag : Nat) (body : List Byte) :
    serviceBytes dst (serviceAddress s.sve.chassisNumber) tag kind code status requestTag body
      = serviceFrame s dst tag kind code status requestTag body := by
  have address : encodeAddr (serviceAddress s.sve.chassisNumber)
      = [0x02, 0xD5, 0x1C, 0x00, 0x0C] ++ oneByte s.sve.chassisNumber.toNat := by
    generalize s.sve.chassisNumber = n
    revert n; decide
  have padding : servicePadding tag body.length
      = List.replicate (64 - (14 + (if tag = 0 then 0 else 4) + 8 + body.length + 4)) 0 := by
    simp only [servicePadding, agreedLength, tagFieldLength]
    congr 1
    omega
  simp only [serviceBytes, serviceFrame, sixBytes_eq, address, padding, encode16, twoBytes, oneByte, byteOf]
  simp [Config.serviceType]

theorem positionIn_report (phase : EmgReport) :
    positionIn [.began, .exhausted, .ended] phase = [byteOf (reportByte phase)] := by cases phase <;> rfl

theorem positionIn_uplinkChange (change : UplinkChange) :
    positionIn [.linkUp, .linkDown, .setting] change = [byteOf (uplinkChangeByte change)] := by cases change <;> rfl

/-- An event record as the statements lay it out is the one that the part sends (R185). -/
theorem eventRecord_eq (c : Cause) : eventRecord c = recordOf c := by
  cases c with
  | emergency phase source => cases source <;> simp only [recordOf, positionIn_report] <;> rfl
  | queueDrop q => rcases q with (_ | _) | _ <;> rfl
  | uplinkChange u change => simp only [recordOf, positionIn_uplinkChange]; rfl
  | fanFault f recovered => cases recovered <;> rfl
  | zoneAlarm z left => cases left <;> rfl
  | translateDrop b fixedEntry => cases fixedEntry <;> rfl
  | _ => rfl

theorem alertCopy_eq (s : State) (a : Addr) (c : Cause) : alertCopy s a c = alertOf s a c := by
  rw [alertCopy, alertOf, serviceBytes_eq, eventRecord_eq]
  rfl

/-- An alert takes one cell (R173). -/
theorem copyCells_alertCopy (s : State) (a : Addr) (c : Cause) : copyCells (alertCopy s a c) = 1 := by
  simp [copyCells, copyLength, alertCopy, serviceBytes, tagFieldLength, eventRecord, agreedLength, cellsOf, ceilDiv,
    Config.cellBytes]

/-! ### Flags and queues after one operation -/

theorem flagRec_setFlag (c : Cause) (k : EventClass) (s : State) :
    flagRec (setFlag c s) k = if k = causeClass c then { raised := true, cause := some c } else flagRec s k :=
  Bank.read_put s.sve.flags (causeClass c) k _

@[simp] theorem queueOf_setFlag (c : Cause) (s : State) (p : Port) : queueOf (setFlag c s) p = queueOf s p := by
  cases p <;> rfl

@[simp] theorem usable_setFlag (c : Cause) (s : State) (u : Uplink) : usable (setFlag c s) u = usable s u := rfl
@[simp] theorem fits_setFlag (c : Cause) (s : State) (p : Port) (n : Nat) : fits (setFlag c s) p n = fits s p n := by
  rw [fits, queueOf_setFlag]; rfl

theorem queueOf_countDropped (n : Nat) (p r : Port) (s : State) :
    queueOf (countDropped n p s) r
      = if r = p then { queueOf s p with dropped := satAdd (queueOf s p).dropped n Config.top32 } else queueOf s r := by
  rw [countDropped, queueOf_putQueue]

@[simp] theorem usable_countDropped (n : Nat) (p : Port) (s : State) (u : Uplink) :
    usable (countDropped n p s) u = usable s u := usable_congr (by simp [countDropped]) u

theorem flagRec_countDropped (n : Nat) (p : Port) (s : State) (k : EventClass) :
    flagRec (countDropped n p s) k = flagRec s k := by rw [flagRec, countDropped, putQueue_sve, flagRec]

theorem queueOf_enqueueCopy (p r : Port) (c : Copy) (s : State) :
    queueOf (enqueueCopy p c s) r = if r = p then { queueOf s p with
      frames := (queueOf s p).frames ++ [c], held := (queueOf s p).held + copyCells c
      enqueued := satAdd (queueOf s p).enqueued 1 Config.top32, sending := (queueOf s p).sending || served s p }
      else queueOf s r := by
  rw [enqueueCopy, ← queueOf_putQueue p r _ s]
  cases r <;> rfl

theorem enqueueCopy_free (p : Port) (c : Copy) (s : State) :
    (enqueueCopy p c s).fbm.free = s.fbm.free - copyCells c := by simp [enqueueCopy]

theorem flagRec_enqueueCopy (p : Port) (c : Copy) (s : State) (k : EventClass) :
    flagRec (enqueueCopy p c s) k = flagRec s k := by simp [enqueueCopy, flagRec]

/-! ### A raising, by what its alert comes to -/

/-- The uplink queue has room for one cell (R156). -/
theorem fits_uplink_iff (s : State) (u : Uplink) :
    fits s (.uplink u) 1 = true ↔ (queueOf s (.uplink u)).held + 1 ≤ (queueOf s (.uplink u)).quota ∧ 1 ≤ s.fbm.free := by
  simp [fits]

/-- No alert is due, or none can be sent: the flag alone is written (R169, R173). -/
theorem raise_quiet {c : Cause} {s : State}
    (h : alertDue c s = false ∨ ∀ x, s.sve.alertTarget = some x → usable s x.1 = false) :
    raise c s = setFlag c s := by
  unfold raise
  cases hd : alertDue c s with
  | false => simp
  | true =>
    have none_ : ∀ x, s.sve.alertTarget = some x → usable s x.1 = false := by simpa [hd] using h
    have target : (setFlag c s).sve.alertTarget = s.sve.alertTarget := rfl
    have sent : sendAlert c (setFlag c s) = setFlag c s := by
      unfold sendAlert
      rw [target]
      cases ht : s.sve.alertTarget with
      | none => rfl
      | some x => simp [none_ x ht]
    have kept : alertLost c (setFlag c s) = none := by
      unfold alertLost
      rw [target]
      cases ht : s.sve.alertTarget with
      | none => rfl
      | some x => simp [none_ x ht]
    simp [sent, kept]

section
variable {c : Cause} {s : State} {u : Uplink} {a : Addr}

/-- The alert enters its queue (R156, R173). -/
theorem raise_sent (due : alertDue c s = true) (target : s.sve.alertTarget = some (u, a)) (up : usable s u = true)
    (room : fits s (.uplink u) 1 = true) :
    raise c s = enqueueCopy (.uplink u) (alertCopy s a c) (setFlag c s) := by
  have target' : (setFlag c s).sve.alertTarget = some (u, a) := target
  have copy : alertCopy (setFlag c s) a c = alertCopy s a c := rfl
  have verdict : offerVerdict (.uplink u) (alertCopy s a c) (setFlag c s) = .admitted := by
    simp [offerVerdict, up, copyCells_alertCopy, room]
  simp [raise, due, sendAlert, alertLost, target', up, copy, offerQuiet, verdict]

/-- An alert without room is counted as dropped. -/
theorem sendAlert_lost (target : s.sve.alertTarget = some (u, a)) (up : usable s u = true)
    (full : fits s (.uplink u) 1 = false) :
    sendAlert c s = countDropped 1 (.uplink u) s ∧ alertLost c s = some u := by
  have verdict : offerVerdict (.uplink u) (alertCopy s a c) s = .lost := by
    simp [offerVerdict, up, copyCells_alertCopy, full]
  simp [sendAlert, alertLost, target, up, offerQuiet, verdict]

/-- The alert is lost, which raises QUEUE_DROP, with one further alert at most, lost as well (R156, R173). -/
theorem raise_lost (due : alertDue c s = true) (target : s.sve.alertTarget = some (u, a)) (up : usable s u = true)
    (full : fits s (.uplink u) 1 = false) :
    let d := Cause.queueDrop (.egress (.uplink u))
    let lost := setFlag d (countDropped 1 (.uplink u) (setFlag c s))
    raise c s = if alertDue d (setFlag c s) then countDropped 1 (.uplink u) lost else lost := by
  have first := sendAlert_lost (c := c) (s := setFlag c s) (u := u) (a := a) target up (by simpa using full)
  have again : sendAlert (.queueDrop (.egress (.uplink u)))
      (setFlag (.queueDrop (.egress (.uplink u))) (countDropped 1 (.uplink u) (setFlag c s)))
        = countDropped 1 (.uplink u)
          (setFlag (.queueDrop (.egress (.uplink u))) (countDropped 1 (.uplink u) (setFlag c s))) := by
    refine (sendAlert_lost (u := u) (a := a) ?_ ?_ ?_).1
    · simpa [setFlag, countDropped] using target
    · simp [up]
    · rw [fits_setFlag, fits, queueOf_countDropped, if_pos rfl, queueOf_setFlag]
      simpa [fits, countDropped, setFlag] using full
  have dueAgain : alertDue (.queueDrop (.egress (.uplink u))) (countDropped 1 (.uplink u) (setFlag c s))
      = alertDue (.queueDrop (.egress (.uplink u))) (setFlag c s) := by
    rw [alertDue, alertDue, flagRec_countDropped, countDropped, putQueue_sve]
  simp only [raise, due, if_true, first.1, first.2, again, dueAgain]

end

end Sys2Proof.Machine
end

section
/-! SUPPORT. A raising in the terms of the statements, and the flags and alerts of a chain of operations. -/

namespace Sys2Proof.Machine

/-! ### One raising -/

theorem satAdd_top32 (n k : Nat) : satAdd n k Config.top32 = min (n + k) 4294967295 := rfl

theorem alertDue_iff (c : Cause) (s : State) : alertDue c s = true ↔
    (flagRec s (causeClass c)).raised = false ∧ Bank.read s.sve.unmasked (causeClass c) = true := by
  simp [alertDue]

theorem flagsKeptBut_setFlag (c : Cause) (s : State) : FlagsKeptBut [causeClass c] s (setFlag c s) := by
  intro k hk
  rw [flagRec_setFlag, if_neg (by simpa using hk)]

/-- Raising an event is what R169 and R173 say of it. -/
theorem raise_alerted (c : Cause) (s : State) : Alerted c s (raise c s) := by
  have uplinks : ∀ u, usable (raise c s) u = usable s u := (raise_keeps c s).usable_eq
  refine ⟨?_, ?_⟩
  · rintro ⟨u, a⟩ target due up
    rw [uplinks] at up
    replace due := (alertDue_iff c s).mpr due
    refine ⟨?_, ?_, ?_⟩
    · intro v hv
      have other : Port.uplink v ≠ .uplink u := fun h => hv (Port.uplink.inj h)
      cases full : fits s (.uplink u) 1 with
      | true => rw [raise_sent due target up full, queueOf_enqueueCopy, if_neg other, queueOf_setFlag]
      | false =>
        rw [raise_lost due target up full]
        split <;> simp [queueOf_countDropped, other]
    · intro room
      rw [raise_sent due target up ((fits_uplink_iff s u).mpr room)]
      refine ⟨?_, ?_, ?_, ?_⟩
      · rw [Raised, flagRec_enqueueCopy, flagRec_setFlag, if_pos rfl]
      · intro k hk
        rw [flagRec_enqueueCopy, flagsKeptBut_setFlag c s k hk]
      · rw [enqueueCopy_free, copyCells_alertCopy]; rfl
      · rw [queueOf_enqueueCopy, if_pos rfl, queueOf_setFlag, copyCells_alertCopy, alertCopy_eq, satAdd_top32]
        simp [served, up]
    · intro noRoom
      have full : fits s (.uplink u) 1 = false := by
        rw [← Bool.not_eq_true, fits_uplink_iff]; exact noRoom
      have further : alertDue (.queueDrop (.egress (.uplink u))) (setFlag c s) = true
          ↔ (flagRec s 7).raised = false ∧ Bank.read s.sve.unmasked 7 = true ∧ causeClass c ≠ 7 := by
        rw [alertDue_iff, flagRec_setFlag]
        change (if (7 : EventClass) = causeClass c then (_ : EventRec) else flagRec s 7).raised = false
          ∧ Bank.read s.sve.unmasked 7 = true ↔ _
        by_cases h : (7 : EventClass) = causeClass c
        · simp [← h]
        · simp [h, Ne.symm h]
      rw [raise_lost due target up full]
      refine ⟨fun hk => ?_, ?_, fun k hk => ?_, ?_, ?_⟩
      · rw [Raised]
        split <;> simp [flagRec_countDropped, flagRec_setFlag, show causeClass (.queueDrop (.egress (.uplink u))) = 7 from rfl, hk]
      · rw [Raised]
        split <;> simp [flagRec_countDropped, flagRec_setFlag]
      · simp only [List.mem_cons, List.not_mem_nil, or_false, not_or] at hk
        split <;> simp [flagRec_countDropped, flagRec_setFlag, show causeClass (.queueDrop (.egress (.uplink u))) = 7 from rfl, hk]
      · split <;> simp [countDropped, setFlag]
      · split
        · next h =>
          rw [if_pos (further.mp h), queueOf_countDropped, if_pos rfl, queueOf_setFlag, queueOf_countDropped, if_pos rfl,
            queueOf_setFlag]
          simp only [satAdd_top32]
          congr 1
          omega
        · next h =>
          rw [if_neg (mt further.mpr h), queueOf_setFlag, queueOf_countDropped, if_pos rfl, queueOf_setFlag,
            satAdd_top32]
  · intro h
    have quiet : raise c s = setFlag c s := by
      refine raise_quiet (h.imp (fun due => ?_) fun none_ x hx => ?_)
      · rw [← Bool.not_eq_true, alertDue_iff]; exact due
      · rw [← uplinks]; exact none_ x hx
    rw [quiet]
    refine ⟨?_, flagsKeptBut_setFlag c s, rfl, fun v => queueOf_setFlag c s _⟩
    rw [Raised, flagRec_setFlag, if_pos rfl]

/-! ### The uplink queues gain alerts at most -/

/-- What an uplink's queue may gain, its gain named. -/
theorem alertsOnlyAt_iff (u : Uplink) (s t : State) :
    AlertsOnlyAt u s t ↔
      (s.sve.alertTarget.map (·.1) ≠ some u → queueOf t (.uplink u) = queueOf s (.uplink u))
      ∧ ∃ gained : List Copy,
        (queueOf t (.uplink u)).frames = (queueOf s (.uplink u)).frames ++ gained
        ∧ (queueOf t (.uplink u)).quota = (queueOf s (.uplink u)).quota ∧ (∀ c ∈ gained, c.kind = .alert)
        ∧ (queueOf t (.uplink u)).held = (queueOf s (.uplink u)).held + gained.length
        ∧ (gained = [] → queueOf t (.uplink u)
            = { queueOf s (.uplink u) with dropped := (queueOf t (.uplink u)).dropped })
        ∧ (gained ≠ [] → (queueOf t (.uplink u)).enqueued
            = min ((queueOf s (.uplink u)).enqueued + gained.length) 4294967295) := by
  constructor
  · rintro ⟨other, quota, prefix_, kinds, held, none_, some_⟩
    refine ⟨other, _, ?_, quota, kinds, held, none_, some_⟩
    conv_lhs => rw [← List.take_append_drop (queueOf s (.uplink u)).frames.length (queueOf t (.uplink u)).frames]
    rw [prefix_]
  · rintro ⟨other, gained, frames, quota, kinds, held, none_, some_⟩
    have drop : (queueOf t (.uplink u)).frames.drop (queueOf s (.uplink u)).frames.length = gained := by simp [frames]
    refine ⟨other, quota, by simp [frames], ?_, ?_, ?_, ?_⟩ <;> simp only [drop] <;> assumption

theorem AlertsOnlyAt.of_eq {u : Uplink} {s t : State} (h : queueOf t (.uplink u) = queueOf s (.uplink u)) :
    AlertsOnlyAt u s t := by
  rw [alertsOnlyAt_iff, h]
  exact ⟨fun _ => rfl, [], by simp⟩

theorem AlertsOnlyAt.trans {u : Uplink} {s t w : State} (h : AlertsOnlyAt u s t) (k : AlertsOnlyAt u t w)
    (target : t.sve.alertTarget = s.sve.alertTarget) : AlertsOnlyAt u s w := by
  rw [alertsOnlyAt_iff] at *
  obtain ⟨other, g, frames, quota, kinds, held, none_, some_⟩ := h
  obtain ⟨other', g', frames', quota', kinds', held', none', some'⟩ := k
  refine ⟨fun ne => (other' (target ▸ ne)).trans (other ne), g ++ g', ?_, quota'.trans quota, ?_, ?_, ?_, ?_⟩
  · rw [frames', frames, List.append_assoc]
  · simpa [or_imp, forall_and] using ⟨kinds, kinds'⟩
  · rw [held', held, List.length_append, Nat.add_assoc]
  · intro both
    obtain ⟨e, e'⟩ := List.append_eq_nil_iff.mp both
    rw [none' e', none_ e]
  · intro both
    rw [List.length_append]
    by_cases e : g = []
    · have same : (queueOf t (.uplink u)).enqueued = (queueOf s (.uplink u)).enqueued := by rw [none_ e]
      rw [some' (by simpa [e] using both), same, e, List.length_nil, Nat.zero_add]
    · by_cases e' : g' = []
      · have same : (queueOf w (.uplink u)).enqueued = (queueOf t (.uplink u)).enqueued := by rw [none' e']
        rw [same, some_ e, e', List.length_nil, Nat.add_zero]
      · rw [some' e', some_ e]
        omega

/-- A raising gives the uplink queues alerts at most. -/
theorem Alerted.alertsOnly {c : Cause} {s t : State} (h : Alerted c s t) : AlertsOnly s t := by
  obtain ⟨sent, quiet⟩ := h
  intro u
  by_cases due : (flagRec s (causeClass c)).raised = false ∧ Bank.read s.sve.unmasked (causeClass c) = true
  case neg => exact .of_eq ((quiet (.inl due)).2.2.2 u)
  by_cases open_ : ∀ x, s.sve.alertTarget = some x → usable t x.1 = false
  case pos => exact .of_eq ((quiet (.inr open_)).2.2.2 u)
  push Not at open_
  obtain ⟨x, target, up⟩ := open_
  obtain ⟨other, room, full⟩ := sent x target due (by simpa using up)
  by_cases hu : u = x.1
  case neg => exact .of_eq (other u hu)
  subst hu
  rw [alertsOnlyAt_iff]
  refine ⟨fun ne => absurd (by simp [target]) ne, ?_⟩
  by_cases hr : (queueOf s (.uplink x.1)).held + 1 ≤ (queueOf s (.uplink x.1)).quota ∧ 1 ≤ s.fbm.free
  · refine ⟨[alertOf s x.2 c], ?_⟩
    rw [(room hr).2.2.2]
    simp [alertOf]
  · refine ⟨[], ?_⟩
    rw [(full hr).2.2.2.2]
    simp

/-- A raising touches its own flag, and QUEUE_DROP by a lost alert. -/
theorem Alerted.flagsKept {c : Cause} {s t : State} (h : Alerted c s t) : FlagsKeptBut [causeClass c, 7] s t := by
  obtain ⟨sent, quiet⟩ := h
  have one (k : FlagsKeptBut [causeClass c] s t) : FlagsKeptBut [causeClass c, 7] s t := fun x hx =>
    k x fun hx' => hx (by simp_all)
  by_cases due : (flagRec s (causeClass c)).raised = false ∧ Bank.read s.sve.unmasked (causeClass c) = true
  case neg => exact one (quiet (.inl due)).2.1
  by_cases open_ : ∀ x, s.sve.alertTarget = some x → usable t x.1 = false
  case pos => exact one (quiet (.inr open_)).2.1
  push Not at open_
  obtain ⟨x, target, up⟩ := open_
  obtain ⟨_, room, full⟩ := sent x target due (by simpa using up)
  by_cases hr : (queueOf s (.uplink x.1)).held + 1 ≤ (queueOf s (.uplink x.1)).quota ∧ 1 ≤ s.fbm.free
  · exact one (room hr).2.1
  · exact (full hr).2.2.1

/-! ### The reports of a chain of operations -/

/-- Flags of the listed classes may have been raised, with their alerts, and nothing else has become of the flags, the
uplink queues and the alert target (R169, R173). -/
structure Reported (classes : List EventClass) (s t : State) : Prop where
  flags : FlagsKeptBut classes s t
  alerts : AlertsOnly s t
  target : t.sve.alertTarget = s.sve.alertTarget

theorem Reported.of_keeps {l : List Part} {classes : List EventClass} {s t : State} (h : KeepsAllBut l s t)
    (hl : ∀ p ∈ [Part.flags, .uplinkQueues, .alertTarget], p ∉ l := by decide) : Reported classes s t where
  flags k _ := h.flagRec_eq k (hl _ (by decide))
  alerts u := .of_eq (h.uplinkQueue_eq u (hl _ (by decide)))
  target := h .alertTarget (hl _ (by decide))

theorem Reported.refl (classes : List EventClass) (s : State) : Reported classes s s :=
  .of_keeps (KeepsAllBut.refl [] s)

theorem Reported.trans {classes : List EventClass} {s t u : State} (h : Reported classes s t)
    (k : Reported classes t u) : Reported classes s u where
  flags c hc := (k.flags c hc).trans (h.flags c hc)
  alerts v := (h.alerts v).trans (k.alerts v) h.target
  target := k.target.trans h.target

theorem Reported.mono {classes classes' : List EventClass} {s t : State} (h : Reported classes s t)
    (hc : classes ⊆ classes' := by decide) : Reported classes' s t :=
  ⟨fun c n => h.flags c fun m => n (hc m), h.alerts, h.target⟩

/-- An operation that reports no more than is allowed, after one that does. -/
theorem Reported.and {classes classes' : List EventClass} {s t u : State} (h : Reported classes s t)
    (k : Reported classes' t u) (hc : classes' ⊆ classes := by decide) : Reported classes s u := h.trans (k.mono hc)

theorem raise_reported (c : Cause) (s : State) : Reported [causeClass c, 7] s (raise c s) where
  flags := (raise_alerted c s).flagsKept
  alerts := (raise_alerted c s).alertsOnly
  target := raise_keeps c s .alertTarget (by decide)

/-- A flag that is not among those raised keeps its cause. -/
theorem Raised.kept {c : Cause} {classes : List EventClass} {s t : State} (h : Raised c s) (k : Reported classes s t)
    (hc : causeClass c ∉ classes := by simp [causeClass]) : Raised c t := (k.flags _ hc).trans h

theorem enterState_reported (b : Bay) (st : BayState) (s : State) : Reported [0, 7] s (enterState b st s) :=
  Reported.trans (.of_keeps (updBay_keeps b _ s)) (raise_reported (.bayChange b) _)

theorem enterState_raised (b : Bay) (st : BayState) (s : State) : Raised (.bayChange b) (enterState b st s) :=
  raise_raised _ _ (by simp [causeClass])

theorem beginEmergency_reported (source : EmgSource) (s : State) : Reported [2, 7] s (beginEmergency source s) :=
  (((Reported.of_keeps (updPbu_gates_keeps _ _ s)).trans (.of_keeps (updBays_keeps _ _))).trans
    (.of_keeps (updEmg_keeps _ _))).trans (raise_reported (.emergency .began source) _)

theorem endRun_reported (s : State) : Reported [3, 7] s (endRun s) := by
  have h := Reported.of_keeps (classes := [3, 7]) (updEmg_keeps (fun e => { e with runShed := false }) s)
  unfold endRun
  simp only
  split
  · exact h.trans (raise_reported (.shed _) _)
  · exact h

theorem endEmergency_reported (source : EmgSource) (s : State) : Reported [2, 3, 7] s (endEmergency source s) :=
  ((((Reported.of_keeps (updEmg_keeps _ s)).trans (.of_keeps (updBays_keeps _ _))).trans
    (.of_keeps (updPbu_ae_keeps _ _))).and (endRun_reported _)).and (classes' := [2, 7])
    (raise_reported (.emergency .ended source) _)

theorem enterExhausted_reported (s : State) : Reported [2, 3, 7] s (enterExhausted s) :=
  ((Reported.of_keeps (updEmg_keeps _ s)).and (endRun_reported _)).and (classes' := [2, 7])
    (raise_reported (.emergency .exhausted .none) _)

theorem handShed_reported (s : State) : Reported [2, 3, 7] s (handShed s) := by
  unfold handShed
  split
  · exact .of_keeps (updEmg_keeps _ s)
  · exact enterExhausted_reported s

theorem beginRun_reported (s : State) : Reported [2, 3, 7] s (beginRun s) :=
  (Reported.of_keeps (updEmg_keeps _ s)).trans (handShed_reported _)

theorem compareBudget_reported (source : EmgSource) (s : State) : Reported [2, 3, 7] s (compareBudget source s) := by
  unfold compareBudget
  split
  · split
    · exact .refl _ s
    · exact (beginEmergency_reported source s).mono
  · exact endEmergency_reported source s
  · exact endEmergency_reported source s
  · split
    · exact beginRun_reported s
    · exact .refl _ s
  all_goals exact .refl _ s

theorem evaluateHead_reported (classes : List EventClass) (s : State) : Reported classes s (evaluateHead s) :=
  .of_keeps (evaluateHead_keeps s)

/-- An evaluation reports by EMERGENCY and SHED alone (R74, R81). -/
theorem evaluate_reported (source : EmgSource) (s : State) : Reported [2, 3, 7] s (evaluate source s) :=
  ((Reported.of_keeps (recordFigures_keeps s)).trans (compareBudget_reported source _)).trans
    (evaluateHead_reported _ _)

theorem testHold_reported (s : State) : Reported [2, 3, 7] s (testHold s) := by
  unfold testHold
  split
  · exact (Reported.of_keeps (updPbu_hold_keeps _ _ s)).trans (evaluate_reported _ _)
  · exact .refl _ s

theorem supplyChanged_reported (p : Psu) (s : State) : Reported [2, 3, 7] s (supplyChanged p s) := by
  have written := Reported.of_keeps (classes := [2, 3, 7]) (updSupply_keeps p (fun _ => supplyNow s p) s)
  have evaluated (c : Prop) [Decidable c] (t : State) :
      Reported [2, 3, 7] t (if c then t else evaluate (.supply p) t) := by
    split
    · exact .refl _ t
    · exact evaluate_reported _ t
  unfold supplyChanged
  simp only [recomputeSupply]
  split
  · exact written.trans (evaluated _ _)
  · exact (written.trans (evaluated _ _)).trans (testHold_reported _)

theorem completeAtBay_reported (b : Bay) (s : State) : Reported [0, 7] s (completeAtBay b s) := by
  unfold completeAtBay
  split
  · exact enterState_reported b _ s
  iterate 5 exact .of_keeps (updBay_keeps b _ s)
  exact .refl _ s

theorem reportComplete_reported (k : Slot) (s : State) : Reported [0, 2, 3, 7] s (reportComplete k s) := by
  unfold reportComplete
  split
  · exact ((completeAtBay_reported _ s).mono).and (evaluate_reported _ _)
  · exact (supplyChanged_reported _ s).mono
  · exact (evaluate_reported _ s).mono

theorem reportStatus_reported (k : Slot) (s : State) : Reported [2, 3, 7] s (reportStatus k s) := by
  unfold reportStatus
  split
  · exact evaluate_reported _ s
  · exact supplyChanged_reported _ s
  · exact evaluate_reported _ s

theorem requestScan_reported (k : Slot) (s : State) : Reported [2, 3, 7] s (requestScan k s) := by
  have requested := (Reported.of_keeps (classes := [2, 3, 7]) (freshRequest_keeps k s)).trans
    (.of_keeps (engineTakes_keeps _))
  unfold requestScan
  simp only
  split
  · exact requested.trans (reportStatus_reported k _)
  · exact requested

end Sys2Proof.Machine
end

section
/-! SUPPORT. What stands before and after a budget evaluation: an evaluation speaks of every state that differs from its
own in nothing that the comparison, the figures or the head depends on (R54, R61, R77). -/

namespace Sys2Proof.Machine

/-! ### What the budget depends on -/

/-- The two states have the same inputs to the figures, to the choice of the bay to shed and to the grant of the head
(R51 to R53, R61, R77). -/
structure SameBudget (s t : State) : Prop where
  accepts : ∀ b, accepting (bayState t b) = accepting (bayState s b)
  main : ∀ b, hasMain (bayState t b) = hasMain (bayState s b)
  up : ∀ b, isUp (bayState t b) = isUp (bayState s b)
  grant : ∀ b, (bayRec t b).grant = (bayRec s b).grant
  cap : ∀ b, (bayRec t b).cap = (bayRec s b).cap
  priority : ∀ b, priorityOf t b = priorityOf s b
  complete : ∀ k, isComplete t k = isComplete s k
  ident : ∀ k, (slotRec t k).ident = (slotRec s k).ident
  supply : ∀ p, supplyRec t p = supplyRec s p
  fan : ∀ f, (fanRec t f).state = (fanRec s f).state
  policy : t.pbu.policy = s.pbu.policy

theorem SameBudget.refl (s : State) : SameBudget s s := by constructor <;> simp

theorem SameBudget.trans {s t u : State} (h : SameBudget s t) (k : SameBudget t u) : SameBudget s u where
  accepts b := (k.accepts b).trans (h.accepts b)
  main b := (k.main b).trans (h.main b)
  up b := (k.up b).trans (h.up b)
  grant b := (k.grant b).trans (h.grant b)
  cap b := (k.cap b).trans (h.cap b)
  priority b := (k.priority b).trans (h.priority b)
  complete b := (k.complete b).trans (h.complete b)
  ident b := (k.ident b).trans (h.ident b)
  supply b := (k.supply b).trans (h.supply b)
  fan b := (k.fan b).trans (h.fan b)
  policy := k.policy.trans h.policy

/-- The bays but for an emergency's cause, and the slots, supplies, fans and policy, are all of the budget's inputs. -/
theorem SameBudget.of_bays {l : List Part} {s t : State} (h : KeepsAllBut l s t)
    (bays : ∀ b, sameBayRecord (bayRec s b) (bayRec t b))
    (hl : ∀ p ∈ [Part.slots, .supplies, .fans, .powerPolicy], p ∉ l := by decide) : SameBudget s t where
  accepts b := by rw [bayState, bays b, bayState]
  main b := by rw [bayState, bays b, bayState]
  up b := by rw [bayState, bays b, bayState]
  grant b := by rw [bays b]
  cap b := by rw [bays b]
  priority b := by rw [priorityOf, bays b, priorityOf]
  complete k := h.isComplete_eq k (hl _ (by decide))
  ident k := by rw [h.slotRec_eq k (hl _ (by decide))]
  supply p := h.supplyRec_eq p (hl _ (by decide))
  fan f := by rw [h.fanRec_eq f (hl _ (by decide))]
  policy := h .powerPolicy (hl _ (by decide))

theorem SameBudget.of_keeps {l : List Part} {s t : State} (h : KeepsAllBut l s t)
    (hl : ∀ p ∈ [Part.bays, .slots, .supplies, .fans, .powerPolicy], p ∉ l := by decide) : SameBudget s t :=
  .of_bays h (fun b => .of_eq (h.bayRec_eq b (hl _ (by decide)))) fun p hp => hl p (List.mem_cons_of_mem _ hp)

section
variable {s t : State} (h : SameBudget s t)
include h

theorem SameBudget.figuresOf_eq : figuresOf t = figuresOf s := by
  have standby (b) : standbyOf t b = standbyOf s b := by
    have accepts := h.accepts b
    simp only [standbyOf, h.complete, h.ident]
    cases hs : bayState s b <;> cases ht : bayState t b <;> simp [hs, ht, accepting] at accepts ⊢
  have grant (b) : grantOf t b = grantOf s b := by simp only [grantOf, h.main, h.grant]
  have fan (f) : fanPowerOf t f = fanPowerOf s f := by simp only [fanPowerOf, h.fan, h.complete, h.ident]
  have caps : okCapacities t = okCapacities s := by simp only [okCapacities, h.supply]
  simp only [figuresOf, caps, h.policy, funext standby, funext grant, funext fan]

theorem SameBudget.chooseShed_eq : chooseShed t = chooseShed s := by
  have ramping (b) : (bayState t b == .ramping) = (bayState s b == .ramping) := by
    have main := h.main b
    have up := h.up b
    cases hs : bayState s b <;> cases ht : bayState t b <;> simp [hs, ht, hasMain, isUp] at main up ⊢
  have later (best b) : laterShed t best b = laterShed s best b := by simp only [laterShed, h.up, h.priority]
  simp only [chooseShed, ramping, funext fun best => funext (later best)]

theorem SameBudget.classGrant_eq (b : Bay) : classGrant t b = classGrant s b := by
  simp only [classGrant, classMax, h.ident, h.cap]

end

/-! ### An emergency that stands -/

theorem EmergencyKept.refl (s : State) : EmergencyKept s s := ⟨rfl, ⟨rfl, rfl⟩, fun _ => rfl, rfl⟩

theorem EmergencyKept.trans {s t u : State} (h : EmergencyKept s t) (k : EmergencyKept t u) : EmergencyKept s u := by
  obtain ⟨emg, gates, cause, flag⟩ := h
  obtain ⟨emg', gates', cause', flag'⟩ := k
  exact ⟨Part.same_trans .emergency emg emg', Part.same_trans .gates gates gates',
    fun c => (cause' c).trans (cause c), flag'.trans flag⟩

/-- An operation that reports no EMERGENCY and touches neither the record, the gates nor the causes. -/
theorem EmergencyKept.of_reported {l : List Part} {classes : List EventClass} {s t : State} (h : KeepsAllBut l s t)
    (cause : ∀ c, (bayRec t c).emergencyCause = (bayRec s c).emergencyCause) (r : Reported classes s t)
    (hl : Part.emergency ∉ l ∧ Part.gates ∉ l := by decide) (hc : 2 ∉ classes := by decide) : EmergencyKept s t :=
  ⟨h .emergency hl.1, h .gates hl.2, cause, r.flags 2 hc⟩

theorem EmergencyKept.of_keeps {l : List Part} {s t : State} (h : KeepsAllBut l s t)
    (hl : ∀ p ∈ [Part.emergency, .gates, .bays, .flags], p ∉ l := by decide) : EmergencyKept s t :=
  ⟨h .emergency (hl _ (by decide)), h .gates (hl _ (by decide)),
    fun c => by rw [h.bayRec_eq c (hl _ (by decide))], h.flagRec_eq 2 (hl _ (by decide))⟩

/-! ### Before an evaluation -/

/-- A comparison speaks of the state before an operation that leaves the emergency and the hold. -/
theorem Compared.before {source : EmgSource} {s s' t : State} (h : Compared source s' t) (k : EmergencyKept s s')
    (hold : s'.pbu.hold = s.pbu.hold) : Compared source s t := by
  have emg : s'.pbu.emg = s.pbu.emg := k.1
  have gates : s'.pbu.ae = s.pbu.ae ∧ s'.pbu.ae2 = s.pbu.ae2 := k.2.1
  have kept : EmergencyKept s' t → EmergencyKept s t := k.trans
  unfold Compared BeganEmergency EndedEmergency at *
  rw [emg, hold, gates.1, gates.2] at h
  obtain ⟨figures, began, none_, ended, grace, shedding, standing, again⟩ := h
  exact ⟨figures, began, fun x y => kept (none_ x y), ended, fun x y => kept (grace x y), kept ∘ shedding,
    fun x y z => kept (standing x y z), fun x y b z => by
      obtain ⟨e, g, f⟩ := again x y b z
      exact ⟨e, Part.same_trans .gates k.2.1 g, f.trans k.2.2.2⟩⟩

theorem EvaluatedFor.before {source : EmgSource} {s s' t : State} (h : EvaluatedFor source s' t)
    (k : EmergencyKept s s') (hold : s'.pbu.hold = s.pbu.hold) (seq : Part.sequencer.same s s') :
    EvaluatedFor source s t := by
  obtain ⟨seq, gap⟩ : s'.pbu.seq = s.pbu.seq ∧ s'.pbu.gapTimer = s.pbu.gapTimer := seq
  obtain ⟨compared, gap', idle, busy⟩ := h
  rw [seq] at idle busy
  exact ⟨compared.before k hold, gap'.trans gap, idle, busy⟩

/-! ### After an evaluation -/

/-- Nothing that the budget depends on, and nothing that it has decided, differs between the two states. -/
structure BudgetKept (s t : State) : Prop where
  emergency : EmergencyKept s t
  inputs : SameBudget s t
  figures : t.pbu.figures = s.pbu.figures
  hold : t.pbu.hold = s.pbu.hold

theorem BudgetKept.refl (s : State) : BudgetKept s s := ⟨.refl s, .refl s, rfl, rfl⟩

theorem BudgetKept.trans {s t u : State} (h : BudgetKept s t) (k : BudgetKept t u) : BudgetKept s u :=
  ⟨h.emergency.trans k.emergency, h.inputs.trans k.inputs, k.figures.trans h.figures, k.hold.trans h.hold⟩

/-- The parts that the budget depends on or decides. -/
def budgetSettled : List Part :=
  [.bays, .slots, .supplies, .fans, .powerPolicy, .emergency, .gates, .figures, .hold, .flags]

theorem BudgetKept.of_keeps {l : List Part} {s t : State} (h : KeepsAllBut l s t)
    (hl : ∀ p ∈ budgetSettled, p ∉ l := by decide) : BudgetKept s t where
  emergency := .of_keeps h fun p hp => hl p (by revert p; decide)
  inputs := .of_keeps h fun p hp => hl p (by revert p; decide)
  figures := h .figures (hl _ (by decide))
  hold := (h .hold (hl _ (by decide))).1

theorem raise_budgetKept {c : Cause} (hc : causeClass c ≠ 2) (s : State) : BudgetKept s (raise c s) where
  emergency := .of_reported (raise_keeps c s) (fun b => by rw [raise_bayRec]) (raise_reported c s) (by decide)
    (by simpa using Ne.symm hc)
  inputs := .of_keeps (raise_keeps c s)
  figures := by rw [raise_pbu]
  hold := by rw [raise_pbu]

section
variable {source : EmgSource} {s t t' : State} (k : BudgetKept t t')
include k

theorem BudgetKept.overBudget_eq : overBudget t' = overBudget t := by rw [overBudget, k.figures, overBudget]

theorem FiguresCurrent.after (h : FiguresCurrent t) : FiguresCurrent t' := by
  rw [FiguresCurrent, k.figures, h, k.inputs.figuresOf_eq]

theorem BeganEmergency.after (h : BeganEmergency source s t) : BeganEmergency source s t' := by
  obtain ⟨emg, gates, cause, flag⟩ := k.emergency
  replace emg : t'.pbu.emg = t.pbu.emg := emg
  replace gates : t'.pbu.ae = t.pbu.ae ∧ t'.pbu.ae2 = t.pbu.ae2 := gates
  unfold BeganEmergency Raised at *
  rw [emg, gates.1, gates.2, k.inputs.policy]
  obtain ⟨phase, timer, count, ae, ae2, causes, raised⟩ := h
  exact ⟨phase, timer, count, ae, ae2, fun c => (cause c).trans (causes c), flag.trans raised⟩

theorem EndedEmergency.after (h : EndedEmergency source s t) : EndedEmergency source s t' := by
  obtain ⟨emg, gates, cause, flag⟩ := k.emergency
  replace emg : t'.pbu.emg = t.pbu.emg := emg
  replace gates : t'.pbu.ae = t.pbu.ae ∧ t'.pbu.ae2 = t.pbu.ae2 := gates
  unfold EndedEmergency Raised at *
  rw [emg, gates.1, gates.2]
  obtain ⟨phase, timer, bay, ae, ae2, causes, raised⟩ := h
  exact ⟨phase, timer, bay, ae, ae2, fun c => (cause c).trans (causes c), flag.trans raised⟩

theorem Compared.after (h : Compared source s t) : Compared source s t' := by
  have emg : t'.pbu.emg = t.pbu.emg := k.emergency.1
  have kept (e : EmergencyKept s t) : EmergencyKept s t' := e.trans k.emergency
  obtain ⟨figures, began, none_, ended, grace, shedding, standing, again⟩ := h
  unfold Compared
  rw [k.overBudget_eq, k.inputs.chooseShed_eq, emg]
  exact ⟨figures.after k, fun x y z => (began x y z).after k, fun x y => kept (none_ x y),
    fun x y => ⟨(ended x y).1.after k, (ended x y).2⟩, fun x y => kept (grace x y), fun x => kept (shedding x),
    fun x y z => kept (standing x y z), fun x y b z => by
      obtain ⟨e, g, f⟩ := again x y b z
      exact ⟨e, Part.same_trans .gates g k.emergency.2.1, k.emergency.2.2.2.trans f⟩⟩

theorem BudgetKept.fits_iff (b : Bay) : Fits t' b ↔ Fits t b := by
  have emg : t'.pbu.emg = t.pbu.emg := k.emergency.1
  have gates : t'.pbu.ae = t.pbu.ae ∧ t'.pbu.ae2 = t.pbu.ae2 := k.emergency.2.1
  unfold Fits
  rw [gates.1, emg, k.hold, k.inputs.complete, k.figures, k.inputs.classGrant_eq]

theorem HeadEvaluated.after (h : HeadEvaluated t) (list : t'.pbu.waitList = t.pbu.waitList)
    (seq : t'.pbu.seq = t.pbu.seq) : HeadEvaluated t' := by
  unfold HeadEvaluated at *
  rw [list, seq]
  simpa only [k.fits_iff] using h

theorem EvaluatedFor.after (h : EvaluatedFor source s t) (list : t'.pbu.waitList = t.pbu.waitList)
    (seq : Part.sequencer.same t t') : EvaluatedFor source s t' := by
  obtain ⟨seq, gap⟩ : t'.pbu.seq = t.pbu.seq ∧ t'.pbu.gapTimer = t.pbu.gapTimer := seq
  obtain ⟨compared, gap', idle, busy⟩ := h
  exact ⟨compared.after k, gap.trans gap', fun h => (idle h).after k list seq, fun h => seq.trans (busy h)⟩

end

/-- After the evaluation that a bay's loss of power calls for, the sequencer that ramped it is freed (R61, R66). -/
theorem rampEndUnpowered_freed {source : EmgSource} {b : Bay} {s t : State} (h : EvaluatedFor source s t) :
    SequencerFreed b s (rampEndUnpowered b t) := by
  obtain ⟨-, gap, idle, busy⟩ := h
  by_cases ramp : s.pbu.seq = .ramp b
  · have seq : t.pbu.seq = .ramp b := (busy (by simp [ramp])).trans ramp
    refine ⟨fun _ => ?_, fun ne => absurd ramp ne, ?_⟩
    · rw [rampEndUnpowered, if_pos seq]
      exact evaluateHead_evaluates _ rfl
    · rw [rampEndUnpowered, if_pos seq, evaluateHead_gapTimer, updPbu_pbu, gap]
  · have stays : rampEndUnpowered b t = t := by
      rw [rampEndUnpowered, if_neg]
      by_cases hi : s.pbu.seq = .idle
      · rcases idle hi with ⟨seq, -⟩ | ⟨w, -, -, seq⟩ <;> simp [seq]
      · rw [busy hi]; exact ramp
    rw [stays]
    exact ⟨fun or_ => idle (or_.resolve_left ramp), fun _ ne => busy ne, gap⟩

theorem rampEndUnpowered_budgetKept (b : Bay) (s : State) : BudgetKept s (rampEndUnpowered b s) :=
  .of_keeps (rampEndUnpowered_keeps b s)

/-! ### Bays -/

theorem OtherBaysKept.trans {b : Bay} {s t u : State} (h : OtherBaysKept b s t) (k : OtherBaysKept b t u) :
    OtherBaysKept b s u := fun c hc => (h c hc).trans (k c hc)

theorem OtherBaysKept.of_keeps {l : List Part} {b : Bay} {s t : State} (h : KeepsAllBut l s t)
    (hl : Part.bays ∉ l := by decide) : OtherBaysKept b s t := fun c _ => .of_eq (h.bayRec_eq c hl)

theorem evaluate_othersKept (source : EmgSource) (b : Bay) (s : State) : OtherBaysKept b s (evaluate source s) :=
  fun c _ => evaluate_bays source s c

theorem updBay_othersKept (b : Bay) (f : BayRec → BayRec) (s : State) : OtherBaysKept b s (updBay b f s) :=
  fun _ hc => .of_eq (bayRec_updBay_ne f s hc)

theorem enterState_othersKept (b : Bay) (st : BayState) (s : State) : OtherBaysKept b s (enterState b st s) :=
  fun c hc => .of_eq (by rw [bayRec_enterState, if_neg hc])

/-- Entering a state leaves the emergency, whatever else is written of the bay (R26). -/
theorem enterState_updBay_emergencyKept {b : Bay} {st : BayState} {f : BayRec → BayRec} {s : State}
    (h : (f (bayRec s b)).emergencyCause = (bayRec s b).emergencyCause) :
    EmergencyKept s (enterState b st (updBay b f s)) := by
  refine .of_reported (enterState_updBay_keeps b st f s) (fun c => ?_)
    ((Reported.of_keeps (updBay_keeps b f s)).trans (enterState_reported b st _))
  rw [bayRec_enterState_updBay]
  split
  · next e => subst e; exact h
  · rfl

theorem enterState_emergencyKept (b : Bay) (st : BayState) (s : State) : EmergencyKept s (enterState b st s) := by
  refine .of_reported (enterState_keeps b st s) (fun c => ?_) (enterState_reported b st s)
  rw [bayRec_enterState]
  split
  · next e => subst e; rfl
  · rfl

/-! ### A bay that enters a state and is evaluated (R3, R9, R12 to R14, R17, R18) -/

/-- The bay's record has been written by `f` and has entered a state, which has been reported, and an evaluation with
the bay as its source has been made. -/
structure Arrived (b : Bay) (f : BayRec → BayRec) (st : BayState) (s t : State) : Prop where
  record : sameBayRecord { f (bayRec s b) with state := st } (bayRec t b)
  raised : Raised (.bayChange b) t
  evaluated : EvaluatedFor (.bay b) s t
  others : OtherBaysKept b s t
  reported : Reported [0, 2, 3, 7] s t

theorem evaluate_arrived {b : Bay} {st : BayState} {f : BayRec → BayRec} {s : State}
    (aside : (f (bayRec s b)).emergencyCause = (bayRec s b).emergencyCause) :
    Arrived b f st s (evaluate (.bay b) (enterState b st (updBay b f s))) where
  record := by
    refine sameBayRecord.trans ?_ (evaluate_bays _ _ b)
    rw [bayRec_enterState_updBay, if_pos rfl]
    exact sameBayRecord_followThrottle _
  raised := (enterState_raised b st _).kept (evaluate_reported _ _)
  evaluated := by
    have frame := enterState_updBay_keeps b st f s
    exact (evaluate_evaluatedFor (.bay b) _).before (enterState_updBay_emergencyKept aside) (frame .hold (by decide)).1
      (frame .sequencer (by decide))
  others := ((updBay_othersKept b f s).trans (enterState_othersKept b st _)).trans (evaluate_othersKept _ b _)
  reported := ((Reported.of_keeps (updBay_keeps b _ s)).and (enterState_reported b st _)).and (evaluate_reported _ _)

theorem dropTo_arrived (b : Bay) (st : BayState) (s : State) : Arrived b unpowered st s (dropTo b st s) :=
  evaluate_arrived rfl

/-- What is touched before may be anything but the bays, the emergency, the sequencer and the reports. -/
theorem Arrived.before {l : List Part} {b : Bay} {f : BayRec → BayRec} {st : BayState} {s s' t : State}
    (h : Arrived b f st s' t) (k : KeepsAllBut l s s')
    (hl : ∀ p ∈ [Part.bays, .emergency, .gates, .flags, .hold, .sequencer, .uplinkQueues, .alertTarget], p ∉ l := by
      decide) : Arrived b f st s t where
  record := k.bayRec_eq b (hl _ (by decide)) ▸ h.record
  raised := h.raised
  evaluated := h.evaluated.before (.of_keeps k fun p hp => hl p (by revert p; decide)) (k .hold (hl _ (by decide))).1
    (k .sequencer (hl _ (by decide)))
  others := (OtherBaysKept.of_keeps k (hl _ (by decide))).trans h.others
  reported := (Reported.of_keeps k fun p hp => hl p (by revert p; decide)).trans h.reported

/-- The sequencer's release ends the loss of power, which it leaves but for the head's evaluation (R66). -/
theorem Arrived.freed {b : Bay} {f : BayRec → BayRec} {st : BayState} {s t : State} (h : Arrived b f st s t) :
    sameBayRecord { f (bayRec s b) with state := st } (bayRec (rampEndUnpowered b t) b)
      ∧ Raised (.bayChange b) (rampEndUnpowered b t) ∧ SequencerFreed b s (rampEndUnpowered b t)
      ∧ Compared (.bay b) s (rampEndUnpowered b t) ∧ OtherBaysKept b s (rampEndUnpowered b t)
      ∧ Reported [0, 2, 3, 7] s (rampEndUnpowered b t) := by
  have frame := rampEndUnpowered_keeps b t
  exact ⟨h.record.trans (.of_eq (frame.bayRec_eq b)), h.raised.kept (Reported.of_keeps (classes := []) frame),
    rampEndUnpowered_freed h.evaluated, h.evaluated.1.after (rampEndUnpowered_budgetKept b t),
    h.others.trans (.of_keeps frame), h.reported.trans (.of_keeps frame)⟩

/-! ### Queues and stations -/

theorem flush_flushed (p : Port) (s : State) : Flushed p s (flush p s) := by
  rw [Flushed, flush]
  cases p <;> simp [queueOf, putQueue, satAdd_top32]

theorem queueOf_flush_ne {p r : Port} (h : r ≠ p) (s : State) : queueOf (flush p s) r = queueOf s r := by
  rw [← queueOf_putQueue p r { queueOf s p with
    frames := [], held := 0, dropped := satAdd (queueOf s p).dropped (queueOf s p).frames.length Config.top32
    sending := false } s |>.trans (if_neg h), flush]
  cases r <;> rfl

theorem flush_bayQueuesKept (b : Bay) (s : State) : OtherBayQueuesKept b s (flush (.bay b) s) :=
  fun _ hc => queueOf_flush_ne (fun h => hc (Port.bay.inj h)) s

theorem leaveOn_flushed (b : Bay) (s : State) : Flushed (.bay b) s (leaveOn b s) := by
  rw [Flushed, leaveOn, (purge_keeps b _).bayQueue_eq]
  exact flush_flushed (.bay b) s

theorem leaveOn_bayQueuesKept (b : Bay) (s : State) : OtherBayQueuesKept b s (leaveOn b s) := fun c hc => by
  rw [leaveOn, (purge_keeps b _).bayQueue_eq, flush_bayQueuesKept b s c hc]

theorem leaveOn_purged (b : Bay) (s : State) : Purged b s (leaveOn b s) := by
  have places : (flush (.bay b) s).stb.places = s.stb.places := flush_keeps (.bay b) s .stations (by simp [queuePart])
  rw [Purged, leaveOn, purge, updPlaces_stb, places]

section
variable {l : List Part} {b : Bay} {s t u : State}

/-- Operations that leave the bay queues, after a flush. -/
theorem Flushed.after {p : Port} (h : Flushed p s t) (k : queueOf u p = queueOf t p) : Flushed p s u := k.trans h

theorem OtherBayQueuesKept.after (h : OtherBayQueuesKept b s t) (k : KeepsAllBut l t u)
    (hl : Part.bayQueues ∉ l := by decide) : OtherBayQueuesKept b s u :=
  fun c hc => (k.bayQueue_eq c hl).trans (h c hc)

theorem Purged.after (h : Purged b s t) (k : KeepsAllBut l t u) (hl : Part.stations ∉ l := by decide) :
    Purged b s u := (k .stations hl).trans h

end

theorem KeepsAllBut.stb_eq {l : List Part} {s t : State} (h : KeepsAllBut l s t)
    (hl : ∀ p ∈ [Part.stations, .learnMiss, .agingSteps, .sweepTimer], p ∉ l := by decide) : t.stb = s.stb := by
  have places : t.stb.places = s.stb.places := h .stations (hl _ (by decide))
  have miss : t.stb.learnMiss = s.stb.learnMiss := h .learnMiss (hl _ (by decide))
  have steps : t.stb.agingSteps = s.stb.agingSteps := h .agingSteps (hl _ (by decide))
  have sweep : t.stb.sweepTimer = s.stb.sweepTimer := h .sweepTimer (hl _ (by decide))
  cases ht : t.stb; cases hs : s.stb
  simp_all

/-- The bay's queue has been flushed, and where it left ON its learned entries have been purged (R10, R14). -/
structure PortCleared (b : Bay) (purged : Prop) (s t : State) : Prop where
  flushed : Flushed (.bay b) s t
  others : OtherBayQueuesKept b s t
  stations : purged → Purged b s t
  kept : ¬purged → t.stb = s.stb

theorem leaveOn_cleared (b : Bay) (s : State) : PortCleared b True s (leaveOn b s) :=
  ⟨leaveOn_flushed b s, leaveOn_bayQueuesKept b s, fun _ => leaveOn_purged b s, fun h => absurd trivial h⟩

theorem flush_cleared (b : Bay) (s : State) : PortCleared b False s (flush (.bay b) s) :=
  ⟨flush_flushed (.bay b) s, flush_bayQueuesKept b s, False.elim, fun _ => rfl⟩

/-- What follows may touch anything but the bay queues and the stations. -/
theorem PortCleared.after {l : List Part} {b : Bay} {purged : Prop} {s t u : State} (h : PortCleared b purged s t)
    (k : KeepsAllBut l t u)
    (hl : ∀ p ∈ [Part.bayQueues, .stations, .learnMiss, .agingSteps, .sweepTimer], p ∉ l := by decide) :
    PortCleared b purged s u where
  flushed := h.flushed.after (k.bayQueue_eq b (hl _ (by decide)))
  others := h.others.after k (hl _ (by decide))
  stations x := (h.stations x).after k (hl _ (by decide))
  kept x := (k.stb_eq fun p hp => hl p (List.mem_cons_of_mem _ hp)).trans (h.kept x)

/-- What went before may touch anything but the bay queues and the station table. -/
theorem PortCleared.before {l : List Part} {b : Bay} {purged : Prop} {s s' t : State} (h : PortCleared b purged s' t)
    (k : KeepsAllBut l s s')
    (hl : ∀ p ∈ [Part.bayQueues, .stations, .learnMiss, .agingSteps, .sweepTimer], p ∉ l := by decide) :
    PortCleared b purged s t where
  flushed := by
    have flushed := h.flushed
    rwa [Flushed, k.bayQueue_eq b (hl _ (by decide))] at flushed
  others c hc := (h.others c hc).trans (k.bayQueue_eq c (hl _ (by decide)))
  stations x := by
    have places : s'.stb.places = s.stb.places := k .stations (hl _ (by decide))
    have stations := h.stations x
    rwa [Purged, places] at stations
  kept x := (h.kept x).trans (k.stb_eq fun p hp => hl p (List.mem_cons_of_mem _ hp))

end Sys2Proof.Machine
end

section
/-! SUPPORT. The scan engine in the terms of the statements: a fresh request, an abort, and the engine that moves on
(R32, R33, R39 to R41). -/

namespace Sys2Proof.Machine

/-! ### The engine -/

theorem scanning_iff (s : State) (k : Slot) : scanning s k = true ↔ s.ise.scan.map (·.slot) = some k := by
  unfold scanning idLinesActive
  cases s.ise.scan <;> simp

/-- A free engine takes the slot at the head. -/
theorem engineTakes_head {s : State} {k : Slot} {rest : List Slot} (scan : s.ise.scan = none)
    (queue : s.ise.queue = k :: rest) :
    engineTakes s = updIse (fun i => { i with queue := rest, scan := some { slot := k, timer := 20 } })
      (updSlot k (fun r => { r with stage := .inFlight, status := .scanning }) s) := by
  simp [engineTakes, scan, queue, Config.scanTime]

theorem engineTakes_busy {s : State} (scan : s.ise.scan ≠ none) : engineTakes s = s := by
  cases h : s.ise.scan <;> simp_all [engineTakes]

theorem engineTakes_empty {s : State} (queue : s.ise.queue = []) : engineTakes s = s := by
  simp [engineTakes, queue]

@[simp] theorem slotRec_updIse {f : Ise → Ise} {s : State} (j : Slot) (h : (f s.ise).slots = s.ise.slots) :
    slotRec (updIse f s) j = slotRec s j := by rw [slotRec, updIse_ise, h, slotRec]

/-- A slot's record as the engine takes the head. -/
theorem slotRec_engineTakes_head {s : State} {k : Slot} {rest : List Slot} (scan : s.ise.scan = none)
    (queue : s.ise.queue = k :: rest) (j : Slot) :
    slotRec (engineTakes s) j
      = if j = k then { slotRec s k with stage := .inFlight, status := .scanning } else slotRec s j := by
  rw [engineTakes_head scan queue, slotRec_updIse _ rfl, slotRec_updSlot]

/-- The laws of scanning speak of the records, the queue and the scan alone. -/
theorem scanLaw_congr {l : List Part} {s t : State} (h : KeepsAllBut l s t)
    (hl : ∀ p ∈ [Part.slots, .scanQueue, .scan], p ∉ l := by decide) (law : ScanLaw s) : ScanLaw t := by
  have queue : t.ise.queue = s.ise.queue := h .scanQueue (hl _ (by decide))
  have scan : t.ise.scan = s.ise.scan := h .scan (hl _ (by decide))
  have slots (k) := h.slotRec_eq k (hl _ (by decide))
  have flight (k) : scanning t k = scanning s k := by unfold scanning idLinesActive; rw [scan]
  simpa only [ScanLaw, queue, scan, slots, flight] using law

/-! ### A fresh request (R32, R41) -/

/-- The record of a slot that a fresh request has put on the queue (R32, R41). -/
def queuedAfresh (r : SlotRec) : SlotRec :=
  { r with
    present := true, source := some .line, failures := 0, stage := .queued, status := .none, retryTimer := none }

section
variable {l : List Part} {k : Slot} {s s' t u : State}

/-- What comes before or after a request may touch anything but the scanning. -/
theorem FreshlyRequested.before (h : FreshlyRequested k s' t) (frame : KeepsAllBut l s s')
    (hl : ∀ p ∈ [Part.slots, .scanQueue, .scan], p ∉ l := by decide) : FreshlyRequested k s t := by
  have queue : s'.ise.queue = s.ise.queue := frame .scanQueue (hl _ (by decide))
  have scan : s'.ise.scan = s.ise.scan := frame .scan (hl _ (by decide))
  have slots (j) := frame.slotRec_eq j (hl _ (by decide))
  simpa only [FreshlyRequested, queue, scan, slots] using h

theorem FreshlyRequested.after (h : FreshlyRequested k s t) (frame : KeepsAllBut l t u)
    (hl : ∀ p ∈ [Part.slots, .scanQueue, .scan], p ∉ l := by decide) : FreshlyRequested k s u := by
  have queue : u.ise.queue = t.ise.queue := frame .scanQueue (hl _ (by decide))
  have scan : u.ise.scan = t.ise.scan := frame .scan (hl _ (by decide))
  have slots (j) := frame.slotRec_eq j (hl _ (by decide))
  simpa only [FreshlyRequested, queue, scan, slots] using h

end

section
variable {k : Slot} {s : State} (law : ScanLaw s)
include law

/-- The request is absorbed by a slot that is queued or in flight, where the engine has nothing to take. -/
theorem freshRequest_absorbed (h : (slotRec s k).stage = .queued ∨ (slotRec s k).stage = .inFlight) :
    engineTakes (freshRequest k s)
      = updSlot k (fun r => { r with present := true, source := some .line, failures := 0 }) s := by
  obtain ⟨-, queued, flight, status, -, waits, -, idle⟩ := law
  have record : freshRecord (slotRec s k)
      = { slotRec s k with present := true, source := some .line, failures := 0 } := by
    have off : (slotRec s k).status ≠ .complete ∧ (slotRec s k).status ≠ .unidentified := by
      rcases h with h | h
      · simp [waits k (.inl h)]
      · simp [(status k).mpr h]
    simp [freshRecord, off]
  have request : freshRequest k s
      = updSlot k (fun r => { r with present := true, source := some .line, failures := 0 }) s := by
    have write : updSlot k freshRecord s
        = updSlot k (fun r => { r with present := true, source := some .line, failures := 0 }) s := by
      rw [updSlot, record, updSlot]
    rw [freshRequest, write, queueSlot, slotRec_updSlot_self]
    rcases h with h | h <;> simp [h]
  rw [request, engineTakes_busy]
  rw [updSlot_ise_scan]
  intro none_
  rcases h with h | h
  · have := (queued k).mpr h
    simp [idle none_] at this
  · have := (scanning_iff s k).mp ((flight k).mpr h)
    simp [none_] at this

/-- The record and the queue of a slot that was neither queued nor in flight. -/
theorem freshRequest_queued (h : ¬((slotRec s k).stage = .queued ∨ (slotRec s k).stage = .inFlight)) :
    freshRequest k s = updIse (fun i => { i with queue := i.queue ++ [k] })
      (updSlot k queuedAfresh s) := by
  obtain ⟨-, -, -, status, -⟩ := law
  rw [not_or] at h
  have off : (slotRec s k).status ≠ .scanning := fun x => h.2 ((status k).mp x)
  have none_ : (freshRecord (slotRec s k)).status = .none := by
    cases x : (slotRec s k).status <;> simp_all [freshRecord]
  have stage : (freshRecord (slotRec s k)).stage = (slotRec s k).stage := rfl
  have write : updSlot k (fun r => { r with stage := .queued, retryTimer := none }) (updSlot k freshRecord s)
      = updSlot k queuedAfresh s := by
    have record : { freshRecord (slotRec s k) with stage := .queued, retryTimer := none }
        = queuedAfresh (slotRec s k) := by
      rw [queuedAfresh, ← none_]; rfl
    rw [updSlot, slotRec_updSlot_self, record]
    simp [updSlot, Bank.put_put]
  rw [freshRequest, queueSlot, slotRec_updSlot_self, stage, write]
  cases x : (slotRec s k).stage <;> simp_all

/-- A fresh request of a slot does what R32, R33 and R41 say of it. -/
theorem engineTakes_freshRequest : FreshlyRequested k s (engineTakes (freshRequest k s)) := by
  by_cases h : (slotRec s k).stage = .queued ∨ (slotRec s k).stage = .inFlight
  · rw [freshRequest_absorbed law h]
    refine ⟨fun _ => ⟨slotRec_updSlot_self .., rfl, rfl⟩, fun n => absurd h n, fun n => absurd h n, fun j hj => ?_⟩
    exact slotRec_updSlot_ne _ s hj
  · rw [freshRequest_queued law h]
    by_cases scan : s.ise.scan = none
    · have empty : s.ise.queue = [] := law.2.2.2.2.2.2.2 scan
      have free : (updIse (fun i => { i with queue := i.queue ++ [k] }) (updSlot k queuedAfresh s)).ise.scan = none :=
        scan
      have one : (updIse (fun i => { i with queue := i.queue ++ [k] }) (updSlot k queuedAfresh s)).ise.queue = [k] := by
        simp [empty]
      have records := slotRec_engineTakes_head free one
      have taken := engineTakes_head free one
      simp only [slotRec_updIse, slotRec_updSlot] at records
      refine ⟨fun n => absurd n h, fun _ _ => ⟨?_, ?_, ?_⟩, fun _ n => absurd scan n, fun j hj => ?_⟩
      · simpa [queuedAfresh] using records k
      · rw [taken, updIse_ise, empty]
      · rw [taken, updIse_ise]
      · simpa [hj] using records j
    · have busy : (updIse (fun i => { i with queue := i.queue ++ [k] }) (updSlot k queuedAfresh s)).ise.scan ≠ none :=
        scan
      rw [engineTakes_busy busy]
      refine ⟨fun n => absurd n h, fun _ n => absurd n scan, fun _ _ => ⟨?_, rfl, rfl⟩, fun j hj => ?_⟩
      · rw [slotRec_updIse _ rfl, slotRec_updSlot_self]; rfl
      · rw [slotRec_updIse _ rfl, slotRec_updSlot_ne _ _ hj]

end

/-- A request that leaves no settled identity leaves the budget (R44). -/
theorem FreshlyRequested.budgetKept {k : Slot} {s t : State} (h : FreshlyRequested k s t)
    (frame : KeepsAllBut [.slots, .scanQueue, .scan] s t) (off : (slotRec s k).status ≠ .complete) :
    BudgetKept s t := by
  obtain ⟨absorbed, taken, queued, other⟩ := h
  have slot (j) : isComplete t j = isComplete s j ∧ (slotRec t j).ident = (slotRec s j).ident := by
    by_cases hj : j = k
    · subst hj
      by_cases a : (slotRec s j).stage = .queued ∨ (slotRec s j).stage = .inFlight
      · simp [isComplete, (absorbed a).1]
      · by_cases scan : s.ise.scan = none
        · simp [isComplete, (taken a scan).1, off]
        · simp [isComplete, (queued a scan).1, off]
    · rw [isComplete, other j hj, isComplete]; exact ⟨rfl, rfl⟩
  refine ⟨.of_keeps frame, ?_, frame .figures (by decide), (frame .hold (by decide)).1⟩
  refine ⟨?_, ?_, ?_, ?_, ?_, ?_, fun j => (slot j).1, fun j => (slot j).2, frame.supplyRec_eq, ?_,
    frame .powerPolicy (by decide)⟩
  all_goals intro x; simp only [bayState, priorityOf, frame.bayRec_eq, frame.fanRec_eq]

/-! ### An abort (R33, R39, R40) -/

section
variable {l : List Part} {k : Slot} {s s' t u : State}

theorem ScanAborted.before (h : ScanAborted k s' t) (frame : KeepsAllBut l s s')
    (hl : ∀ p ∈ [Part.slots, .scanQueue, .scan], p ∉ l := by decide) : ScanAborted k s t := by
  have queue : s'.ise.queue = s.ise.queue := frame .scanQueue (hl _ (by decide))
  have scan : s'.ise.scan = s.ise.scan := frame .scan (hl _ (by decide))
  have slots (j) := frame.slotRec_eq j (hl _ (by decide))
  simpa only [ScanAborted, queue, scan, slots] using h

theorem ScanAborted.after (h : ScanAborted k s t) (frame : KeepsAllBut l t u)
    (hl : ∀ p ∈ [Part.slots, .scanQueue, .scan], p ∉ l := by decide) : ScanAborted k s u := by
  have queue : u.ise.queue = t.ise.queue := frame .scanQueue (hl _ (by decide))
  have scan : u.ise.scan = t.ise.scan := frame .scan (hl _ (by decide))
  have slots (j) := frame.slotRec_eq j (hl _ (by decide))
  simpa only [ScanAborted, queue, scan, slots] using h

end

/-- A slot whose scanning has stopped, its record then written by `f`, as the engine moves on. -/
structure ScanStopped (k : Slot) (f : SlotRec → SlotRec) (s t : State) : Prop where
  record : slotRec t k = f (slotRec s k)
  unqueued : k ∉ t.ise.queue
  unscanned : scanning t k = false
  aborted : ScanAborted k s t

theorem ScanStopped.before {l : List Part} {k : Slot} {f : SlotRec → SlotRec} {s s' t : State}
    (h : ScanStopped k f s' t) (frame : KeepsAllBut l s s')
    (hl : ∀ p ∈ [Part.slots, .scanQueue, .scan], p ∉ l := by decide) : ScanStopped k f s t :=
  ⟨frame.slotRec_eq k (hl _ (by decide)) ▸ h.record, h.unqueued, h.unscanned, h.aborted.before frame hl⟩

theorem ScanStopped.after {l : List Part} {k : Slot} {f : SlotRec → SlotRec} {s t u : State}
    (h : ScanStopped k f s t) (frame : KeepsAllBut l t u)
    (hl : ∀ p ∈ [Part.slots, .scanQueue, .scan], p ∉ l := by decide) : ScanStopped k f s u where
  record := (frame.slotRec_eq k (hl _ (by decide))).trans h.record
  unqueued := by
    have queue : u.ise.queue = t.ise.queue := frame .scanQueue (hl _ (by decide))
    exact queue ▸ h.unqueued
  unscanned := by
    have scan : u.ise.scan = t.ise.scan := frame .scan (hl _ (by decide))
    have unscanned := h.unscanned
    unfold scanning idLinesActive at *
    rwa [scan]
  aborted := h.aborted.after frame hl

theorem stopScanning_scan (k : Slot) (s : State) : (stopScanning k s).ise.scan = none
    ↔ s.ise.scan = none ∨ s.ise.scan.map (·.slot) = some k := by
  rw [stopScanning, updIse_ise, ← scanning_iff]
  by_cases h : scanning s k = true <;> simp [h]

theorem engineTakes_stopScanning (k : Slot) (f : SlotRec → SlotRec) (s : State) :
    ScanStopped k f s (engineTakes (updSlot k f (stopScanning k s))) := by
  have queue : (updSlot k f (stopScanning k s)).ise.queue = s.ise.queue.filter (· ≠ k) := rfl
  have scan : (updSlot k f (stopScanning k s)).ise.scan = (stopScanning k s).ise.scan := rfl
  have records (j) : slotRec (updSlot k f (stopScanning k s)) j = if j = k then f (slotRec s k) else slotRec s j := by
    rw [slotRec_updSlot]; rfl
  have unscanned : (stopScanning k s).ise.scan.map (·.slot) ≠ some k := by
    rw [stopScanning, updIse_ise]
    by_cases h : scanning s k = true
    · simp [h]
    · simpa [h] using mt (scanning_iff s k).mpr h
  have unqueued : k ∉ s.ise.queue.filter (· ≠ k) := by simp
  generalize updSlot k f (stopScanning k s) = t at *
  by_cases free : s.ise.scan = none ∨ s.ise.scan.map (·.slot) = some k
  · have none_ := scan.trans ((stopScanning_scan k s).mpr free)
    cases rest : s.ise.queue.filter (· ≠ k) with
    | nil =>
      rw [rest] at queue
      rw [engineTakes_empty queue]
      refine ⟨by simp [records], by simp [queue], ?_, fun n => absurd free n,
        fun _ _ => ⟨none_, queue, fun j hj => by simp [records, hj]⟩, fun _ h hh => ?_⟩
      · rw [Bool.eq_false_iff, ne_eq, scanning_iff]; simp [none_]
      · rw [rest] at hh; simp at hh
    | cons h tail =>
      rw [rest] at queue unqueued
      have taken := engineTakes_head none_ queue
      have hk : h ≠ k := fun e => unqueued (e ▸ List.mem_cons_self)
      have slots := slotRec_engineTakes_head none_ queue
      have newQueue : (engineTakes t).ise.queue = tail := by rw [taken]; rfl
      have newScan : (engineTakes t).ise.scan = some { slot := h, timer := 20 } := by rw [taken]; rfl
      refine ⟨?_, ?_, ?_, fun n => absurd free n, fun _ e => ?_, fun _ x hx => ?_⟩
      · rw [slots, if_neg (Ne.symm hk), records, if_pos rfl]
      · rw [newQueue]; exact fun m => unqueued (List.mem_cons_of_mem _ m)
      · rw [Bool.eq_false_iff, ne_eq, scanning_iff, newScan]; simpa using hk
      · rw [rest] at e; simp at e
      · rw [rest] at hx
        obtain rfl : h = x := by simpa using hx
        refine ⟨newScan, by rw [newQueue, rest]; rfl, ?_, fun j hj hh => ?_⟩
        · rw [slots, if_pos rfl, records, if_neg hk]
        · rw [slots, if_neg hh, records, if_neg hj]
  · have busy : t.ise.scan ≠ none := fun n => free ((stopScanning_scan k s).mp (scan ▸ n))
    have same : t.ise.scan = s.ise.scan := by
      rw [scan, stopScanning, updIse_ise, if_neg]
      rw [scanning_iff]; exact fun h => free (.inr h)
    rw [engineTakes_busy busy]
    refine ⟨by simp [records], by simp [queue], ?_, fun _ => ⟨same, queue, fun j hj => by simp [records, hj]⟩,
      fun f => absurd f free, fun f => absurd f free⟩
    rw [Bool.eq_false_iff, ne_eq, scanning_iff, same]
    exact fun h => free (.inr h)

theorem clearSlot_stopped (k : Slot) (s : State) : ScanStopped k (fun _ => resetSlot) s (clearSlot k s) :=
  engineTakes_stopScanning k _ s

/-- The record of an aborted slot (R40). -/
def abortedSlot (r : SlotRec) : SlotRec :=
  { r with stage := .idle, retryTimer := none, status := if r.status = .scanning then .none else r.status }

theorem abortScan_stopped (k : Slot) (s : State) : ScanStopped k abortedSlot s (abortScan k s) :=
  engineTakes_stopScanning k _ s

/-! ### The end of a scan (R33) -/

/-- The engine moves on from a scan whose record alone has been written since it ended. -/
theorem engineTakes_movesOn {k : Slot} {s t : State} (scan : t.ise.scan = none) (queue : t.ise.queue = s.ise.queue)
    (slots : ∀ j, j ≠ k → slotRec t j = slotRec s j) (unqueued : k ∉ s.ise.queue) :
    EngineMovedOn k s (engineTakes t) ∧ slotRec (engineTakes t) k = slotRec t k := by
  cases e : s.ise.queue with
  | nil =>
    rw [engineTakes_empty (queue.trans e)]
    exact ⟨⟨fun _ => ⟨scan, queue.trans e, slots⟩, fun h hh => by simp [e] at hh⟩, rfl⟩
  | cons h tail =>
    have hk : h ≠ k := fun x => unqueued (by simp [e, x])
    have taken := engineTakes_head scan (queue.trans e)
    have records := slotRec_engineTakes_head scan (queue.trans e)
    refine ⟨⟨fun n => by simp [e] at n, fun x hx => ?_⟩, by rw [records, if_neg (Ne.symm hk)]⟩
    obtain rfl : h = x := by simpa [e] using hx
    refine ⟨by rw [taken]; rfl, by rw [taken, e]; rfl, ?_, fun j hj hh => ?_⟩
    · rw [records, if_pos rfl, slots h hk]
    · rw [records, if_neg hh, slots j hj]

end Sys2Proof.Machine
end

section
/-! SUPPORT. The presence lines (O6), a ramp that completes (O10), power faults (O11), and the ramp and stop timers
(O12). -/

namespace Sys2Proof.Machine

/-! ### Presence lines -/

theorem whenRunning_running {s t : State} (h : s.mode = .running) : whenRunning s t = t := by
  simp [whenRunning, isRunning, h]

theorem whenRunning_reset {s t : State} (h : s.mode ≠ .running) : whenRunning s t = s := by
  simp [whenRunning, isRunning, h]

theorem bayPresence_record (present : Bool) (r : BayRec) :
    (present = true → r.state = .empty → bayPresence present r = { r with insertTimer := some 200 })
      ∧ (present = false → r.state = .empty → bayPresence present r = { r with insertTimer := none })
      ∧ (present = false → r.state ≠ .empty → bayPresence present r = { r with removeTimer := some 20 })
      ∧ (present = true → r.state ≠ .empty → bayPresence present r = { r with removeTimer := none }) := by
  cases present <;> cases h : r.state <;>
    simp [bayPresence, h, Config.insertionDebounce, Config.removalDebounce]

/-- BAY_PRES that changes in a running part (R2, R20). -/
theorem bayPresChanged_debounces {b : Bay} {present : Bool} {s : State} (run : s.mode = .running)
    (h : Bank.read s.pins.bayPres b ≠ present) :
    bayPresChanged b present s = updBay b (bayPresence present)
      (updPins (fun p => { p with bayPres := Bank.put p.bayPres b present }) s) := by
  simp [bayPresChanged, h, isRunning, run]

theorem supplyPresence_record (present : Bool) (r : SupplyRec) :
    (present = true → r.present = false → supplyPresence present r = { r with insertTimer := some 200 })
      ∧ (present = false → r.present = false → supplyPresence present r = { r with insertTimer := none })
      ∧ (present = false → r.present = true → supplyPresence present r = { r with removeTimer := some 20 })
      ∧ (present = true → r.present = true → supplyPresence present r = { r with removeTimer := none }) := by
  cases present <;> cases h : r.present <;>
    simp [supplyPresence, h, Config.insertionDebounce, Config.removalDebounce]

/-- PSU_PRES that changes in a running part (R48). -/
theorem psuPresChanged_debounces {p : Psu} {present : Bool} {s : State} (run : s.mode = .running)
    (h : Bank.read s.pins.psuPres p ≠ present) :
    psuPresChanged p present s = updSupply p (supplyPresence present)
      (updPins (fun x => { x with psuPres := Bank.put x.psuPres p present }) s) := by
  simp [psuPresChanged, h, isRunning, run]

theorem followDrive_fanPresence (present : Bool) (r : FanRec) :
    (present = true → r.state = .absent →
        followDrive (fanPresence present r) = { r with insertTimer := some 200, drive := r.duty })
      ∧ (present = false → r.state = .absent →
        followDrive (fanPresence present r) = { r with insertTimer := none, drive := 0 })
      ∧ (present = false → r.state ≠ .absent →
        followDrive (fanPresence present r) = { r with removeTimer := some 20, drive := r.duty })
      ∧ (present = true → r.state ≠ .absent →
        followDrive (fanPresence present r) = { r with removeTimer := none, drive := r.duty }) := by
  cases present <;> cases h : r.state <;>
    simp [fanPresence, followDrive, h, Config.insertionDebounce, Config.removalDebounce]

/-- FAN_PRES that changes in a running part (R106). -/
theorem fanPresChanged_debounces {f : Fan} {present : Bool} {s : State} (run : s.mode = .running)
    (h : Bank.read s.pins.fanPres f ≠ present) :
    fanPresChanged f present s = updFan f (fanPresence present)
      (updPins (fun x => { x with fanPres := Bank.put x.fanPres f present }) s) := by
  simp [fanPresChanged, h, isRunning, run]

/-- A line that changes in reset moves alone, and one that already has the level moves nothing (R177, log 22). -/
theorem presence_in_reset {n : Nat} (v : Bank Bool n) (i : Fin n) (x : Bool) (h : Bank.read v i = x) :
    Bank.put v i x = v := by rw [← h, Bank.put_read]

/-- Settles O6. -/
theorem presenceLinesDebounced : Obligations.PresenceLinesDebounced := by
  refine ⟨?_, ?_, ?_, ?_, ?_, ?_⟩
  · intro b present s run h
    have pins := updPins_keeps (fun p => { p with bayPres := Bank.put p.bayPres b present }) s
    obtain ⟨r1, r2, r3, r4⟩ := bayPresence_record present (bayRec s b)
    refine ⟨_, congrArg Host.Outcome.next (bayPresChanged_debounces run h), rfl, ?_, ?_, ?_, ?_, fun c hc => ?_,
      (pins.within (l := [.pins, .bays])).and (updBay_keeps b _ _)⟩
    · exact fun x y => by rw [bayRec_updBay_self, pins.bayRec_eq, r1 x y]
    · exact fun x y => by rw [bayRec_updBay_self, pins.bayRec_eq, r2 x y]
    · exact fun x y => by rw [bayRec_updBay_self, pins.bayRec_eq, r3 x y]
    · exact fun x y => by rw [bayRec_updBay_self, pins.bayRec_eq, r4 x y]
    · rw [bayRec_updBay_ne _ _ hc, pins.bayRec_eq]
  · exact fun b present s h => congrArg _ (if_pos h)
  · intro b present s reset
    refine congrArg Host.Outcome.next ?_
    by_cases h : Bank.read s.pins.bayPres b = present
    · simp [bayPresChanged, h, presence_in_reset _ _ _ h]
    · simp [bayPresChanged, h, isRunning, reset, updPins]
  · intro p present s run h
    have pins := updPins_keeps (fun x => { x with psuPres := Bank.put x.psuPres p present }) s
    obtain ⟨r1, r2, r3, r4⟩ := supplyPresence_record present (supplyRec s p)
    refine ⟨_, congrArg Host.Outcome.next (psuPresChanged_debounces run h), rfl, ?_, ?_, ?_, ?_, fun q hq => ?_,
      (pins.within (l := [.pins, .supplies])).and (updSupply_keeps p _ _)⟩
    · exact fun x y => by rw [supplyRec_updSupply_self, pins.supplyRec_eq, r1 x y]
    · exact fun x y => by rw [supplyRec_updSupply_self, pins.supplyRec_eq, r2 x y]
    · exact fun x y => by rw [supplyRec_updSupply_self, pins.supplyRec_eq, r3 x y]
    · exact fun x y => by rw [supplyRec_updSupply_self, pins.supplyRec_eq, r4 x y]
    · rw [supplyRec_updSupply, if_neg hq, pins.supplyRec_eq]
  · intro f present s run h
    have pins := updPins_keeps (fun x => { x with fanPres := Bank.put x.fanPres f present }) s
    obtain ⟨r1, r2, r3, r4⟩ := followDrive_fanPresence present (fanRec s f)
    refine ⟨_, congrArg Host.Outcome.next (fanPresChanged_debounces run h), rfl, ?_, ?_, ?_, ?_, fun g hg => ?_,
      (pins.within (l := [.pins, .fans])).and (updFan_keeps f _ _)⟩
    · exact fun x y => by rw [fanRec_updFan_self, pins.fanRec_eq, r1 x y]
    · exact fun x y => by rw [fanRec_updFan_self, pins.fanRec_eq, r2 x y]
    · exact fun x y => by rw [fanRec_updFan_self, pins.fanRec_eq, r3 x y]
    · exact fun x y => by rw [fanRec_updFan_self, pins.fanRec_eq, r4 x y]
    · rw [fanRec_updFan, if_neg hg, pins.fanRec_eq]
  · intro p f present s reset
    refine ⟨congrArg Host.Outcome.next ?_, congrArg Host.Outcome.next ?_⟩
    · by_cases h : Bank.read s.pins.psuPres p = present
      · simp [psuPresChanged, h, presence_in_reset _ _ _ h]
      · simp [psuPresChanged, h, isRunning, reset, updPins]
    · by_cases h : Bank.read s.pins.fanPres f = present
      · simp [fanPresChanged, h, presence_in_reset _ _ _ h]
      · simp [fanPresChanged, h, isRunning, reset, updPins]

/-! ### A ramp that completes -/

/-- A bay whose ramp completes, every other bay as it was (R8). -/
theorem completeRamp_bayRec (b c : Bay) (s : State) : bayRec (completeRamp b s) c
    = if c = b then followThrottle { bayRec s b with state := .poweredOn, rampTimer := none } else bayRec s c := by
  rw [completeRamp, (rampEndPowered_keeps b _).bayRec_eq, (updThermal_keeps b _ _).bayRec_eq, bayRec_enterState_updBay]

/-- Its thermal entry is non-current with age 0, every other as it was (R90). -/
theorem completeRamp_thermalEntry (b c : Bay) (s : State) : thermalEntry (completeRamp b s) c
    = if c = b then { thermalEntry s b with current := false, age := 0 } else thermalEntry s c := by
  have frame := enterState_updBay_keeps b .poweredOn (fun r => { r with rampTimer := none }) s
  rw [completeRamp, (rampEndPowered_keeps b _).thermalEntry_eq, thermalEntry_updThermal, frame.thermalEntry_eq,
    frame.thermalEntry_eq]

theorem completeRamp_reported (b : Bay) (s : State) : Reported [0, 7] s (completeRamp b s) :=
  (((Reported.of_keeps (updBay_keeps b _ s)).trans (enterState_reported b _ _)).trans
    (.of_keeps (updThermal_keeps b _ _))).trans (.of_keeps (rampEndPowered_keeps b _))

theorem completeRamp_raised (b : Bay) (s : State) : Raised (.bayChange b) (completeRamp b s) :=
  ((enterState_raised b .poweredOn (updBay b (fun r => { r with rampTimer := none }) s)).kept
    (Reported.of_keeps (classes := []) (updThermal_keeps b _ _))).kept
    (Reported.of_keeps (classes := []) (rampEndPowered_keeps b _))

/-- The sequencer that ramped the bay starts the gap, or is idle and evaluates the head where the gap is 0 (R65). -/
theorem rampEndPowered_sequencer (b : Bay) (s : State) :
    (s.pbu.seq = .ramp b → s.pbu.policy.gapSteps ≠ 0 →
        (rampEndPowered b s).pbu.seq = .gap b
          ∧ (rampEndPowered b s).pbu.gapTimer = some (s.pbu.policy.gapSteps * 100))
      ∧ (s.pbu.seq = .ramp b → s.pbu.policy.gapSteps = 0 →
        HeadEvaluated (rampEndPowered b s) ∧ (rampEndPowered b s).pbu.gapTimer = s.pbu.gapTimer)
      ∧ (s.pbu.seq ≠ .ramp b → rampEndPowered b s = s) := by
  refine ⟨fun ramp gap => ?_, fun ramp gap => ?_, fun ramp => if_neg ramp⟩
  · simp [rampEndPowered, ramp, gap, Config.gapStep]
  · rw [rampEndPowered, if_pos ramp, if_pos gap]
    exact ⟨evaluateHead_evaluates _ rfl, evaluateHead_gapTimer _⟩

/-- The completion leaves the sequencer as `rampEndPowered` finds it in the state before (R65). -/
theorem completeRamp_sequencer (b : Bay) (s : State) :
    (s.pbu.seq = .ramp b → s.pbu.policy.gapSteps ≠ 0 →
        (completeRamp b s).pbu.seq = .gap b
          ∧ (completeRamp b s).pbu.gapTimer = some (s.pbu.policy.gapSteps * 100))
      ∧ (s.pbu.seq = .ramp b → s.pbu.policy.gapSteps = 0 →
        HeadEvaluated (completeRamp b s) ∧ (completeRamp b s).pbu.gapTimer = s.pbu.gapTimer)
      ∧ (s.pbu.seq ≠ .ramp b → Part.sequencer.same s (completeRamp b s)) := by
  have frame := enterState_updBay_keeps b .poweredOn (fun r => { r with rampTimer := none }) s
  have thermal := updThermal_keeps b (fun e => { e with current := false, age := 0 })
    (enterState b .poweredOn (updBay b (fun r => { r with rampTimer := none }) s))
  have pbu := ((frame.within (l := .thermal :: .bays :: reportParts)).and thermal).pbu_eq
  have result := rampEndPowered_sequencer b (updThermal b (fun e => { e with current := false, age := 0 })
    (enterState b .poweredOn (updBay b (fun r => { r with rampTimer := none }) s)))
  rw [pbu] at result
  obtain ⟨gap, idle, other⟩ := result
  refine ⟨gap, idle, fun ramp => ?_⟩
  rw [completeRamp, other ramp]
  exact ⟨congrArg Pbu.seq pbu, congrArg Pbu.gapTimer pbu⟩

/-- Settles O10: the ramp completes on the state whose line has moved. -/
theorem bayPowerGoodCompletesARamp : Obligations.BayPowerGoodCompletesARamp := by
  refine ⟨fun b s run ramping => ?_, fun b s other => ?_⟩
  · have pins := updPins_keeps (fun p => { p with bayPg := Bank.put p.bayPg b true }) s
    obtain ⟨gap, idle, kept⟩ := completeRamp_sequencer b
      (updPins (fun p => { p with bayPg := Bank.put p.bayPg b true }) s)
    have result : exec (.bayPgAsserted b) s
        = .next (completeRamp b (updPins (fun p => { p with bayPg := Bank.put p.bayPg b true }) s)) := by
      simp [exec, execBayPgAsserted, bayPgAsserted, isRunning, run, ramping]
    have reported := (Reported.of_keeps pins).trans (completeRamp_reported b _)
    refine ⟨_, result, completeRamp_keeps b _ .pins (by decide), ?_, completeRamp_raised b _, ?_, gap, idle, kept, ?_,
      reported.flags, reported.alerts, ?_⟩
    · rw [completeRamp_bayRec, if_pos rfl, pins.bayRec_eq]
    · rw [completeRamp_thermalEntry, if_pos rfl, pins.thermalEntry_eq]
    · intro c hc
      rw [completeRamp_bayRec, if_neg hc, pins.bayRec_eq, completeRamp_thermalEntry, if_neg hc, pins.thermalEntry_eq]
      exact ⟨rfl, rfl⟩
    · exact (pins.within (l := [.pins, .bays, .thermal, .sequencer] ++ reportParts)).and (completeRamp_keeps b _)
  · refine congrArg Host.Outcome.next ?_
    have off : ¬(s.mode = .running ∧ bayState s b = .ramping) := fun ⟨run, ramping⟩ =>
      other.elim (fun h => h run) fun h => h ramping
    simp [bayPgAsserted, isRunning, off, updPins]

/-! ### Power faults -/

theorem powerFault_on {b : Bay} {s : State} (h : bayState s b = .poweredOn) :
    powerFault b s = dropTo b .fault (leaveOn b s) := by simp [powerFault, h]

theorem powerFault_stopping {b : Bay} {s : State} (h : bayState s b = .stopping) :
    powerFault b s = dropTo b .fault (flush (.bay b) s) := by simp [powerFault, h]

theorem powerFault_other {b : Bay} {s : State} (h : bayState s b ≠ .poweredOn) (k : bayState s b ≠ .stopping) :
    powerFault b s = s := by
  unfold powerFault
  split
  · next e => exact absurd e h
  · next e => exact absurd e k
  · rfl

/-- A power fault in ON or STOPPING (R14). -/
theorem powerFault_drops {b : Bay} {s : State} (up : bayState s b = .poweredOn ∨ bayState s b = .stopping) :
    Arrived b unpowered .fault s (powerFault b s) ∧ PortCleared b (bayState s b = .poweredOn) s (powerFault b s)
      ∧ KeepsAllBut ([.bayQueues, .stations] ++ budgetParts) s (powerFault b s) := by
  rcases up with on | stopping
  · rw [powerFault_on on]
    have left := leaveOn_keeps b s
    refine ⟨(dropTo_arrived b .fault _).before left, ?_,
      (left.within (l := [.bayQueues, .stations] ++ budgetParts)).and (dropTo_keeps b .fault _)⟩
    simpa [on] using (leaveOn_cleared b s).after (dropTo_keeps b .fault _)
  · rw [powerFault_stopping stopping]
    have left : KeepsAllBut [.bayQueues, .pool] s (flush (.bay b) s) := flush_keeps (.bay b) s
    refine ⟨(dropTo_arrived b .fault _).before left, ?_,
      (left.within (l := [.bayQueues, .stations] ++ budgetParts)).and (dropTo_keeps b .fault _)⟩
    simpa [stopping] using (flush_cleared b s).after (dropTo_keeps b .fault _)

/-- Settles O11: the power fault comes on the state whose line has moved. -/
theorem bayPowerFault : Obligations.BayPowerFault := by
  refine ⟨fun b s run up => ?_, fun b s other => congrArg Host.Outcome.next ?_⟩
  · have pins := updPins_keeps (fun p => { p with bayPg := Bank.put p.bayPg b false }) s
    have result : exec (.bayPgLow b) s
        = .next (powerFault b (updPins (fun p => { p with bayPg := Bank.put p.bayPg b false }) s)) := by
      simp [exec, execBayPgLow, bayPgLow, isRunning, run]
    have state := pins.bayState_eq b
    obtain ⟨drop, clear, frame⟩ := powerFault_drops (s := updPins _ s) (state ▸ up)
    replace drop := drop.before pins
    replace clear := clear.before pins
    rw [state] at clear
    refine ⟨_, result, frame .pins (by decide), drop.record, drop.raised, clear.flushed, clear.others,
      clear.stations, fun stopping => clear.kept (by simp [stopping]), drop.evaluated, drop.others, drop.reported.flags,
      drop.reported.alerts, (pins.within (l := [.pins, .bayQueues, .stations] ++ budgetParts)).and frame⟩
  · unfold bayPgLow
    by_cases run : s.mode = .running
    · obtain ⟨on, stopping⟩ := other.resolve_left fun h => h run
      have kept := powerFault_other (s := updPins (fun p => { p with bayPg := Bank.put p.bayPg b false }) s) on stopping
      exact (if_pos (by simp [isRunning, run])).trans kept
    · simp [isRunning, run, updPins]

/-! ### The ramp timer and the stop timer -/

/-- Settles O12: both expiries are a drop of the bay, the first with the release of the sequencer. -/
theorem rampFaultAndStopEnd : Obligations.RampFaultAndStopEnd := by
  refine ⟨fun b s run ramping timer => ?_, fun b s run stopping timer => ?_⟩
  · have result : exec (.rampTimerExpiry b) s = .next (rampEndUnpowered b (dropTo b .fault s)) := by
      simp [exec, execRampTimerExpiry, whenRunning_running run, Option.isSome_iff_ne_none.mpr timer, ramping, rampFault]
    obtain ⟨record, raised, freed, compared, others, reported⟩ := (dropTo_arrived b .fault s).freed
    exact ⟨_, result, record, raised, freed, compared, others, reported.flags, reported.alerts,
      (dropTo_keeps b .fault s).and (rampEndUnpowered_keeps b _)⟩
  · have result : exec (.stopTimerExpiry b) s = .next (dropTo b (standbyState s b) s) := by
      simp [exec, execStopTimerExpiry, whenRunning_running run, Option.isSome_iff_ne_none.mpr timer, stopping, endStop]
    have drop := dropTo_arrived b (standbyState s b) s
    exact ⟨_, result, drop.record, drop.raised, drop.evaluated, drop.others, drop.reported.flags, drop.reported.alerts,
      dropTo_keeps b _ s⟩

end Sys2Proof.Machine
end

section
/-! SUPPORT. The insertion and the removal of a bay's module (O8, O9). -/

namespace Sys2Proof.Machine

/-! ### Slots by their owner (R28) -/

@[simp] theorem slotOwner_slotOfBay (b : Bay) : slotOwner (slotOfBay b) = .bay b := by
  simp [slotOwner, slotOfBay]

@[simp] theorem slotOwner_slotOfPsu (p : Psu) : slotOwner (slotOfPsu p) = .psu p := by
  have := p.isLt
  simp [slotOwner, slotOfPsu, show 16 + p.val < 20 by omega]

@[simp] theorem slotOwner_slotOfFan (f : Fan) : slotOwner (slotOfFan f) = .fan f := by
  simp [slotOwner, slotOfFan, show ¬20 + f.val < 16 by omega]

/-! ### A fresh request of a slot (R32, R41, R44) -/

section
variable {k : Slot} {s : State}

theorem requestScan_unsettled (h : (slotRec s k).status ≠ .complete) (h' : (slotRec s k).status ≠ .unidentified) :
    requestScan k s = engineTakes (freshRequest k s) := if_neg (by simp [h, h'])

theorem requestScan_settled (h : (slotRec s k).status = .complete ∨ (slotRec s k).status = .unidentified) :
    requestScan k s = reportStatus k (engineTakes (freshRequest k s)) := if_pos h

theorem engineTakes_freshRequest_keeps (k : Slot) (s : State) :
    KeepsAllBut [.slots, .scanQueue, .scan] s (engineTakes (freshRequest k s)) :=
  ((freshRequest_keeps k s).within (l := [.slots, .scanQueue, .scan])).and (engineTakes_keeps _)

end

theorem reportStatus_bay (b : Bay) (s : State) : reportStatus (slotOfBay b) s = evaluate (.bay b) s := by
  simp [reportStatus]

/-- A request of a bay's slot, its settled identity being reported to the budget alone (R44). -/
theorem requestScan_bay_eq (b : Bay) (s : State) : requestScan (slotOfBay b) s
    = if (slotRec s (slotOfBay b)).status = .complete ∨ (slotRec s (slotOfBay b)).status = .unidentified then
        evaluate (.bay b) (engineTakes (freshRequest (slotOfBay b) s))
      else engineTakes (freshRequest (slotOfBay b) s) := by
  rw [← reportStatus_bay]; rfl

theorem requestScan_bay_keeps (b : Bay) (s : State) :
    KeepsAllBut ([.slots, .scanQueue, .scan] ++ budgetParts) s (requestScan (slotOfBay b) s) := by
  have frame := (engineTakes_freshRequest_keeps (slotOfBay b) s).within (l := [.slots, .scanQueue, .scan] ++ budgetParts)
  rw [requestScan_bay_eq]
  split
  · exact frame.and (evaluate_keeps _ _)
  · exact frame

theorem requestScan_bays (b c : Bay) (s : State) :
    sameBayRecord (bayRec s c) (bayRec (requestScan (slotOfBay b) s) c) := by
  have frame := engineTakes_freshRequest_keeps (slotOfBay b) s
  rw [requestScan_bay_eq]
  split
  · exact (sameBayRecord.of_eq (frame.bayRec_eq c)).trans (evaluate_bays _ _ c)
  · exact .of_eq (frame.bayRec_eq c)

theorem requestScan_fresh {k : Slot} {s : State} (law : ScanLaw s) : FreshlyRequested k s (requestScan k s) := by
  have fresh := engineTakes_freshRequest (k := k) law
  by_cases settled : (slotRec s k).status = .complete ∨ (slotRec s k).status = .unidentified
  · rw [requestScan_settled settled]
    exact fresh.after (reportStatus_keeps k _)
  · rw [not_or] at settled
    rw [requestScan_unsettled settled.1 settled.2]
    exact fresh

/-! ### Detection (R3, R19) -/

theorem enterDetected_bayState (b : Bay) (f : BayRec → BayRec) (s : State) :
    bayState (requestScan (slotOfBay b) (evaluate (.bay b) (enterState b .detected (updBay b f s)))) b = .detected := by
  rw [bayState, (requestScan_bays b b _).state_eq, (evaluate_bays _ _ b).state_eq, bayRec_enterState_updBay, if_pos rfl]
  rfl

/-- The bay's record is written by `f` and the bay passes through DETECTED, its slot freshly requested. -/
theorem enterDetected_eq (b : Bay) (f : BayRec → BayRec) (s : State) : enterDetected b (updBay b f s)
    = enterState b .identifying
        (requestScan (slotOfBay b) (evaluate (.bay b) (enterState b .detected (updBay b f s)))) :=
  if_pos (enterDetected_bayState b f s)

/-- From DETECTED to IDENTIFYING the budget stands (R52). -/
theorem enterState_identifying_budgetKept {b : Bay} {s : State} (h : bayState s b = .detected) :
    BudgetKept s (enterState b .identifying s) := by
  have frame := enterState_keeps b .identifying s
  refine ⟨enterState_emergencyKept b _ s, ?_, frame .figures (by decide), (frame .hold (by decide)).1⟩
  have state (c) : bayState (enterState b .identifying s) c = if c = b then .identifying else bayState s c := by
    rw [bayState, bayRec_enterState]; split <;> rfl
  have record (c) : (bayRec (enterState b .identifying s) c).grant = (bayRec s c).grant
      ∧ (bayRec (enterState b .identifying s) c).cap = (bayRec s c).cap
      ∧ (bayRec (enterState b .identifying s) c).priority = (bayRec s c).priority := by
    rw [bayRec_enterState]; split
    · next e => subst e; exact ⟨rfl, rfl, rfl⟩
    · exact ⟨rfl, rfl, rfl⟩
  refine ⟨fun c => ?_, fun c => ?_, fun c => ?_, fun c => (record c).1, fun c => (record c).2.1,
    fun c => (record c).2.2, frame.isComplete_eq, fun k => by rw [frame.slotRec_eq k], frame.supplyRec_eq,
    fun i => by rw [frame.fanRec_eq i], frame .powerPolicy (by decide)⟩
  all_goals
    rw [state]
    split
    · next e => subst e; rw [h]; rfl
    · rfl

/-- What a detected bay comes to, `f` being written to its record beforehand (R3, R19). -/
structure Detected (b : Bay) (f : BayRec → BayRec) (s t : State) : Prop where
  record : sameBayRecord { f (bayRec s b) with state := .identifying } (bayRec t b)
  raised : Raised (.bayChange b) t
  requested : FreshlyRequested (slotOfBay b) s t
  figures : FiguresCurrent t
  evaluated : (slotRec s (slotOfBay b)).status ≠ .complete → (slotRec s (slotOfBay b)).status ≠ .unidentified →
    EvaluatedFor (.bay b) s t
  others : OtherBaysKept b s t
  reported : Reported [0, 2, 3, 7] s t
  frame : KeepsAllBut ([.slots, .scanQueue, .scan] ++ budgetParts) s t

section
variable {b : Bay} {f : BayRec → BayRec} {s : State}

theorem enterDetected_detected (aside : (f (bayRec s b)).emergencyCause = (bayRec s b).emergencyCause)
    (law : ScanLaw s) : Detected b f s (enterDetected b (updBay b f s)) := by
  have arrived : Arrived b f .detected s (evaluate (.bay b) (enterState b .detected (updBay b f s))) :=
    evaluate_arrived aside
  have frame1 : KeepsAllBut budgetParts s (evaluate (.bay b) (enterState b .detected (updBay b f s))) :=
    ((enterState_updBay_keeps b .detected f s).within (l := budgetParts)).and (evaluate_keeps _ _)
  have state := enterDetected_bayState b f s
  rw [enterDetected_eq]
  generalize evaluate (.bay b) (enterState b .detected (updBay b f s)) = t at *
  have slot : slotRec t (slotOfBay b) = slotRec s (slotOfBay b) := frame1.slotRec_eq _
  have frame2 := requestScan_bay_keeps b t
  have requested := (requestScan_fresh (k := slotOfBay b) (scanLaw_congr frame1 (law := law))).before frame1
  have kept := enterState_identifying_budgetKept state
  have frame3 := enterState_keeps b .identifying (requestScan (slotOfBay b) t)
  constructor
  case record =>
    rw [bayRec_enterState, if_pos rfl, arrived.record.trans (requestScan_bays b b t)]
    exact sameBayRecord_followThrottle _
  case raised => exact enterState_raised b _ _
  case requested => exact requested.after frame3
  case figures =>
    refine FiguresCurrent.after kept ?_
    rw [requestScan_bay_eq]
    split
    · exact (evaluate_evaluatedFor (.bay b) _).1.1
    · next h =>
      have fresh := engineTakes_freshRequest (k := slotOfBay b) (scanLaw_congr frame1 (law := law))
      exact arrived.evaluated.1.1.after
        (fresh.budgetKept (engineTakes_freshRequest_keeps _ t) fun c => h (.inl c))
  case evaluated =>
    intro complete unidentified
    rw [← slot] at complete unidentified
    rw [requestScan_unsettled complete unidentified] at *
    have fresh := engineTakes_freshRequest (k := slotOfBay b) (scanLaw_congr frame1 (law := law))
    have scanFrame := engineTakes_freshRequest_keeps (slotOfBay b) t
    exact (arrived.evaluated.after (fresh.budgetKept scanFrame complete) (scanFrame .waitList (by decide)).1
      (scanFrame .sequencer (by decide))).after kept (frame3 .waitList (by decide)).1 (frame3 .sequencer (by decide))
  case others =>
    exact (arrived.others.trans fun c _ => requestScan_bays b c t).trans (enterState_othersKept b _ _)
  case reported =>
    exact (arrived.reported.and (requestScan_reported _ t)).and (enterState_reported b _ _)
  case frame =>
    exact ((frame1.within (l := [.slots, .scanQueue, .scan] ++ budgetParts)).and frame2).and frame3

end

/-- Settles O8: the insertion is a detection of the bay, its insertion counted. -/
theorem bayInserted : Obligations.BayInserted := by
  intro b s run law empty timer
  have result : exec (.bayInsertionDebounceExpiry b) s = .next (insertBay b s) := by
    simp [exec, execBayInsertionDebounceExpiry, whenRunning_running run, Option.isSome_iff_ne_none.mpr timer, empty]
  have h : Detected b (fun r => { r with insertTimer := none, insertions := satAdd r.insertions 1 Config.top8 }) s
    (insertBay b s) := enterDetected_detected rfl law
  exact ⟨_, result, h.record, h.raised, h.requested, h.figures, h.evaluated, h.others, h.reported.flags,
    h.reported.alerts, h.frame⟩

/-! ### Removal (R17) -/

/-- The record of a bay whose module has gone (R17). -/
def removedRec (r : BayRec) : BayRec := { unpowered r with shedMark := false, critical := false, removeTimer := none }

/-- The parts that a removal touches before the bay enters EMPTY. -/
theorem removeBay_before (b : Bay) (s : State) :
    KeepsAllBut [.slots, .scanQueue, .scan, .thermal, .waitList, .bayQueues, .pool, .stations] s
      (updThermal b (fun _ => resetThermal) (clearSlot (slotOfBay b) (leaveWaitList b (leaveOn b s)))) :=
  ((((leaveOn_keeps b s).within
    (l := [.slots, .scanQueue, .scan, .thermal, .waitList, .bayQueues, .pool, .stations])).and
    (leaveWaitList_keeps b _)).and (clearSlot_keeps _ _)).and (updThermal_keeps b _ _)

/-- The module's removal, its parts in order (R17). -/
theorem removeBay_eq (b : Bay) (s : State) : removeBay b s = rampEndUnpowered b (evaluate (.bay b)
    (enterState b .empty (updBay b removedRec
      (updThermal b (fun _ => resetThermal) (clearSlot (slotOfBay b) (leaveWaitList b (leaveOn b s))))))) := rfl

/-- Settles O9: the queue, the list, the slot and the thermal entry go before the bay's arrival in EMPTY, and the
sequencer is freed after it. -/
theorem bayRemoved : Obligations.BayRemoved := by
  intro b s run occupied timer
  have result : exec (.bayRemovalDebounceExpiry b) s = .next (removeBay b s) := by
    simp [exec, execBayRemovalDebounceExpiry, whenRunning_running run, Option.isSome_iff_ne_none.mpr timer, occupied]
  have before := removeBay_before b s
  have left := leaveOn_keeps b s
  have listFrame := leaveWaitList_keeps b (leaveOn b s)
  have clearFrame := clearSlot_keeps (slotOfBay b) (leaveWaitList b (leaveOn b s))
  have thermalFrame := updThermal_keeps b (fun _ => resetThermal)
    (clearSlot (slotOfBay b) (leaveWaitList b (leaveOn b s)))
  have cleared := (((leaveOn_cleared b s).after listFrame).after clearFrame).after thermalFrame
  have stopped := (((clearSlot_stopped (slotOfBay b) _).before listFrame).before left).after thermalFrame
  have thermal (c) : thermalEntry (updThermal b (fun _ => resetThermal)
      (clearSlot (slotOfBay b) (leaveWaitList b (leaveOn b s)))) c
      = if c = b then resetThermal else thermalEntry s c := by
    rw [thermalEntry_updThermal, clearFrame.thermalEntry_eq c, listFrame.thermalEntry_eq c, left.thermalEntry_eq c]
  have list : (updThermal b (fun _ => resetThermal)
        (clearSlot (slotOfBay b) (leaveWaitList b (leaveOn b s)))).pbu.waitList
        = s.pbu.waitList.filter (fun w => w.bay ≠ b)
      ∧ (updThermal b (fun _ => resetThermal)
        (clearSlot (slotOfBay b) (leaveWaitList b (leaveOn b s)))).pbu.nextStamp = s.pbu.nextStamp := by
    rw [updThermal_pbu, clearFrame.pbu_eq, leaveWaitList, updPbu_pbu, left.pbu_eq]
    exact ⟨rfl, rfl⟩
  rw [removeBay_eq] at result
  generalize updThermal b (fun _ => resetThermal) (clearSlot (slotOfBay b) (leaveWaitList b (leaveOn b s))) = t at *
  have after : KeepsAllBut budgetParts t
      (rampEndUnpowered b (evaluate (.bay b) (enterState b .empty (updBay b removedRec t)))) :=
    (((enterState_updBay_keeps b .empty removedRec t).within (l := budgetParts)).and (evaluate_keeps _ _)).and
      (rampEndUnpowered_keeps b _)
  obtain ⟨record, raised, freed, compared, others, reported⟩ :=
    ((evaluate_arrived (b := b) (st := .empty) (f := removedRec) (s := t) rfl).before before).freed
  obtain ⟨list', stamp'⟩ := after .waitList (by decide)
  replace cleared := cleared.after after
  replace stopped := stopped.after after
  refine ⟨_, result, record, raised, ⟨stopped.record, stopped.unqueued, stopped.unscanned⟩, ?_, fun c hc => ?_,
    list'.trans list.1, stamp'.trans list.2, freed, cleared.flushed, cleared.others, cleared.stations trivial, compared,
    others, stopped.aborted, reported.flags, reported.alerts, ?_⟩
  · rw [after.thermalEntry_eq b, thermal, if_pos rfl]
  · rw [after.thermalEntry_eq c, thermal, if_neg hc]
  · exact (before.within
      (l := [.slots, .scanQueue, .scan, .thermal, .waitList, .bayQueues, .stations] ++ budgetParts)).and after

end Sys2Proof.Machine
end

section
/-! SUPPORT. The hand-over of an admission (O13). -/

namespace Sys2Proof.Machine

theorem admissionTaken_result {b : Bay} {s : State} (run : s.mode = .running) (seq : s.pbu.seq = .admitting b) :
    exec .admissionTaken s = .next (answerAdmission b s) := by
  simp [exec, execAdmissionTaken, whenRunning_running run, takeHandedAdmission, seq]

/-- What an admission that is taken comes to before BAY_PG is looked at (R7, R60, R64). -/
structure Admitted (b : Bay) (s t : State) : Prop where
  record : sameBayRecord { rampingRec (classGrant s b) (bayRec s b) with state := .ramping } (bayRec t b)
  raised : Raised (.bayChange b) t
  seq : t.pbu.seq = .ramp b
  gap : t.pbu.gapTimer = s.pbu.gapTimer
  list : t.pbu.waitList = s.pbu.waitList.filter (fun w => w.bay ≠ b)
  stamp : t.pbu.nextStamp = s.pbu.nextStamp
  compared : Compared (.bay b) s t
  others : OtherBaysKept b s t
  reported : Reported [0, 2, 3, 7] s t
  frame : KeepsAllBut (.waitList :: budgetParts) s t

/-- The bay ramps and has left the list, the sequencer naming it; the evaluation is still to come (R7, R64). -/
def rampBegun (b : Bay) (s : State) : State :=
  updPbu (fun p => { p with seq := .ramp b })
    (enterState b .ramping (updBay b (rampingRec (classGrant s b)) (leaveWaitList b s)))

theorem takeAdmission_eq (b : Bay) (s : State) : takeAdmission b s = evaluate (.bay b) (rampBegun b s) := rfl

theorem rampBegun_keeps (b : Bay) (s : State) :
    KeepsAllBut ([.waitList, .bays, .sequencer] ++ reportParts) s (rampBegun b s) :=
  (((leaveWaitList_keeps b s).within (l := [.waitList, .bays, .sequencer] ++ reportParts)).and
    (enterState_updBay_keeps b _ _ _)).and (updPbu_seq_keeps _ _)

theorem bayRec_rampBegun (b c : Bay) (s : State) : bayRec (rampBegun b s) c
    = if c = b then followThrottle { rampingRec (classGrant s b) (bayRec s b) with state := .ramping }
      else bayRec s c := by
  have left := leaveWaitList_keeps b s
  rw [rampBegun, bayRec_updPbu, bayRec_enterState_updBay, left.bayRec_eq, left.bayRec_eq]

theorem rampBegun_pbu (b : Bay) (s : State) : (rampBegun b s).pbu
    = { s.pbu with seq := .ramp b, waitList := s.pbu.waitList.filter (fun w => w.bay ≠ b) } := by
  rw [rampBegun, updPbu_pbu, enterState, raise_pbu]
  rfl

theorem rampBegun_reported (b : Bay) (s : State) : Reported [0, 7] s (rampBegun b s) :=
  (((Reported.of_keeps (leaveWaitList_keeps b s)).trans (.of_keeps (updBay_keeps b _ _))).trans
    (enterState_reported b _ _)).trans (.of_keeps (updPbu_seq_keeps _ _))

theorem rampBegun_emergencyKept (b : Bay) (s : State) : EmergencyKept s (rampBegun b s) := by
  refine .of_reported (rampBegun_keeps b s) (fun c => ?_) (rampBegun_reported b s)
  rw [bayRec_rampBegun]
  split
  · next e => subst e; rfl
  · rfl

theorem takeAdmission_admitted (b : Bay) (s : State) : Admitted b s (takeAdmission b s) := by
  have frame := evaluate_keeps (.bay b) (rampBegun b s)
  obtain ⟨compared, gap, -, busy⟩ := evaluate_evaluatedFor (.bay b) (rampBegun b s)
  obtain ⟨list, stamp⟩ := frame .waitList (by decide)
  have reports := evaluate_reported (.bay b) (rampBegun b s)
  rw [rampBegun_pbu] at gap busy list stamp
  rw [takeAdmission_eq]
  constructor
  case record =>
    have record := evaluate_bays (.bay b) (rampBegun b s) b
    rw [bayRec_rampBegun, if_pos rfl] at record
    exact (sameBayRecord_followThrottle _).trans record
  case raised =>
    exact ((enterState_raised b .ramping _).kept (Reported.of_keeps (classes := []) (updPbu_seq_keeps _ _))).kept reports
  case seq => exact busy (by simp)
  case gap => exact gap
  case list => exact list
  case stamp => exact stamp
  case compared => exact compared.before (rampBegun_emergencyKept b s) (by rw [rampBegun_pbu])
  case others =>
    intro c hc
    have record := evaluate_bays (.bay b) (rampBegun b s) c
    rwa [bayRec_rampBegun, if_neg hc] at record
  case reported => exact ((rampBegun_reported b s).mono).and reports
  case frame => exact ((rampBegun_keeps b s).within (l := .waitList :: budgetParts)).and frame

/-- With the bay back in RAMPING, a completed ramp has left the budget (R8, R52). -/
theorem completeRamp_budgetKept {b : Bay} {s : State} (h : bayState s b = .ramping) :
    BudgetKept s (updBay b (fun r => { r with state := .ramping }) (completeRamp b s)) := by
  have frame := (completeRamp_keeps b s).and (updBay_keeps b (fun r => { r with state := .ramping }) _)
  have record (c) : bayRec (updBay b (fun r => { r with state := .ramping }) (completeRamp b s)) c
      = if c = b then followThrottle { bayRec s b with rampTimer := none } else bayRec s c := by
    change (bayRec s b).state = .ramping at h
    rw [bayRec_updBay, completeRamp_bayRec, completeRamp_bayRec, if_pos rfl, ← h]
    split <;> rfl
  have reported : Reported [0, 7] s (updBay b (fun r => { r with state := .ramping }) (completeRamp b s)) :=
    (completeRamp_reported b s).trans (.of_keeps (updBay_keeps b _ _))
  refine ⟨.of_reported frame (fun c => ?_) reported, ?_, frame .figures (by decide), (frame .hold (by decide)).1⟩
  · rw [record]; split
    · next e => subst e; rfl
    · rfl
  · refine ⟨?_, ?_, ?_, ?_, ?_, ?_, frame.isComplete_eq, fun k => by rw [frame.slotRec_eq k], frame.supplyRec_eq,
      fun i => by rw [frame.fanRec_eq i], frame .powerPolicy (by decide)⟩
    all_goals
      intro c
      simp only [bayState, priorityOf, record]
      split
      · next e => subst e; rfl
      · rfl

section
variable {b : Bay} {s : State}

theorem answerAdmission_low (waits : bayState s b = .waitPower) (low : Bank.read s.pins.bayPg b = false) :
    answerAdmission b s = takeAdmission b s := by simp [answerAdmission, waits, low]

theorem answerAdmission_high (waits : bayState s b = .waitPower) (high : Bank.read s.pins.bayPg b = true) :
    answerAdmission b s = completeRamp b (takeAdmission b s) := by simp [answerAdmission, waits, high]

theorem answerAdmission_declined (h : bayState s b ≠ .waitPower) :
    answerAdmission b s = evaluateHead (updPbu (fun p => { p with seq := .idle }) s) := if_neg h

end

/-- Settles O13: with BAY_PG asserted the ramp completes on the state that the admission leaves. -/
theorem admissionTaken : Obligations.AdmissionTaken := by
  refine ⟨fun b s run seq waits low => ?_, fun b s run seq waits high => ?_, fun b s run seq waits => ?_⟩
  · have h := takeAdmission_admitted b s
    refine ⟨takeAdmission b s, ?_, h.record, h.raised, h.seq, h.gap, h.list, h.stamp, h.compared, h.others,
      h.reported.flags, h.reported.alerts, h.frame⟩
    rw [admissionTaken_result run seq, answerAdmission_low waits low]
  · have h := takeAdmission_admitted b s
    have ramping := takeAdmission_bayState b s
    have result := (admissionTaken_result run seq).trans
      (congrArg Host.Outcome.next (answerAdmission_high waits high))
    generalize takeAdmission b s = t at *
    have frame := completeRamp_keeps b t
    obtain ⟨list, stamp⟩ := frame .waitList (by decide)
    obtain ⟨gap, idle, -⟩ := completeRamp_sequencer b t
    have policy : t.pbu.policy = s.pbu.policy := h.frame .powerPolicy (by decide)
    rw [policy] at gap idle
    refine ⟨_, result, ?_, completeRamp_raised b t, ?_, gap h.seq, fun zero => ?_, list.trans h.list,
      stamp.trans h.stamp, h.compared.after (completeRamp_budgetKept ramping), fun c hc => ?_, fun c hc => ?_, ?_, ?_,
      ?_⟩
    · rw [completeRamp_bayRec, if_pos rfl, h.record]
      exact sameBayRecord_followThrottle _
    · rw [completeRamp_thermalEntry, if_pos rfl, h.frame.thermalEntry_eq]
    · exact ⟨(idle h.seq zero).1, (idle h.seq zero).2.trans h.gap⟩
    · rw [completeRamp_bayRec, if_neg hc]; exact h.others c hc
    · rw [completeRamp_thermalEntry, if_neg hc, h.frame.thermalEntry_eq]
    · exact (h.reported.and (completeRamp_reported b t)).flags
    · exact (h.reported.and (completeRamp_reported b t)).alerts
    · exact (h.frame.within (l := .waitList :: .thermal :: budgetParts)).and frame
  · refine ⟨_, (admissionTaken_result run seq).trans (congrArg Host.Outcome.next (answerAdmission_declined waits)), ?_⟩
    exact ⟨evaluateHead_evaluates _ rfl, evaluateHead_gapTimer _,
      (updPbu_seq_keeps (fun _ => .idle) s).and (evaluateHead_keeps _)⟩

end Sys2Proof.Machine
end

section
/-! SUPPORT. The hand-exceeds of a shed request (O14). -/

namespace Sys2Proof.Machine

/-! ### The end of a run and of an emergency -/

/-- A run that stops raises SHED where it has shed a bay (R81). -/
theorem endRun_raises {s : State} {x : Bay} (run : s.pbu.emg.runShed = true) (last : s.pbu.emg.lastShed = some x) :
    Raised (.shed x) (endRun s) := by
  simp only [endRun, run, last]
  exact raise_raised _ _ (by simp [causeClass])

theorem endRun_quiet {s : State} (run : s.pbu.emg.runShed = false) :
    endRun s = updEmg (fun e => { e with runShed := false }) s := by simp [endRun, run]

theorem endEmergency_pbu (source : EmgSource) (s : State) : (endEmergency source s).pbu
    = { s.pbu with ae := s.pbu.ae2, emg := { s.pbu.emg with
        phase := .none, graceTimer := none, shedBay := none, runShed := false } } := by
  unfold endEmergency
  rw [raise_pbu, endRun_pbu]
  rfl

theorem enterExhausted_pbu (s : State) : (enterExhausted s).pbu
    = { s.pbu with emg := { s.pbu.emg with phase := .exhausted, shedBay := none, runShed := false } } := by
  unfold enterExhausted
  rw [raise_pbu, endRun_pbu]
  rfl

/-- What the end of a run of shedding says of flag 3 (R81). -/
structure ShedReported (s t : State) : Prop where
  raised : s.pbu.emg.runShed = true → ∀ x, s.pbu.emg.lastShed = some x → Raised (.shed x) t
  quiet : s.pbu.emg.runShed = false → flagRec t 3 = flagRec s 3

theorem ShedReported.after {s t u : State} (h : ShedReported s t) (k : Reported [2, 7] t u) : ShedReported s u :=
  ⟨fun run x last => (h.raised run x last).kept k, fun run => (k.flags 3 (by decide)).trans (h.quiet run)⟩

theorem endRun_shedReported {s s' : State} (run : s'.pbu.emg.runShed = s.pbu.emg.runShed)
    (last : s'.pbu.emg.lastShed = s.pbu.emg.lastShed) (flag : flagRec s' 3 = flagRec s 3) :
    ShedReported s (endRun s') :=
  ⟨fun x y z => endRun_raises (run.trans x) (last.trans z), fun x => by rw [endRun_quiet (run.trans x)]; exact flag⟩

theorem raise_shedReported {c : Cause} {s t : State} (hc : causeClass c = 2) (h : ShedReported s t) :
    ShedReported s (raise c t) := h.after (hc ▸ raise_reported c t)

theorem endEmergency_shedReported (source : EmgSource) (s : State) : ShedReported s (endEmergency source s) := by
  unfold endEmergency
  exact raise_shedReported rfl (endRun_shedReported (by simp) (by simp) (by simp [flagRec]))

theorem enterExhausted_shedReported (s : State) : ShedReported s (enterExhausted s) := by
  unfold enterExhausted
  exact raise_shedReported rfl (endRun_shedReported (by simp) (by simp) (by simp [flagRec]))

theorem endEmergency_bays (source : EmgSource) (s : State) (c : Bay) :
    sameBayRecord (bayRec s c) (bayRec (endEmergency source s) c) := by
  unfold endEmergency
  rw [raise_bayRec, endRun_bayRec, bayRec_updPbu, bayRec_updBays, bayRec_updEmg]
  rfl

theorem enterExhausted_bayRec (s : State) (c : Bay) : bayRec (enterExhausted s) c = bayRec s c := by
  unfold enterExhausted
  rw [raise_bayRec, endRun_bayRec, bayRec_updEmg]

theorem enterExhausted_raised (s : State) : Raised (.emergency .exhausted .none) (enterExhausted s) :=
  raise_raised _ _ (by simp [causeClass])

/-! ### The head in an emergency (R61) -/

theorem not_fits_of_phase {s : State} (h : s.pbu.emg.phase ≠ .none) (b : Bay) : ¬Fits s b := fun f => h f.2.1

/-- In an emergency an evaluated head is not admitted. -/
theorem headEvaluated_iff {s : State} (h : s.pbu.emg.phase ≠ .none) : HeadEvaluated s ↔ s.pbu.seq = .idle := by
  unfold HeadEvaluated
  simp [not_fits_of_phase h]

/-! ### The answer to a shed request (R78, R79, R82) -/

/-- The request has been answered and the PBU has acted on the figures, which were current. -/
structure ShedAnswered (source : EmgSource) (s t : State) : Prop where
  decided : ShedDecided source s.pbu.emg.shedCount s t
  last : t.pbu.emg.lastShed = s.pbu.emg.lastShed
  stopped : t.pbu.emg.phase ≠ .shedding → ShedReported s t
  runsOn : t.pbu.emg.phase = .shedding → flagRec t 3 = flagRec s 3
  gap : t.pbu.gapTimer = s.pbu.gapTimer
  idle : s.pbu.seq = .idle → HeadEvaluated t
  busy : s.pbu.seq ≠ .idle → t.pbu.seq = s.pbu.seq
  bays : ∀ c, sameBayRecord (bayRec s c) (bayRec t c)
  reported : Reported [2, 3, 7] s t
  frame : KeepsAllBut budgetParts s t

section
variable {s : State} (figures : FiguresCurrent s)
include figures

theorem answerShed_ends (fit : overBudget s = false) : ShedAnswered (lastShedSource s) s (answerShed s) := by
  have eq : answerShed s = evaluateHead (endEmergency (lastShedSource s) s) := by simp [answerShed, fit]
  obtain ⟨ended, count⟩ := endEmergency_ended (lastShedSource s) s
  have pbu := endEmergency_pbu (lastShedSource s) s
  have bays := endEmergency_bays (lastShedSource s) s
  have reports := endEmergency_reported (lastShedSource s) s
  have shed := endEmergency_shedReported (lastShedSource s) s
  have frame := endEmergency_keeps (lastShedSource s) s
  rw [eq]
  generalize endEmergency (lastShedSource s) s = e at *
  have head := evaluateHead_keeps e
  have kept : BudgetKept e (evaluateHead e) := .of_keeps head
  have emg : (evaluateHead e).pbu.emg = e.pbu.emg := head .emergency (by decide)
  have exceeds : overBudget (evaluateHead e) = false := by
    rw [kept.overBudget_eq, overBudget, pbu]; exact fit
  have whole : KeepsAllBut budgetParts s (evaluateHead e) := frame.and head
  have current : FiguresCurrent (evaluateHead e) :=
    figures_current (s := s) (fun c => (bays c).trans (.of_eq (head.bayRec_eq c)))
      (fun p hp => whole p (by revert p; decide)) (by rw [kept.figures, pbu]; exact figures)
  constructor
  case decided =>
    exact ⟨current, by rw [emg, count], fun _ => ended.after kept, fun n => by simp [exceeds] at n,
      fun n => by simp [exceeds] at n⟩
  case last => rw [emg, pbu]
  case stopped => exact fun _ => shed.after (.of_keeps head)
  case runsOn => rw [emg, pbu]; intro n; cases n
  case gap => rw [evaluateHead_gapTimer, pbu]
  case idle => exact fun h => evaluateHead_evaluates e (by rw [pbu]; exact h)
  case busy => exact fun h => by rw [evaluateHead_busy e (by rw [pbu]; exact h), pbu]
  case bays => exact fun c => (bays c).trans (.of_eq (head.bayRec_eq c))
  case reported => exact reports.trans (.of_keeps head)
  case frame => exact whole

theorem answerShed_names {c : Bay} (exceeds : overBudget s = true) (choose : chooseShed s = some c) (source : EmgSource) :
    ShedAnswered source s (answerShed s) := by
  have eq : answerShed s = updEmg (fun e => { e with phase := .shedding, shedBay := some c }) s := by
    simp [answerShed, exceeds, handShed, choose]
  have frame := updEmg_keeps (fun e => { e with phase := .shedding, shedBay := some c }) s
  rw [eq]
  have current : FiguresCurrent (updEmg (fun e => { e with phase := .shedding, shedBay := some c }) s) := figures
  have choose' : chooseShed (updEmg (fun e => { e with phase := .shedding, shedBay := some c }) s) = some c := choose
  refine ⟨⟨current, rfl, fun n => ?_, fun _ d hd => ⟨rfl, ?_⟩, fun _ n => ?_⟩, rfl, fun n => absurd rfl n, fun _ => rfl,
    rfl, fun h => (headEvaluated_iff (by simp)).mpr h, fun _ => rfl, fun _ => .refl _, .of_keeps frame, frame.within⟩
  · have : overBudget s = false := n
    simp [exceeds] at this
  · rw [choose'] at hd; exact hd
  · rw [choose'] at n; cases n

theorem answerShed_exhausts (exceeds : overBudget s = true) (choose : chooseShed s = none) (source : EmgSource) :
    ShedAnswered source s (answerShed s) := by
  have eq : answerShed s = enterExhausted s := by simp [answerShed, exceeds, handShed, choose]
  have pbu := enterExhausted_pbu s
  have bays := enterExhausted_bayRec s
  have frame := enterExhausted_keeps s
  have raised := enterExhausted_raised s
  have shed := enterExhausted_shedReported s
  have reports := enterExhausted_reported s
  rw [eq]
  generalize enterExhausted s = t at *
  have same (c) : sameBayRecord (bayRec s c) (bayRec t c) := .of_eq (bays c)
  have exceeds' : overBudget t = true := by rw [overBudget, pbu]; exact exceeds
  have choose' : chooseShed t = none := (chooseShed_congr same).trans choose
  constructor
  case decided =>
    refine ⟨figures_current same (fun p hp => frame p (by revert p; decide)) (by rw [pbu]; exact figures), by rw [pbu],
      fun n => by simp [exceeds'] at n, fun _ c n => by simp [choose'] at n, fun _ _ => ⟨by rw [pbu], by rw [pbu], raised⟩⟩
  case last => rw [pbu]
  case stopped => exact fun _ => shed
  case runsOn => rw [pbu]; intro n; cases n
  case gap => rw [pbu]
  case idle => exact fun h => (headEvaluated_iff (by rw [pbu]; simp)).mpr (by rw [pbu]; exact h)
  case busy => exact fun _ => by rw [pbu]
  case bays => exact same
  case reported => exact reports
  case frame => exact frame

/-- On the figures the emergency ends, or the next bay is named, or the phase is EXHAUSTED (R78, R82, R83). -/
theorem answerShed_answered : ShedAnswered (lastShedSource s) s (answerShed s) := by
  cases exceeds : overBudget s with
  | false => exact answerShed_ends figures exceeds
  | true =>
    cases choose : chooseShed s with
    | some c => exact answerShed_names figures exceeds choose _
    | none => exact answerShed_exhausts figures exceeds choose _

end

/-! ### A shed that is taken (R16, R78) -/

/-- In SHEDDING an evaluation records the figures, and no more than the head is acted on (R78). -/
theorem evaluate_shedding {source : EmgSource} {s : State} (phase : s.pbu.emg.phase = .shedding) :
    evaluate source s = evaluateHead (recordFigures s) := by
  have phase' : (recordFigures s).pbu.emg.phase = .shedding := phase
  simp [evaluate, compareBudget, phase']

theorem evaluate_shedding_keeps {source : EmgSource} {s : State} (phase : s.pbu.emg.phase = .shedding) :
    KeepsAllBut [.figures, .sequencer] s (evaluate source s) := by
  rw [evaluate_shedding phase]
  exact ((recordFigures_keeps s).within (l := [.figures, .sequencer])).and (evaluateHead_keeps _)

/-- The record of a bay that is shed (R16). -/
def shedRec (r : BayRec) : BayRec := { unpowered r with shedMark := true }

/-- The shed counted in the emergency record (R78). -/
def shedCounted (b : Bay) (e : Emergency) : Emergency :=
  { e with shedCount := e.shedCount + 1, lastShed := some b, runShed := true }

/-- The bay has been shed and the shed counted; the evaluation is still to come. -/
def shedDone (b : Bay) (s : State) : State := updEmg (shedCounted b) (shedTo b s)

theorem takeShed_eq (b : Bay) (s : State) : takeShed b s = rampEndUnpowered b (evaluate (.bay b) (shedDone b s)) := rfl

theorem shedDone_keeps (b : Bay) (s : State) :
    KeepsAllBut ([.waitList, .bayQueues, .pool, .stations, .bays, .emergency] ++ reportParts) s (shedDone b s) := by
  rw [shedDone, shedTo_eq]
  exact (((shedJoins_keeps b s).within
    (l := [.waitList, .bayQueues, .pool, .stations, .bays, .emergency] ++ reportParts)).and
    (enterState_updBay_keeps b _ _ _)).and (updEmg_keeps _ _)

theorem bayRec_shedDone (b c : Bay) (s : State) : bayRec (shedDone b s) c
    = if c = b then followThrottle { shedRec (bayRec s b) with state := shedState s b } else bayRec s c := by
  have frame := shedJoins_keeps b s
  rw [shedDone, bayRec_updEmg, shedTo_eq, bayRec_enterState_updBay, frame.bayRec_eq, frame.bayRec_eq]
  rfl

theorem shedDone_reported (b : Bay) (s : State) : Reported [0, 7] s (shedDone b s) := by
  rw [shedDone, shedTo_eq]
  exact (((Reported.of_keeps (shedJoins_keeps b s)).trans (.of_keeps (updBay_keeps b _ _))).trans
    (enterState_reported b _ _)).trans (.of_keeps (updEmg_keeps _ _))

theorem shedDone_raised (b : Bay) (s : State) : Raised (.bayChange b) (shedDone b s) := by
  rw [shedDone, shedTo_eq]
  exact (enterState_raised b _ _).kept (Reported.of_keeps (classes := []) (updEmg_keeps _ _))

theorem shedDone_emg (b : Bay) (s : State) : (shedDone b s).pbu.emg = shedCounted b s.pbu.emg := by
  have emg : (shedJoins b s).pbu.emg = s.pbu.emg := shedJoins_keeps b s .emergency (by decide)
  rw [shedDone, shedTo_eq, updEmg, enterState, raise_pbu, updBay_pbu, updBay_pbu, emg]

theorem shedJoins_waitList (b : Bay) (s : State) :
    if (bayRec s b).autoRestore && isComplete s (slotOfBay b) then
      (shedJoins b s).pbu.waitList
          = insertWaiting (priorityOf s) { bay := b, stamp := s.pbu.nextStamp } s.pbu.waitList
        ∧ (shedJoins b s).pbu.nextStamp = s.pbu.nextStamp + 1
    else (shedJoins b s).pbu.waitList = s.pbu.waitList ∧ (shedJoins b s).pbu.nextStamp = s.pbu.nextStamp := by
  have left := leaveOn_keeps b s
  have priority : priorityOf (leaveOn b s) = priorityOf s := by
    funext c
    rw [priorityOf, left.bayRec_eq c, priorityOf]
  unfold shedJoins
  split
  · rw [joinWaitList, updPbu_pbu, priority, left.pbu_eq]
    exact ⟨rfl, rfl⟩
  · rw [left.pbu_eq]
    exact ⟨rfl, rfl⟩

theorem shedDone_waitList (b : Bay) (s : State) : Part.waitList.same (shedJoins b s) (shedDone b s) := by
  rw [shedDone, shedTo_eq]
  exact ((((updBay_keeps b _ (shedJoins b s)).within (l := .emergency :: .bays :: reportParts)).and
    (enterState_keeps b _ _)).and (updEmg_keeps _ _)) .waitList (by decide)

theorem shedDone_cleared (b : Bay) (s : State) : PortCleared b True s (shedDone b s) := by
  have joined : PortCleared b True s (shedJoins b s) := by
    unfold shedJoins
    split
    · exact (leaveOn_cleared b s).after (joinWaitList_keeps b _)
    · exact leaveOn_cleared b s
  rw [shedDone, shedTo_eq]
  exact (joined.after (enterState_updBay_keeps b _ _ _)).after (updEmg_keeps _ _)

theorem SequencerFreed.before {b : Bay} {s s' t : State} (h : SequencerFreed b s' t) (seq : Part.sequencer.same s s') :
    SequencerFreed b s t := by
  obtain ⟨seq, gap⟩ : s'.pbu.seq = s.pbu.seq ∧ s'.pbu.gapTimer = s.pbu.gapTimer := seq
  rwa [SequencerFreed, seq, gap] at h

/-- A shed that is taken, before the PBU acts on the figures (R16, R66, R78). -/
structure Shed (b : Bay) (s t : State) : Prop where
  record : sameBayRecord { shedRec (bayRec s b) with state := shedState s b } (bayRec t b)
  others : OtherBaysKept b s t
  raised : Raised (.bayChange b) t
  emg : t.pbu.emg = shedCounted b s.pbu.emg
  gates : Part.gates.same s t
  list : Part.waitList.same (shedJoins b s) t
  figures : FiguresCurrent t
  freed : SequencerFreed b s t
  cleared : PortCleared b True s t
  reported : Reported [0, 7] s t
  frame : KeepsAllBut (.waitList :: .bayQueues :: .stations :: budgetParts) s t

theorem takeShed_shed {b : Bay} {s : State} (phase : s.pbu.emg.phase = .shedding) : Shed b s (takeShed b s) := by
  have emg := shedDone_emg b s
  have phase' : (shedDone b s).pbu.emg.phase = .shedding := by rw [emg]; exact phase
  have evaluated := evaluate_evaluatedFor (.bay b) (shedDone b s)
  have frame : KeepsAllBut [.figures, .sequencer] (shedDone b s) (takeShed b s) :=
    (evaluate_shedding_keeps phase').and (rampEndUnpowered_keeps b _)
  have record (c) : bayRec (takeShed b s) c
      = if c = b then followThrottle { shedRec (bayRec s b) with state := shedState s b } else bayRec s c :=
    (frame.bayRec_eq c).trans (bayRec_shedDone b c s)
  constructor
  case record => rw [record, if_pos rfl]; exact sameBayRecord_followThrottle _
  case others => exact fun c hc => .of_eq (by rw [record, if_neg hc])
  case raised => exact (shedDone_raised b s).kept (Reported.of_keeps (classes := []) frame)
  case emg => exact (frame .emergency (by decide)).trans emg
  case gates => exact Part.same_trans .gates (shedDone_keeps b s .gates (by decide)) (frame .gates (by decide))
  case list => exact Part.same_trans .waitList (shedDone_waitList b s) (frame .waitList (by decide))
  case figures => exact evaluated.1.1.after (rampEndUnpowered_budgetKept b _)
  case freed => exact (rampEndUnpowered_freed evaluated).before (shedDone_keeps b s .sequencer (by decide))
  case cleared => exact (shedDone_cleared b s).after frame
  case reported => exact (shedDone_reported b s).trans (.of_keeps frame)
  case frame =>
    exact ((shedDone_keeps b s).within (l := .waitList :: .bayQueues :: .stations :: budgetParts)).and frame

theorem shedState_eq (s : State) (b : Bay) : shedState s b
    = if isComplete s (slotOfBay b) then (if (bayRec s b).autoRestore then .waitPower else .standby)
      else .identifying := by
  cases h : isComplete s (slotOfBay b) <;> cases k : (bayRec s b).autoRestore <;> simp [shedState, standbyState, h, k]

theorem shedTaken_result {b : Bay} {s : State} (run : s.mode = .running) (phase : s.pbu.emg.phase = .shedding)
    (bay : s.pbu.emg.shedBay = some b) : exec .shedTaken s = .next (shedAnswered b s) := by
  simp [exec, execShedTaken, whenRunning_running run, takeHandedShed, phase, bay]

/-- Settles O14: the answer acts on the state that a taken shed or the evaluation of a declined one leaves. -/
theorem shedTaken : Obligations.ShedTaken := by
  refine ⟨fun b s run phase bay main => ?_, fun b s run phase bay main => ?_⟩
  · have shed := takeShed_shed (b := b) phase
    have result : exec .shedTaken s = .next (answerShed (takeShed b s)) := by
      rw [shedTaken_result run phase bay, shedAnswered, if_pos main]
    generalize takeShed b s = t at *
    have answered := answerShed_answered shed.figures
    have source : lastShedSource t = .bay b := by rw [lastShedSource, shed.emg]; rfl
    rw [source] at answered
    have phase' : t.pbu.emg.phase ≠ .none := by
      rw [shed.emg, shedCounted, phase]; simp
    obtain ⟨list, stamp⟩ := Part.same_trans .waitList shed.list (answered.frame .waitList (by decide))
    obtain ⟨idle, busy, gap⟩ := shed.freed
    obtain ⟨figures, count, ended, named, exhausted⟩ := answered.decided
    have cleared := shed.cleared.after answered.frame
    refine ⟨_, result, ?_, shed.raised.kept answered.reported, ?_, ?_, ⟨figures, ?_, fun fit => ?_, named, exhausted⟩,
      fun stop => ?_, fun runs => ?_, ⟨fun h => ?_, fun h k => ?_, answered.gap.trans gap⟩, cleared.flushed,
      cleared.others, cleared.stations trivial, fun c hc => (shed.others c hc).trans (answered.bays c), ?_, ?_, ?_⟩
    · rw [← shedState_eq]; exact shed.record.trans (answered.bays b)
    · rw [answered.last, shed.emg, shedCounted]
    · simpa only [list, stamp] using shedJoins_waitList b s
    · rw [count, shed.emg, shedCounted]
    · have gates : t.pbu.ae2 = s.pbu.ae2 := shed.gates.2
      have := ended fit
      rwa [EndedEmergency, gates] at this
    · exact (answered.stopped stop).raised (by rw [shed.emg]; rfl) b (by rw [shed.emg]; rfl)
    · exact (answered.runsOn runs).trans (shed.reported.flags 3 (by decide))
    · exact answered.idle ((headEvaluated_iff phase').mp (idle h))
    · rw [answered.busy (by rw [busy h k]; exact k), busy h k]
    · exact (shed.reported.mono.and answered.reported).flags
    · exact (shed.reported.mono.and (classes := [0, 2, 3, 7]) answered.reported).alerts
    · exact shed.frame.and answered.frame
  · have frame := evaluate_shedding_keeps (source := .bay b) phase
    obtain ⟨compared, gap, idle, busy⟩ := evaluate_evaluatedFor (.bay b) s
    have result : exec .shedTaken s = .next (answerShed (evaluate (.bay b) s)) := by
      rw [shedTaken_result run phase bay, shedAnswered, if_neg (by simp [main])]
    generalize evaluate (.bay b) s = t at *
    have answered := answerShed_answered compared.1
    have emg : t.pbu.emg = s.pbu.emg := frame .emergency (by decide)
    have gates : t.pbu.ae2 = s.pbu.ae2 := (frame .gates (by decide)).2
    have source : lastShedSource t = lastShedSource s := by rw [lastShedSource, emg, lastShedSource]
    have flags (c) : flagRec t c = flagRec s c := frame.flagRec_eq c
    have phase' : t.pbu.emg.phase ≠ .none := by rw [emg, phase]; simp
    rw [source] at answered
    obtain ⟨figures, count, ended, named, exhausted⟩ := answered.decided
    refine ⟨_, result, (sameBayRecord.of_eq (frame.bayRec_eq b)).trans (answered.bays b),
      ⟨figures, by rw [count, emg], fun fit => ?_, named, exhausted⟩, by rw [answered.last, emg],
      fun stop runs x last => (answered.stopped stop).raised (by rw [emg, runs]) x (by rw [emg, last]), fun h => ?_,
      fun c _ => (sameBayRecord.of_eq (frame.bayRec_eq c)).trans (answered.bays c), ?_, ?_, answered.gap.trans gap,
      fun h => ?_, fun h => ?_, ?_⟩
    · have := ended fit
      rwa [EndedEmergency, gates] at this
    · rw [← flags]
      by_cases stop : (answerShed t).pbu.emg.phase = .shedding
      · exact answered.runsOn stop
      · exact (answered.stopped stop).quiet (by rw [emg]; exact h.resolve_left stop)
    · exact ((Reported.of_keeps (classes := [2, 3, 7]) frame).trans answered.reported).flags
    · exact ((Reported.of_keeps (classes := [2, 3, 7]) frame).trans answered.reported).alerts
    · exact answered.idle ((headEvaluated_iff phase').mp (idle h))
    · rw [answered.busy (by rw [busy h]; exact h), busy h]
    · exact (frame.within (l := budgetParts)).and answered.frame

end Sys2Proof.Machine
end

section
/-! SUPPORT. What a running part does with no command waiting (O52). -/

namespace Sys2Proof.Machine

/-! ### The expiries that are due -/

theorem mem_dueAt {t : Timer} {c x : Instr} : x ∈ dueAt t c ↔ t = some 0 ∧ x = c := by
  unfold dueAt
  split <;> simp_all

theorem mem_dueScan {s : State} {x : Instr} :
    x ∈ dueScan s ↔ ∃ k, s.ise.scan = some { slot := k, timer := 0 } ∧ x = .scanTimerExpiry k := by
  unfold dueScan
  split
  · next sc h =>
    obtain ⟨k, t⟩ := sc
    simp only [h, Option.some.injEq, Scan.mk.injEq]
    by_cases zero : t = 0 <;> simp [zero]
  · next h => simp [h]

/-- An expiry is due exactly where its timer has come to 0. -/
theorem mem_dueCommands (s : State) (x : Instr) : x ∈ dueCommands s ↔ RunOut s x := by
  simp only [dueCommands, dueBay, dueSupply, dueFan, List.mem_append, List.mem_flatMap, List.mem_finRange, true_and,
    mem_dueAt, mem_dueScan]
  cases x <;> simp [RunOut]

theorem dueCommands_eq_nil {s : State} (h : ∀ c, ¬RunOut s c) : dueCommands s = [] :=
  List.eq_nil_iff_forall_not_mem.mpr fun c hc => h c ((mem_dueCommands s c).mp hc)

/-! ### The step -/

section
variable {s : State} (pending : s.pending = []) (run : s.mode = .running)
include pending run

theorem step_takes {c : Instr} (h : nextOwn s = some c) : step s = .next { s with pending := [c] } := by
  simp [step, pending, idle, isRunning, run, h]

theorem step_ticks (h : nextOwn s = none) : step s = .next (tick s) := by
  simp [step, pending, idle, isRunning, run, h]

end

theorem nextOwn_handOver {s : State} {c : Instr} (h : handOver s = some c) : nextOwn s = some c := by
  simp [nextOwn, h]

theorem nextOwn_due {s : State} (h : handOver s = none) : nextOwn s = (dueCommands s).head? := by
  simp [nextOwn, h]

theorem admissionDue_iff (s : State) : admissionDue s = true ↔ Admitting s := by
  unfold admissionDue Admitting
  cases s.pbu.seq <;> simp

theorem slotRec_tick (s : State) (k : Slot) : slotRec (tick s) k = tickSlot (slotRec s k) := by
  rw [slotRec, tick, Bank.read_update, slotRec]

theorem supplyRec_tick (s : State) (p : Psu) : supplyRec (tick s) p = tickSupply (supplyRec s p) := by
  rw [supplyRec, tick, tickPbu, Bank.read_update, supplyRec]

theorem tick_keeps (s : State) : KeepsAllBut [.bays, .slots, .scan, .supplies, .sequencer, .hold, .emergency, .thermal,
    .controlTimer, .fans, .sweepTimer] s (tick s) := by
  intro p hp
  cases p <;> simp [Part.same, tick, tickPbu] at hp ⊢

/-- Settles O52: the hand-overs come first in their order, then the expiries that are due, and then a millisecond. -/
theorem quietPartRunsItsTimers : Obligations.QuietPartRunsItsTimers := by
  refine ⟨fun s pending run none_ off => ?_, fun x s pending run none_ out => ?_, fun s pending run admitting => ?_,
    fun s pending run admitting phase bay => ?_, fun s pending run admitting shed ready frames => ?_⟩
  · have next : nextOwn s = none := by rw [nextOwn_due none_, dueCommands_eq_nil off]; rfl
    exact ⟨_, step_ticks pending run next, bayRec_tick s, slotRec_tick s, rfl, supplyRec_tick s, rfl, rfl, rfl, rfl, rfl,
      thermalEntry_tick s, rfl, fanRec_tick s, rfl, tick_keeps s⟩
  · cases due : dueCommands s with
    | nil => simpa [due] using (mem_dueCommands s x).mpr out
    | cons c rest =>
      have head : nextOwn s = some c := by rw [nextOwn_due none_, due]; rfl
      exact ⟨c, (mem_dueCommands s c).mp (by simp [due]), step_takes pending run head⟩
  · exact step_takes pending run (nextOwn_handOver (by simp [handOver, (admissionDue_iff s).mpr admitting]))
  · have shed : shedDue s = true := by simp [shedDue, phase, Option.isSome_iff_ne_none.mpr bay]
    exact step_takes pending run (nextOwn_handOver (by simp [handOver, admissionDue_iff, admitting, shed]))
  · have none_ : shedDue s = false := by
      rcases shed with h | h <;> simp [shedDue, h]
    exact step_takes pending run (nextOwn_handOver
      (by simp [handOver, admissionDue_iff, admitting, none_, serviceDue, ready, frames]))

end Sys2Proof.Machine
end

section
/-! SUPPORT. The completion of a power-on reset (O3). -/

namespace Sys2Proof.Machine

/-! ### The blocks before the first evaluation -/

/-- Every block at its reset values, and the insertion debounces begun (R177, R179). -/
def debouncing (pins : Pins) (pending : List Instr) : State := startDebounces (resetBlocks .powerOn pins pending)

section
variable (pins : Pins) (pending : List Instr)

theorem debouncing_eq : debouncing pins pending
    = updFans (fun i => debounceFan (Bank.read pins.fanPres i))
        (updPbu (fun p => { p with
            supplies := Bank.update (fun i => debounceSupply (Bank.read pins.psuPres i)) p.supplies })
          (updBays (fun b => debounceBay (Bank.read pins.bayPres b)) (resetBlocks .powerOn pins pending))) := rfl

theorem bayRec_resetBlocks (b : Bay) : bayRec (resetBlocks .powerOn pins pending) b = freshBay b := by
  rw [bayRec, resetBlocks, Bank.read_tab]; rfl

theorem bayRec_debouncing (b : Bay) : bayRec (debouncing pins pending) b
    = { freshBay b with insertTimer := if Bank.read pins.bayPres b then some 200 else none } := by
  rw [debouncing_eq, (updFans_keeps _ _).bayRec_eq, bayRec_updPbu, bayRec_updBays, bayRec_resetBlocks]
  cases Bank.read pins.bayPres b <;> rfl

theorem supplyRec_debouncing (p : Psu) : supplyRec (debouncing pins pending) p
    = { freshSupply (Bank.read pins.psuOk p) with
        insertTimer := if Bank.read pins.psuPres p then some 200 else none } := by
  have base : (resetBlocks .powerOn pins pending).pbu.supplies
      = Bank.tab fun q => freshSupply (Bank.read pins.psuOk q) := rfl
  rw [debouncing_eq, (updFans_keeps _ _).supplyRec_eq, supplyRec, updPbu_pbu, Bank.read_update, updBays_pbu, base,
    Bank.read_tab]
  cases Bank.read pins.psuPres p <;> rfl

theorem fanRec_debouncing (f : Fan) : fanRec (debouncing pins pending) f
    = { freshFan f with
        insertTimer := if Bank.read pins.fanPres f then some 200 else none
        drive := if Bank.read pins.fanPres f then 1000 else 0 } := by
  have base : (resetBlocks .powerOn pins pending).fdu.fans = Bank.tab freshFan := rfl
  rw [debouncing_eq, fanRec_updFans, fanRec, updPbu_fdu, updBays_fdu, base, Bank.read_tab]
  cases Bank.read pins.fanPres f <;> rfl

theorem sumFin_zero (n : Nat) : sumFin n (fun _ => 0) = 0 := by simp [sumFin]

/-- With nothing present the base load stands alone (R179). -/
theorem debouncing_current : FiguresCurrent (debouncing pins pending) := by
  have standby : standbyOf (debouncing pins pending) = fun _ => 0 := by
    funext b; simp [standbyOf, bayState, bayRec_debouncing, freshBay]
  have grants : grantOf (debouncing pins pending) = fun _ => 0 := by
    funext b; simp [grantOf, bayState, bayRec_debouncing, freshBay, hasMain]
  have fans : fanPowerOf (debouncing pins pending) = fun _ => 0 := by
    funext f; simp [fanPowerOf, fanRec_debouncing, freshFan]
  have supplies : okCapacities (debouncing pins pending) = [] := by
    simp [okCapacities, supplyRec_debouncing, freshSupply]
  rw [FiguresCurrent, figuresOf, supplies, standby, grants, fans, sumFin_zero, sumFin_zero]
  rfl

end

/-! ### The first evaluation -/

theorem recordFigures_current {s : State} (h : FiguresCurrent s) : recordFigures s = s := by
  rw [recordFigures, ← h]; rfl

/-- The emergency of the first evaluation, begun with its class masked (R72, R176, R179). -/
def emergencyAtStart (s : State) : State :=
  setFlag (.emergency .began .start)
    (updEmg (fun e => { e with graceTimer := some 300, phase := .grace, shedCount := 0 })
      (updBays (fun _ r => { r with emergencyCause := true }) (updPbu (fun p => { p with ae2 := p.ae, ae := .closed }) s)))

theorem evaluateHead_nil {s : State} (h : s.pbu.waitList = []) : evaluateHead s = s := by simp [evaluateHead, h]

/-- The base load stands above an available power of 0, so the first evaluation begins an emergency (R179). -/
theorem completePowerOn_eq (straps : BitVec 4) (s : State) :
    completePowerOn straps s = emergencyAtStart (debouncing (withStraps straps s.pins) s.pending) := by
  have current := debouncing_current (withStraps straps s.pins) s.pending
  have eq : completePowerOn straps s = evaluate .start (debouncing (withStraps straps s.pins) s.pending) := rfl
  have exceeds : overBudget (debouncing (withStraps straps s.pins) s.pending) = true := rfl
  have phase : (debouncing (withStraps straps s.pins) s.pending).pbu.emg.phase = .none := rfl
  have hold : (debouncing (withStraps straps s.pins) s.pending).pbu.hold = false := rfl
  have list : (debouncing (withStraps straps s.pins) s.pending).pbu.waitList = [] := rfl
  have grace : (debouncing (withStraps straps s.pins) s.pending).pbu.policy.grace = 300 := rfl
  have mask : (debouncing (withStraps straps s.pins) s.pending).sve.unmasked = Bank.tab fun _ => false := rfl
  rw [eq]
  generalize debouncing (withStraps straps s.pins) s.pending = t at *
  have began : compareBudget .start t = beginEmergency .start t := by simp [compareBudget, phase, exceeds, hold]
  have quiet (c : Cause) (u : State) (h : u.sve.unmasked = t.sve.unmasked) : raise c u = setFlag c u :=
    raise_quiet (.inl (by rw [← Bool.not_eq_true, alertDue_iff, h, mask]; simp))
  have raised : beginEmergency .start t = emergencyAtStart t := by
    rw [beginEmergency, emergencyAtStart, ← grace]
    exact quiet _ _ rfl
  rw [evaluate, recordFigures_current current, began, raised, evaluateHead_nil]
  exact list

theorem bayRec_emergencyAtStart (s : State) (b : Bay) :
    bayRec (emergencyAtStart s) b = followThrottle { bayRec s b with emergencyCause := true } := by
  rw [emergencyAtStart, (setFlag_keeps _ _).bayRec_eq, bayRec_updEmg, bayRec_updBays, bayRec_updPbu]

theorem emergencyAtStart_keeps (s : State) :
    KeepsAllBut [.gates, .bays, .emergency, .flags] s (emergencyAtStart s) :=
  ((((updPbu_gates_keeps (fun p => p.ae) (fun _ => .closed) s).within (l := [.gates, .bays, .emergency, .flags])).and
    (updBays_keeps _ _)).and (updEmg_keeps _ _)).and (setFlag_keeps _ _)

theorem flagRec_emergencyAtStart (s : State) (c : EventClass) : flagRec (emergencyAtStart s) c
    = if c = 2 then { raised := true, cause := some (.emergency .began .start) } else flagRec s c :=
  flagRec_setFlag ..

section
variable (pins : Pins) (pending : List Instr)

theorem emergencyAtStart_tablesFresh (s : State) (hp : s.pending = pending) (hl : s.pins.link = pins.link) :
    TablesFresh s (emergencyAtStart (debouncing pins pending)) := by
  refine ⟨rfl, hp.symm, fun b => ?_, fun b => ?_, fun z => ?_, fun z => ?_, rfl, rfl, fun u => ?_, rfl, fun b => ?_,
    fun u => ?_, rfl, rfl, rfl, rfl, rfl, rfl, fun c => ?_, rfl, rfl⟩
  · exact Bank.read_tab _ b
  · exact Bank.read_tab _ b
  · exact Bank.read_tab _ z
  · exact Bank.read_tab _ z
  · rw [hl]; exact Bank.read_tab _ u
  · exact Bank.read_tab _ b
  · exact Bank.read_tab _ u
  · exact Bank.read_tab _ c

theorem emergencyAtStart_started : StartedInEmergency .start (emergencyAtStart (debouncing pins pending)) := by
  refine ⟨rfl, rfl, rfl, rfl, rfl, fun b => ?_, ?_⟩
  · rw [bayRec_emergencyAtStart]; rfl
  · rw [flagRec_emergencyAtStart, if_pos rfl]

end

/-- The part as the completion leaves it: the blocks that it has written over the reset values. -/
theorem emergencyAtStart_debouncing (pins : Pins) (pending : List Instr) : emergencyAtStart (debouncing pins pending)
    = { resetBlocks .powerOn pins pending with
        bays := (emergencyAtStart (debouncing pins pending)).bays
        pbu := { resetPbu pins with
          supplies := (debouncing pins pending).pbu.supplies, ae := .closed
          emg := { resetEmergency with phase := .grace, graceTimer := some 300 } }
        fdu := { resetFdu with fans := (debouncing pins pending).fdu.fans }
        sve := { resetSve .powerOn pins.chn with
          flags := Bank.put (resetSve .powerOn pins.chn).flags 2
            { raised := true, cause := some (.emergency .began .start) } } } := rfl

/-- With every line quiet the completion leaves the reset state (log 6). -/
theorem emergencyAtStart_quiet (pending : List Instr) :
    emergencyAtStart (debouncing quietPins pending) = { State.reset with pending := pending } := by
  have bays : (emergencyAtStart (debouncing quietPins pending)).bays
      = Bank.tab fun b => { resetBay b with emergencyCause := true } := by
    refine Bank.ext fun b => ?_
    have record := bayRec_emergencyAtStart (debouncing quietPins pending) b
    rw [bayRec_debouncing, quietPins, Bank.read_tab] at record
    rw [Bank.read_tab]
    exact record
  have supplies : (debouncing quietPins pending).pbu.supplies = (resetPbu quietPins).supplies := by
    refine Bank.ext fun p => ?_
    have record := supplyRec_debouncing quietPins pending p
    rw [quietPins, Bank.read_tab] at record
    rw [resetPbu, Bank.read_tab, quietPins, Bank.read_tab]
    exact record
  have fans : (debouncing quietPins pending).fdu.fans = resetFdu.fans := by
    refine Bank.ext fun f => ?_
    have record := fanRec_debouncing quietPins pending f
    rw [quietPins, Bank.read_tab] at record
    rw [resetFdu, Bank.read_tab]
    exact record
  rw [emergencyAtStart_debouncing, bays, supplies, fans]
  rfl

/-- The completion depends on the lines and on what waits alone. -/
theorem completePowerOn_congr {straps : BitVec 4} {s t : State} (pins : t.pins = s.pins) (pending : t.pending = s.pending) :
    completePowerOn straps t = completePowerOn straps s := by rw [completePowerOn, pins, pending, completePowerOn]

/-- Settles O3: the completion is the reset values with the debounces, and the emergency of the first evaluation. -/
theorem powerOnResetCompletes : Obligations.PowerOnResetCompletes := by
  refine ⟨fun straps x s mode free => ?_, fun s mode quiet => ?_, fun straps x s mode held => ⟨?_, ?_⟩⟩
  · have result : exec (.powerOnResetComplete straps) s = .next (completePowerOn straps s) := by
      simp [exec, execPowerOnResetComplete, supplyStable, mode, free]
    rw [completePowerOn_eq] at result
    have kept := emergencyAtStart_keeps (debouncing (withStraps straps s.pins) s.pending)
    have fresh := emergencyAtStart_tablesFresh (withStraps straps s.pins) s.pending s rfl rfl
    have started := emergencyAtStart_started (withStraps straps s.pins) s.pending
    have bays := bayRec_emergencyAtStart (debouncing (withStraps straps s.pins) s.pending)
    have flags := flagRec_emergencyAtStart (debouncing (withStraps straps s.pins) s.pending)
    have figures : (emergencyAtStart (debouncing (withStraps straps s.pins) s.pending)).pbu.figures = resetFigures := rfl
    have sve : (emergencyAtStart (debouncing (withStraps straps s.pins) s.pending)).sve.chassisNumber = straps
        ∧ (emergencyAtStart (debouncing (withStraps straps s.pins) s.pending)).sve.resetCause = .powerOn
        ∧ (emergencyAtStart (debouncing (withStraps straps s.pins) s.pending)).sve.adoptedCount = 0 := ⟨rfl, rfl, rfl⟩
    have clear (c) : flagRec (debouncing (withStraps straps s.pins) s.pending) c = { raised := false, cause := none } :=
      Bank.read_tab _ c
    have slots (k) : slotRec (debouncing (withStraps straps s.pins) s.pending) k = freshSlot := Bank.read_tab _ k
    have engine : (debouncing (withStraps straps s.pins) s.pending).ise.queue = []
      ∧ (debouncing (withStraps straps s.pins) s.pending).ise.scan = none := ⟨rfl, rfl⟩
    have pins : (debouncing (withStraps straps s.pins) s.pending).pins = withStraps straps s.pins := rfl
    have bay := bayRec_debouncing (withStraps straps s.pins) s.pending
    have supply := supplyRec_debouncing (withStraps straps s.pins) s.pending
    have fan := fanRec_debouncing (withStraps straps s.pins) s.pending
    generalize emergencyAtStart (debouncing (withStraps straps s.pins) s.pending) = t at *
    refine ⟨_, result, (kept .pins (by decide)).trans pins, fresh, started, fun b => ?_, fun p => ?_, fun f => ?_,
      fun k => ?_, (kept .scanQueue (by decide)).trans engine.1, (kept .scan (by decide)).trans engine.2, figures, ?_,
      fun c hc => ?_, sve⟩
    · rw [bays, bay]; rfl
    · exact (kept.supplyRec_eq p).trans (supply p)
    · exact (kept.fanRec_eq f).trans (fan f)
    · exact (kept.slotRec_eq k).trans (slots k)
    · rw [figures]; rfl
    · rw [flags, if_neg hc]; exact clear c
  · have result : exec (.powerOnResetComplete 0) s = .next (completePowerOn 0 s) := by
      simp [exec, execPowerOnResetComplete, supplyStable, mode, quiet, quietPins]
    have pins : withStraps 0 quietPins = quietPins := rfl
    rw [result, completePowerOn_eq, quiet, pins, emergencyAtStart_quiet]
  · simp [exec, execPowerOnResetComplete, supplyStable, mode, held]
  · refine ⟨completePowerOn straps { s with pins := { s.pins with resetN := false } }, ?_, ?_⟩
    · simp [exec, execPowerOnResetComplete, supplyStable, mode]
    · have released : exec (.resetNReleased straps) { s with mode := .powerOnReset true }
          = .next (completePowerOn straps (updPins (fun p => { p with resetN := false })
            { s with mode := .powerOnReset true })) := rfl
      rw [released]
      exact congrArg Host.Outcome.next (completePowerOn_congr rfl rfl)

end Sys2Proof.Machine
end

section
/-! SUPPORT. What a slot's completed or lost identity comes to at the bay, at the supply and at the fan (R4, R44, R45,
R47, R50, R86). -/

namespace Sys2Proof.Machine

/-! ### At the bay (R4, R45) -/

/-- What the completion of a bay slot's identity comes to, from the state with the slot's record just written. -/
structure CompletedAtBay (b : Bay) (s t : State) : Prop where
  identifying : bayState s b = .identifying →
    sameBayRecord { bayRec s b with state := .standby } (bayRec t b) ∧ Raised (.bayChange b) t
  adopted : isUp (bayState s b) = true → (bayRec s b).adopted = true →
    sameBayRecord { bayRec s b with adopted := false, grant := classGrant s b } (bayRec t b)
  powered : hasMain (bayState s b) = true → (bayRec s b).adopted = false →
    sameBayRecord { bayRec s b with grant := classGrant s b } (bayRec t b)
  other : bayState s b ≠ .identifying → hasMain (bayState s b) = false → sameBayRecord (bayRec s b) (bayRec t b)
  quiet : bayState s b ≠ .identifying → flagRec t 0 = flagRec s 0
  evaluated : EvaluatedFor (.bay b) s t
  others : OtherBaysKept b s t
  reported : Reported [0, 2, 3, 7] s t
  frame : KeepsAllBut budgetParts s t

section
variable {b : Bay} {s : State}

theorem completeAtBay_identifying (h : bayState s b = .identifying) : completeAtBay b s = enterState b .standby s := by
  simp [completeAtBay, h]

theorem completeAtBay_adopted (up : isUp (bayState s b) = true) (adopted : (bayRec s b).adopted = true) :
    completeAtBay b s = updBay b (fun r => { r with adopted := false, grant := classGrant s b }) s := by
  cases h : bayState s b <;> simp_all [completeAtBay, isUp]

theorem completeAtBay_powered (main : hasMain (bayState s b) = true) (adopted : (bayRec s b).adopted = false) :
    completeAtBay b s = updBay b (fun r => { r with grant := classGrant s b }) s := by
  cases h : bayState s b <;> simp_all [completeAtBay, hasMain]

theorem completeAtBay_other (h : bayState s b ≠ .identifying) (off : hasMain (bayState s b) = false) :
    completeAtBay b s = s := by
  cases k : bayState s b <;> simp_all [completeAtBay, hasMain]

/-- Past IDENTIFYING the completion writes the bay's record at most, and no emergency's cause. -/
theorem completeAtBay_writes (h : bayState s b ≠ .identifying) : completeAtBay b s = s
    ∨ ∃ f : BayRec → BayRec, (f (bayRec s b)).emergencyCause = (bayRec s b).emergencyCause
        ∧ completeAtBay b s = updBay b f s := by
  unfold completeAtBay
  split
  · next k => exact absurd k h
  · exact .inr ⟨_, rfl, rfl⟩
  · exact .inr ⟨_, rfl, rfl⟩
  · exact .inr ⟨_, rfl, rfl⟩
  · exact .inr ⟨_, rfl, rfl⟩
  · exact .inr ⟨_, rfl, rfl⟩
  · exact .inl rfl

theorem updBay_emergencyKept {f : BayRec → BayRec}
    (h : (f (bayRec s b)).emergencyCause = (bayRec s b).emergencyCause) : EmergencyKept s (updBay b f s) := by
  refine .of_reported (classes := []) (updBay_keeps b f s) (fun c => ?_) (.of_keeps (updBay_keeps b f s))
  rw [bayRec_updBay]
  split
  · next e => subst e; exact h
  · rfl

theorem completeAtBay_emergencyKept (b : Bay) (s : State) : EmergencyKept s (completeAtBay b s) := by
  by_cases h : bayState s b = .identifying
  · rw [completeAtBay_identifying h]; exact enterState_emergencyKept b _ s
  · rcases completeAtBay_writes h with e | ⟨f, cause, e⟩ <;> rw [e]
    · exact .refl s
    · exact updBay_emergencyKept cause

theorem completeAtBay_othersKept (b : Bay) (s : State) : OtherBaysKept b s (completeAtBay b s) := by
  by_cases h : bayState s b = .identifying
  · rw [completeAtBay_identifying h]; exact enterState_othersKept b _ s
  · rcases completeAtBay_writes h with e | ⟨f, -, e⟩ <;> rw [e]
    · exact fun _ _ => .refl _
    · exact updBay_othersKept b f s

theorem completeAtBay_flags (h : bayState s b ≠ .identifying) (c : EventClass) :
    flagRec (completeAtBay b s) c = flagRec s c := by
  rcases completeAtBay_writes h with e | ⟨f, -, e⟩ <;> rw [e]
  exact (updBay_keeps b f s).flagRec_eq c

theorem reportComplete_bay (b : Bay) (s : State) :
    reportComplete (slotOfBay b) s = evaluate (.bay b) (completeAtBay b s) := by simp [reportComplete]

/-- The BCB takes the completion, and then the PBU (R4, R44, R45). -/
theorem reportComplete_completed (b : Bay) (s : State) : CompletedAtBay b s (reportComplete (slotOfBay b) s) := by
  have frame := completeAtBay_keeps b s
  have bays := evaluate_bays (.bay b) (completeAtBay b s) b
  have reports := evaluate_reported (.bay b) (completeAtBay b s)
  rw [reportComplete_bay]
  constructor
  case identifying =>
    intro h
    rw [completeAtBay_identifying h] at *
    rw [bayRec_enterState, if_pos rfl] at bays
    exact ⟨(sameBayRecord_followThrottle _).trans bays, (enterState_raised b _ s).kept reports⟩
  case adopted =>
    intro up adopted
    rw [completeAtBay_adopted up adopted] at *
    rw [bayRec_updBay_self] at bays
    exact (sameBayRecord_followThrottle _).trans bays
  case powered =>
    intro main adopted
    rw [completeAtBay_powered main adopted] at *
    rw [bayRec_updBay_self] at bays
    exact (sameBayRecord_followThrottle _).trans bays
  case other =>
    intro h off
    rwa [completeAtBay_other h off] at *
  case quiet => exact fun h => (reports.flags 0 (by decide)).trans (completeAtBay_flags h 0)
  case evaluated =>
    exact (evaluate_evaluatedFor (.bay b) _).before (completeAtBay_emergencyKept b s) (frame .hold (by decide)).1
      (frame .sequencer (by decide))
  case others => exact (completeAtBay_othersKept b s).trans (evaluate_othersKept _ b _)
  case reported => exact (completeAtBay_reported b s).mono.and reports
  case frame => exact (frame.within (l := budgetParts)).and (evaluate_keeps _ _)

end

/-! ### At the supply (R47, R50, R86) -/

/-- The supply's condition recomputed and a changed capacity counted; the hold is still to be tested. -/
def supplyCounted (p : Psu) (s : State) : State :=
  if (supplyRec s p).capacity = (supplyNow s p).capacity then recomputeSupply p s
  else evaluate (.supply p) (recomputeSupply p s)

section
variable {p : Psu} {s : State}

theorem recomputeSupply_keeps (p : Psu) (s : State) : KeepsAllBut [.supplies] s (recomputeSupply p s) :=
  updSupply_keeps p _ s

theorem supplyCounted_keeps (p : Psu) (s : State) : KeepsAllBut (.supplies :: budgetParts) s (supplyCounted p s) := by
  have frame := (recomputeSupply_keeps p s).within (l := .supplies :: budgetParts)
  unfold supplyCounted
  split
  · exact frame
  · exact frame.and (evaluate_keeps _ _)

theorem supplyRec_supplyCounted (q : Psu) : supplyRec (supplyCounted p s) q
    = if q = p then supplyNow s p else supplyRec s q := by
  have record : supplyRec (recomputeSupply p s) q = if q = p then supplyNow s p else supplyRec s q :=
    supplyRec_updSupply p q _ s
  unfold supplyCounted
  split
  · exact record
  · rw [(evaluate_keeps _ _).supplyRec_eq, record]

theorem supplyCounted_bays (p : Psu) (s : State) (b : Bay) :
    sameBayRecord (bayRec s b) (bayRec (supplyCounted p s) b) := by
  have frame := recomputeSupply_keeps p s
  unfold supplyCounted
  split
  · exact .of_eq (frame.bayRec_eq b)
  · exact (sameBayRecord.of_eq (frame.bayRec_eq b)).trans (evaluate_bays _ _ b)

theorem supplyCounted_evaluated (h : (supplyNow s p).capacity ≠ (supplyRec s p).capacity) :
    EvaluatedFor (.supply p) s (supplyCounted p s) := by
  have frame := recomputeSupply_keeps p s
  rw [supplyCounted, if_neg (Ne.symm h)]
  exact (evaluate_evaluatedFor _ _).before (.of_keeps frame) (frame .hold (by decide)).1 (frame .sequencer (by decide))

theorem supplyCounted_reported (p : Psu) (s : State) : Reported [2, 3, 7] s (supplyCounted p s) := by
  have frame := recomputeSupply_keeps p s
  unfold supplyCounted
  split
  · exact .of_keeps frame
  · exact (Reported.of_keeps frame).trans (evaluate_reported _ _)

theorem anyPending_iff (s : State) : anyPending s = false ↔ ∀ q, (supplyRec s q).condition ≠ .pending := by
  simp [anyPending]

/-- The change of condition that ends the hold (R86). -/
def endsHold (p : Psu) (s : State) : Prop :=
  (supplyNow s p).condition ≠ (supplyRec s p).condition ∧ s.pbu.hold = true
    ∧ ∀ q, (supplyRec (supplyCounted p s) q).condition ≠ .pending

theorem supplyCounted_hold (p : Psu) (s : State) : Part.hold.same s (supplyCounted p s) :=
  supplyCounted_keeps p s .hold (by decide)

theorem supplyChanged_eq (p : Psu) (s : State) : supplyChanged p s
    = if (supplyRec s p).condition = (supplyNow s p).condition then supplyCounted p s
      else testHold (supplyCounted p s) := rfl

theorem supplyChanged_holds (h : ¬endsHold p s) : supplyChanged p s = supplyCounted p s := by
  rw [supplyChanged_eq]
  split
  · rfl
  · next changed =>
    have hold : (supplyCounted p s).pbu.hold = s.pbu.hold := (supplyCounted_hold p s).1
    rw [testHold, if_neg]
    intro ends
    rw [hold, Bool.and_eq_true, Bool.not_eq_true', anyPending_iff] at ends
    exact h ⟨Ne.symm changed, ends⟩

theorem supplyChanged_ends (h : endsHold p s) : supplyChanged p s = endHold (supplyCounted p s) := by
  obtain ⟨changed, hold, pending⟩ := h
  have hold' : (supplyCounted p s).pbu.hold = true := (supplyCounted_hold p s).1.trans hold
  rw [supplyChanged_eq, if_neg (Ne.symm changed), testHold, if_pos]
  simp [hold', (anyPending_iff _).mpr pending]

/-- While the hold is in force a count of the supply begins nothing (R85). -/
theorem supplyCounted_emergencyKept (phase : s.pbu.emg.phase = .none) (hold : s.pbu.hold = true) :
    EmergencyKept s (supplyCounted p s) ∧ (s.pbu.seq = .idle → (supplyCounted p s).pbu.seq = .idle) := by
  have frame := recomputeSupply_keeps p s
  by_cases same : (supplyRec s p).capacity = (supplyNow s p).capacity
  · rw [supplyCounted, if_pos same]
    exact ⟨.of_keeps frame, fun idle => (frame .sequencer (by decide)).1.trans idle⟩
  · obtain ⟨⟨-, -, kept, -⟩, -, idle, -⟩ := supplyCounted_evaluated (Ne.symm same)
    have hold' : (supplyCounted p s).pbu.hold = true := (supplyCounted_hold p s).1.trans hold
    refine ⟨kept phase (.inl hold), fun h => ?_⟩
    rcases idle h with ⟨seq, -⟩ | ⟨w, -, ⟨-, -, off, -⟩, -⟩
    · exact seq
    · rw [hold'] at off; cases off

/-- The hold ends with an evaluation of source HOLD (R86). -/
theorem supplyChanged_resolved (h : endsHold p s) : HoldResolved s (supplyChanged p s) := by
  have hold := h.2.1
  rw [supplyChanged_ends h, endHold]
  have counted (phase : s.pbu.emg.phase = .none) := supplyCounted_emergencyKept (p := p) phase hold
  generalize supplyCounted p s = t at *
  have off := updPbu_hold_keeps (fun _ => false) (fun _ => none) t
  have released : (updPbu (fun q => { q with hold := false, holdTimer := none }) t).pbu.hold = false
    ∧ (updPbu (fun q => { q with hold := false, holdTimer := none }) t).pbu.holdTimer = none := ⟨rfl, rfl⟩
  have kept : EmergencyKept t (updPbu (fun q => { q with hold := false, holdTimer := none }) t) := .of_keeps off
  have seq := (off .sequencer (by decide)).1
  generalize updPbu (fun q => { q with hold := false, holdTimer := none }) t = u at *
  have frame := evaluate_keeps .hold u
  obtain ⟨⟨figures, began, stands, -⟩, -, idle, -⟩ := evaluate_evaluatedFor .hold u
  obtain ⟨hold', timer⟩ := frame .hold (by decide)
  refine ⟨hold'.trans released.1, timer.trans released.2, figures, fun phase exceeds => ?_, fun phase fit => ?_⟩
  · have before := (counted phase).1.trans kept
    have emg : u.pbu.emg = s.pbu.emg := before.1
    have gates : u.pbu.ae = s.pbu.ae := before.2.1.1
    have result := began (by rw [emg]; exact phase) released.1 exceeds
    rwa [BeganEmergency, gates] at result
  · have before := (counted phase).1.trans kept
    have emg : u.pbu.emg = s.pbu.emg := before.1
    have whole := before.trans (stands (by rw [emg]; exact phase) (.inr fit))
    exact ⟨whole.1, whole.2.1, fun free => idle (seq.trans ((counted phase).2 free))⟩

theorem supplyRec_supplyChanged (q : Psu) : supplyRec (supplyChanged p s) q
    = if q = p then supplyNow s p else supplyRec s q := by
  by_cases h : endsHold p s
  · rw [supplyChanged_ends h]
    exact ((endHold_keeps _).supplyRec_eq q).trans (supplyRec_supplyCounted q)
  · rw [supplyChanged_holds h, supplyRec_supplyCounted]

theorem endHold_bays (s : State) (b : Bay) : sameBayRecord (bayRec s b) (bayRec (endHold s) b) := by
  have off := updPbu_hold_keeps (fun _ => false) (fun _ => none) s
  unfold endHold
  exact (sameBayRecord.of_eq (off.bayRec_eq b)).trans (evaluate_bays _ _ b)

theorem supplyChanged_bays (p : Psu) (s : State) (b : Bay) :
    sameBayRecord (bayRec s b) (bayRec (supplyChanged p s) b) := by
  by_cases h : endsHold p s
  · rw [supplyChanged_ends h]
    exact (supplyCounted_bays p s b).trans (endHold_bays _ b)
  · rw [supplyChanged_holds h]
    exact supplyCounted_bays p s b

/-- What a supply's changed input comes to (R47, R50, R86). -/
theorem supplyChanged_evaluated (p : Psu) (s : State) :
    ((supplyNow s p).capacity ≠ (supplyRec s p).capacity → FiguresCurrent (supplyChanged p s))
      ∧ (endsHold p s → HoldResolved s (supplyChanged p s))
      ∧ (¬endsHold p s → Part.hold.same s (supplyChanged p s)
        ∧ ((supplyNow s p).capacity ≠ (supplyRec s p).capacity → EvaluatedFor (.supply p) s (supplyChanged p s))) := by
  refine ⟨fun changed => ?_, supplyChanged_resolved, fun h => ?_⟩
  · by_cases h : endsHold p s
    · exact (supplyChanged_resolved h).2.2.1
    · rw [supplyChanged_holds h]; exact (supplyCounted_evaluated changed).1.1
  · rw [supplyChanged_holds h]
    exact ⟨supplyCounted_hold p s, supplyCounted_evaluated⟩

end

end Sys2Proof.Machine
end

section
/-! SUPPORT. A scan that completes (O18). -/

namespace Sys2Proof.Machine

/-! ### The image (R29) -/

/-- The identity values that an image of this slot kind carries (R187). -/
def imageIdentity (kind : SlotKind) (image : Image) : Identity :=
  { word := imageWord image, signature := imageSignature image, data := imageClass kind image }

theorem imageFailure_eq (kind : SlotKind) (image : Image) : imageFailure kind image
    = if sumFin 16 (imageByte image) % 256 ≠ 0 then some .check
      else if imageByte image 14 ≠ 1 then some .format
      else if imageKind image ≠ kindNumber kind then some .kind
      else if classInRange (imageClass kind image) = false then some .range else none := rfl

/-- An image is judged by the first check that it fails (R29). -/
theorem judgeImage_valid {kind : SlotKind} {image : Image} (h : imageFailure kind image = none) :
    judgeImage kind image = .ok (imageIdentity kind image) := by
  rw [imageFailure_eq] at h
  split at h <;> try cases h
  split at h <;> try cases h
  split at h <;> try cases h
  split at h <;> try cases h
  simp_all [judgeImage, imageIdentity]

theorem judgeImage_invalid {kind : SlotKind} {image : Image} {failure : ScanFailure}
    (h : imageFailure kind image = some failure) : judgeImage kind image = .error failure := by
  rw [imageFailure_eq] at h
  unfold judgeImage
  split at h
  · next sum => rw [if_pos sum, Option.some.inj h]
  · next sum =>
    rw [if_neg sum]
    split at h
    · next format => rw [if_pos format, Option.some.inj h]
    · next format =>
      rw [if_neg format]
      split at h
      · next number => rw [if_pos number, Option.some.inj h]
      · next number =>
        rw [if_neg number]
        split at h
        · next range => rw [if_neg (by simp [range]), Option.some.inj h]
        · cases h

theorem imageFailure_eq_none {kind : SlotKind} {image : Image}
    (sum : sumFin 16 (fun i => (Bank.read image i).toNat) % 256 = 0) (format : (Bank.read image 14).toNat = 1)
    (number : imageKind image = kindNumber kind) (range : classInRange (imageClass kind image) = true) :
    imageFailure kind image = none := by simp [imageFailure, sum, format, number, range]

theorem judgeScan_complete {k : Slot} {image : Image} {s : State} (h : imageFailure (slotKind k) image = none) :
    judgeScan k image s = scanComplete k (imageIdentity (slotKind k) image) (endTransaction s) := by
  rw [judgeScan, judgeImage_valid h]

theorem sixteenthByte_result {k : Slot} {image : Image} {s : State} (run : s.mode = .running)
    (flight : scanning s k = true) (h : imageFailure (slotKind k) image = none) :
    exec (.sixteenthByteReceived k image) s
      = .next (scanComplete k (imageIdentity (slotKind k) image) (endTransaction s)) := by
  simp [exec, execSixteenthByteReceived, whenRunning_running run, flight, judgeScan_complete h]

/-! ### What the engine leaves of the budget -/

/-- No slot that waits holds a settled identity, so the engine leaves the budget (R33, R44). -/
theorem engineTakes_budgetKept {s : State} (waits : ∀ k ∈ s.ise.queue, (slotRec s k).status ≠ .complete) :
    BudgetKept s (engineTakes s) := by
  have frame := engineTakes_keeps s
  have slot (j) : isComplete (engineTakes s) j = isComplete s j
      ∧ (slotRec (engineTakes s) j).ident = (slotRec s j).ident := by
    by_cases scan : s.ise.scan = none
    · cases queue : s.ise.queue with
      | nil => rw [engineTakes_empty queue]; exact ⟨rfl, rfl⟩
      | cons k rest =>
        have off := waits k (by simp [queue])
        rw [isComplete, slotRec_engineTakes_head scan queue, isComplete]
        split
        · next e => subst e; simp [off]
        · exact ⟨rfl, rfl⟩
    · rw [engineTakes_busy scan]; exact ⟨rfl, rfl⟩
  refine ⟨.of_keeps frame, ?_, frame .figures (by decide), (frame .hold (by decide)).1⟩
  refine ⟨?_, ?_, ?_, ?_, ?_, ?_, fun j => (slot j).1, fun j => (slot j).2, frame.supplyRec_eq, ?_,
    frame .powerPolicy (by decide)⟩
  all_goals intro x; simp only [bayState, priorityOf, frame.bayRec_eq, frame.fanRec_eq]

theorem HoldResolved.before {s s' t : State} (h : HoldResolved s' t) (k : EmergencyKept s s')
    (seq : s'.pbu.seq = s.pbu.seq) : HoldResolved s t := by
  have emg : s'.pbu.emg = s.pbu.emg := k.1
  have gates : s'.pbu.ae = s.pbu.ae ∧ s'.pbu.ae2 = s.pbu.ae2 := k.2.1
  unfold HoldResolved BeganEmergency at *
  rw [emg, seq, gates.1] at h
  obtain ⟨hold, timer, figures, began, stands⟩ := h
  refine ⟨hold, timer, figures, began, fun phase fit => ?_⟩
  obtain ⟨emergency, gate, idle⟩ := stands phase fit
  exact ⟨Part.same_trans .emergency k.1 emergency, Part.same_trans .gates k.2.1 gate, idle⟩

theorem HoldResolved.after {s t t' : State} (k : BudgetKept t t') (h : HoldResolved s t)
    (timer : t'.pbu.holdTimer = t.pbu.holdTimer) (list : t'.pbu.waitList = t.pbu.waitList)
    (seq : t'.pbu.seq = t.pbu.seq) : HoldResolved s t' := by
  obtain ⟨hold, timer', figures, began, stands⟩ := h
  unfold HoldResolved
  rw [k.overBudget_eq, k.hold, timer]
  refine ⟨hold, timer', figures.after k, fun phase exceeds => (began phase exceeds).after k, fun phase fit => ?_⟩
  obtain ⟨emergency, gate, idle⟩ := stands phase fit
  exact ⟨Part.same_trans .emergency emergency k.emergency.1, Part.same_trans .gates gate k.emergency.2.1,
    fun free => (idle free).after k list seq⟩

/-! ### The completion (R34, R44) -/

/-- The record of a slot whose scan has completed (R34). -/
def completedSlot (ident : Identity) (r : SlotRec) : SlotRec :=
  { r with
    ident := some ident, status := .complete, source := some .line, failures := 0, lastFailure := none
    stage := .idle }

/-- The transaction is over and the record written; the report is still to come. -/
def identityRead (k : Slot) (ident : Identity) (s : State) : State :=
  updSlot k (completedSlot ident) (endTransaction s)

theorem scanComplete_eq (k : Slot) (ident : Identity) (s : State) : scanComplete k ident (endTransaction s)
    = engineTakes (raise (.identity k) (reportComplete k (identityRead k ident s))) := rfl

theorem identityRead_keeps (k : Slot) (ident : Identity) (s : State) :
    KeepsAllBut [.slots, .scan] s (identityRead k ident s) :=
  ((endTransaction_keeps s).within (l := [.slots, .scan])).and (updSlot_keeps _ _ _)

theorem slotRec_identityRead (k j : Slot) (ident : Identity) (s : State) : slotRec (identityRead k ident s) j
    = if j = k then completedSlot ident (slotRec s k) else slotRec s j := by
  rw [identityRead, slotRec_updSlot]; rfl

/-- A slot in flight is not in the queue. -/
theorem ScanLaw.not_mem_queue {k : Slot} {s : State} (law : ScanLaw s) (flight : scanning s k = true) :
    k ∉ s.ise.queue := by
  obtain ⟨-, queued, inFlight, -⟩ := law
  rw [queued, (inFlight k).mp flight]
  simp

section
variable {k : Slot} {s v : State} (ident : Identity)
  (frame : KeepsAllBut (.supplies :: .hold :: budgetParts) (identityRead k ident s) v)
include frame

/-- What the report leaves of the scanning (R33, R34). -/
theorem reported_scanning : v.ise.scan = none ∧ v.ise.queue = s.ise.queue
    ∧ ∀ j, slotRec v j = if j = k then completedSlot ident (slotRec s k) else slotRec s j :=
  ⟨frame .scan (by decide), frame .scanQueue (by decide),
    fun j => (frame.slotRec_eq j).trans (slotRec_identityRead k j ident s)⟩

variable (law : ScanLaw s) (flight : scanning s k = true)
include law flight

/-- After the report IDENTITY is raised and the engine moves on, the budget standing (R33, R34). -/
theorem moveOn_budgetKept : BudgetKept v (engineTakes (raise (.identity k) v)) := by
  obtain ⟨-, queue, slots⟩ := reported_scanning ident frame
  have raised := raise_keeps (.identity k) v
  refine (raise_budgetKept (by simp [causeClass]) v).trans (engineTakes_budgetKept fun j hj => ?_)
  have mem : j ∈ s.ise.queue := by
    have same : (raise (.identity k) v).ise.queue = v.ise.queue := raised .scanQueue (by decide)
    rwa [same, queue] at hj
  have other : j ≠ k := fun e => law.not_mem_queue flight (e ▸ mem)
  obtain ⟨-, queued, -, -, -, waits, -⟩ := law
  rw [raised.slotRec_eq j, slots, if_neg other, waits j (.inl ((queued j).mp mem))]
  simp

/-- What the engine's move leaves of the scanning (R33, R34). -/
theorem moveOn_movedOn : EngineMovedOn k s (engineTakes (raise (.identity k) v))
    ∧ slotRec (engineTakes (raise (.identity k) v)) k = completedSlot ident (slotRec s k) := by
  obtain ⟨scan, queue, slots⟩ := reported_scanning ident frame
  have raised := raise_keeps (.identity k) v
  have records (j) : slotRec (raise (.identity k) v) j
      = if j = k then completedSlot ident (slotRec s k) else slotRec s j := (raised.slotRec_eq j).trans (slots j)
  obtain ⟨moved, own⟩ := engineTakes_movesOn (k := k) (s := s) (t := raise (.identity k) v)
    ((raised .scan (by decide)).trans scan) ((raised .scanQueue (by decide)).trans queue)
    (fun j hj => by rw [records, if_neg hj]) (law.not_mem_queue flight)
  exact ⟨moved, by rw [own, records, if_pos rfl]⟩

end

theorem moveOn_keeps (k : Slot) (v : State) :
    KeepsAllBut ([.slots, .scanQueue, .scan] ++ reportParts) v (engineTakes (raise (.identity k) v)) :=
  ((raise_keeps (.identity k) v).within (l := [.slots, .scanQueue, .scan] ++ reportParts)).and (engineTakes_keeps _)

theorem moveOn_reported (k : Slot) (v : State) : Reported [1, 7] v (engineTakes (raise (.identity k) v)) :=
  Reported.trans (raise_reported (.identity k) v) (.of_keeps (engineTakes_keeps _))

theorem moveOn_raised (k : Slot) (v : State) : Raised (.identity k) (engineTakes (raise (.identity k) v)) :=
  (raise_raised _ _ (by simp [causeClass])).kept (Reported.of_keeps (classes := []) (engineTakes_keeps _))

/-- An evaluation of the report is one of the whole event. -/
theorem EvaluatedFor.ofReport {source : EmgSource} {k : Slot} {s v : State} {ident : Identity} (law : ScanLaw s)
    (flight : scanning s k = true) (frame : KeepsAllBut (.supplies :: .hold :: budgetParts) (identityRead k ident s) v)
    (h : EvaluatedFor source (identityRead k ident s) v) :
    EvaluatedFor source s (engineTakes (raise (.identity k) v)) := by
  have read := identityRead_keeps k ident s
  have moved := moveOn_keeps k v
  exact (h.before (.of_keeps read) (read .hold (by decide)).1 (read .sequencer (by decide))).after
    (moveOn_budgetKept ident frame law flight) (moved .waitList (by decide)).1 (moved .sequencer (by decide))

/-! ### By the slot's owner -/

theorem slotKind_slotOfBay (b : Bay) : slotKind (slotOfBay b) = .bay := by simp [slotKind]

theorem slotKind_slotOfPsu (p : Psu) : slotKind (slotOfPsu p) = .psu := by simp [slotKind]

theorem slotKind_slotOfFan (f : Fan) : slotKind (slotOfFan f) = .fan := by simp [slotKind]

theorem slotOwner_cases (k : Slot) :
    (∃ b, k = slotOfBay b) ∨ (∃ p, k = slotOfPsu p) ∨ ∃ f, k = slotOfFan f := by
  obtain ⟨n, hn⟩ := k
  by_cases bay : n < 16
  · exact .inl ⟨⟨n, bay⟩, rfl⟩
  · by_cases psu : n < 20
    · exact .inr (.inl ⟨⟨n - 16, by omega⟩, Fin.ext (show n = 16 + (n - 16) by omega)⟩)
    · exact .inr (.inr ⟨⟨n - 20, by omega⟩, Fin.ext (show n = 20 + (n - 20) by omega)⟩)

theorem slotOfBay_injective {b c : Bay} (h : slotOfBay b = slotOfBay c) : b = c := by
  have := slotOwner_slotOfBay b
  rw [h, slotOwner_slotOfBay] at this
  exact (SlotOwner.bay.inj this).symm

theorem slotOfPsu_injective {p q : Psu} (h : slotOfPsu p = slotOfPsu q) : p = q := by
  have := slotOwner_slotOfPsu p
  rw [h, slotOwner_slotOfPsu] at this
  exact (SlotOwner.psu.inj this).symm

theorem reportComplete_psu (p : Psu) (s : State) : reportComplete (slotOfPsu p) s = supplyChanged p s := by
  simp [reportComplete]

theorem reportComplete_fan (f : Fan) (s : State) : reportComplete (slotOfFan f) s = evaluate (.fan f) s := by
  simp [reportComplete]

/-- The report writes no supply and no bay but the slot's own (R44). -/
theorem reportComplete_others (k : Slot) (s : State) :
    (∀ p, slotOfPsu p ≠ k → supplyRec (reportComplete k s) p = supplyRec s p)
      ∧ ∀ b, slotOfBay b ≠ k → sameBayRecord (bayRec s b) (bayRec (reportComplete k s) b) := by
  rcases slotOwner_cases k with ⟨b, rfl⟩ | ⟨p, rfl⟩ | ⟨f, rfl⟩
  · have completed := reportComplete_completed b s
    exact ⟨fun p _ => completed.frame.supplyRec_eq p, fun c hc => completed.others c fun e => hc (e ▸ rfl)⟩
  · rw [reportComplete_psu]
    refine ⟨fun q hq => ?_, fun b _ => supplyChanged_bays p s b⟩
    rw [supplyRec_supplyChanged, if_neg fun e => hq (by rw [e])]
  · rw [reportComplete_fan]
    exact ⟨fun p _ => (evaluate_keeps _ s).supplyRec_eq p, fun b _ => evaluate_bays _ s b⟩

/-- The grant that the identity just read gives (R7). -/
theorem classGrant_identityRead (b : Bay) (image : Image) (s : State) :
    classGrant (identityRead (slotOfBay b) (imageIdentity .bay image) s) b
      = capGrant (image16 image 8 9) (bayRec s b).cap := by
  rw [classGrant, classMax, slotRec_identityRead, if_pos rfl, (identityRead_keeps _ _ s).bayRec_eq b]
  rfl

/-- The supply's condition and capacity by the identity just read (R47). -/
theorem supplyNow_identityRead (p : Psu) (image : Image) (s : State) (present : (supplyRec s p).present = true) :
    supplyNow (identityRead (slotOfPsu p) (imageIdentity .psu image) s) p = { supplyRec s p with
      condition := if (supplyRec s p).psuOk then .ok else .notOk
      capacity := if (supplyRec s p).psuOk then image16 image 8 9 else 0 } := by
  have capacity : classCapacity (identityRead (slotOfPsu p) (imageIdentity .psu image) s) p = image16 image 8 9 := by
    rw [classCapacity, slotRec_identityRead, if_pos rfl]
    rfl
  rw [supplyNow, (identityRead_keeps _ _ s).supplyRec_eq p, slotRec_identityRead, if_pos rfl, capacity]
  cases ok : (supplyRec s p).psuOk <;> simp [conditionOf, completedSlot, present, ok]

/-- The report of a supply's identity, from the state `u` in which the record has just been written: the supply as it
was in `s`, and whether the hold ends (R47, R50, R86). -/
structure SupplyRead (p : Psu) (image : Image) (s u v : State) : Prop where
  record : supplyRec v p = { supplyRec s p with
    condition := if (supplyRec s p).psuOk then .ok else .notOk
    capacity := if (supplyRec s p).psuOk then image16 image 8 9 else 0 }
  figures : (supplyRec v p).capacity ≠ (supplyRec s p).capacity → FiguresCurrent v
  ends : (supplyRec v p).condition ≠ (supplyRec s p).condition ∧ s.pbu.hold = true
      ∧ (∀ q, (supplyRec v q).condition ≠ .pending) →
    HoldResolved u v
  holds : ¬((supplyRec v p).condition ≠ (supplyRec s p).condition ∧ s.pbu.hold = true
      ∧ ∀ q, (supplyRec v q).condition ≠ .pending) →
    Part.hold.same s v ∧ ((supplyRec v p).capacity ≠ (supplyRec s p).capacity → EvaluatedFor (.supply p) u v)

theorem reportComplete_supplyRead {p : Psu} {s : State} (image : Image) (present : (supplyRec s p).present = true) :
    SupplyRead p image s (identityRead (slotOfPsu p) (imageIdentity .psu image) s)
      (reportComplete (slotOfPsu p) (identityRead (slotOfPsu p) (imageIdentity .psu image) s)) := by
  have read := identityRead_keeps (slotOfPsu p) (imageIdentity .psu image) s
  have own := supplyNow_identityRead p image s present
  rw [reportComplete_psu]
  have kept : (supplyRec (identityRead (slotOfPsu p) (imageIdentity .psu image) s) p) = supplyRec s p :=
    read.supplyRec_eq p
  have hold := read .hold (by decide)
  generalize identityRead (slotOfPsu p) (imageIdentity .psu image) s = u at *
  have supplies (q) : supplyRec (supplyChanged p u) q = supplyRec (supplyCounted p u) q := by
    rw [supplyRec_supplyChanged, supplyRec_supplyCounted]
  have now : supplyRec (supplyChanged p u) p = supplyNow u p := by rw [supplyRec_supplyChanged, if_pos rfl]
  have hold' : u.pbu.hold = s.pbu.hold := hold.1
  obtain ⟨figures, resolved, held⟩ := supplyChanged_evaluated p u
  simp only [endsHold, ← supplies, ← now, kept, hold'] at figures resolved held
  constructor
  case record => exact now.trans own
  case figures => exact figures
  case ends => exact resolved
  case holds => exact fun h => ⟨Part.same_trans .hold hold (held h).1, (held h).2⟩

/-- Settles O18: the report of the slot's owner stands between the record and the engine's move. -/
theorem scanCompletes : Obligations.ScanCompletes := by
  refine ⟨fun k image s run law flight sum format number range => ?_, fun b image s run law flight valid => ?_,
    fun p image s run law flight valid present => ?_, fun f image s run law flight valid => ?_⟩
  · have result := sixteenthByte_result run flight (imageFailure_eq_none sum format number range)
    have read := identityRead_keeps k (imageIdentity (slotKind k) image) s
    have report := reportComplete_keeps k (identityRead k (imageIdentity (slotKind k) image) s)
    obtain ⟨supplies, bays⟩ := reportComplete_others k (identityRead k (imageIdentity (slotKind k) image) s)
    have reports := (Reported.of_keeps read).trans
      (reportComplete_reported k (identityRead k (imageIdentity (slotKind k) image) s))
    rw [scanComplete_eq] at result
    generalize reportComplete k (identityRead k (imageIdentity (slotKind k) image) s) = v at *
    obtain ⟨moved, record⟩ := moveOn_movedOn _ report law flight
    have move := moveOn_keeps k v
    have reported : Reported [0, 1, 2, 3, 7] s (engineTakes (raise (.identity k) v)) :=
      reports.mono.and (moveOn_reported k v)
    refine ⟨_, result, record, moveOn_raised k v, moved, fun p hp => ?_, fun b hb => ?_, reported.flags,
      reported.alerts, ?_⟩
    · rw [move.supplyRec_eq p, supplies p hp, read.supplyRec_eq p]
    · exact ((sameBayRecord.of_eq (read.bayRec_eq b)).trans (bays b hb)).trans (.of_eq (move.bayRec_eq b))
    · exact ((read.within (l := scanParts)).and report).and move
  · have result := sixteenthByte_result run flight valid
    rw [scanComplete_eq, slotKind_slotOfBay] at result
    have read := identityRead_keeps (slotOfBay b) (imageIdentity .bay image) s
    have completed := reportComplete_completed b (identityRead (slotOfBay b) (imageIdentity .bay image) s)
    have report := reportComplete_keeps (slotOfBay b) (identityRead (slotOfBay b) (imageIdentity .bay image) s)
    have grant := classGrant_identityRead b image s
    generalize reportComplete (slotOfBay b) (identityRead (slotOfBay b) (imageIdentity .bay image) s) = v at *
    have move := moveOn_keeps (slotOfBay b) v
    have reports := moveOn_reported (slotOfBay b) v
    obtain ⟨identifying, adopted, powered, other, quiet, evaluated, others, -, frame⟩ := completed
    rw [read.bayRec_eq b, read.bayState_eq b] at *
    rw [grant] at adopted powered
    refine ⟨_, result, evaluated.ofReport law flight report, ?_, ?_, ?_, ?_, ?_,
      ((read.within (l := [.slots, .scanQueue, .scan] ++ budgetParts)).and frame).and move⟩
    · exact fun h => ⟨(identifying h).1.trans (.of_eq (move.bayRec_eq b)), (identifying h).2.kept reports⟩
    · exact fun up h => (adopted up h).trans (.of_eq (move.bayRec_eq b))
    · exact fun main h => (powered main h).trans (.of_eq (move.bayRec_eq b))
    · exact fun h off => (other h off).trans (.of_eq (move.bayRec_eq b))
    · exact fun h => ((reports.flags 0 (by decide)).trans (quiet h)).trans (read.flagRec_eq 0)
  · have result := sixteenthByte_result run flight valid
    rw [scanComplete_eq, slotKind_slotOfPsu] at result
    have read := identityRead_keeps (slotOfPsu p) (imageIdentity .psu image) s
    have report := reportComplete_keeps (slotOfPsu p) (identityRead (slotOfPsu p) (imageIdentity .psu image) s)
    obtain ⟨record, figures, ends, holds⟩ := reportComplete_supplyRead image present
    generalize reportComplete (slotOfPsu p) (identityRead (slotOfPsu p) (imageIdentity .psu image) s) = v at *
    have move := moveOn_keeps (slotOfPsu p) v
    have kept := moveOn_budgetKept _ report law flight
    have same (q) := move.supplyRec_eq q
    refine ⟨_, result, (same p).trans record, fun h => ?_, ?_⟩
    · rw [same p] at h
      exact (figures h).after kept
    · simp only [same]
      split
      · next h =>
        exact ((ends h).before (.of_keeps read) (read .sequencer (by decide)).1).after kept
          (move .hold (by decide)).2 (move .waitList (by decide)).1 (move .sequencer (by decide)).1
      · next h =>
        obtain ⟨hold, evaluated⟩ := holds h
        exact ⟨Part.same_trans .hold hold (move .hold (by decide)), fun h => (evaluated h).ofReport law flight report⟩
  · have result := sixteenthByte_result run flight valid
    rw [scanComplete_eq, slotKind_slotOfFan, reportComplete_fan] at result
    have read := identityRead_keeps (slotOfFan f) (imageIdentity .fan image) s
    have evaluated := evaluate_evaluatedFor (.fan f) (identityRead (slotOfFan f) (imageIdentity .fan image) s)
    have frame := evaluate_keeps (.fan f) (identityRead (slotOfFan f) (imageIdentity .fan image) s)
    refine ⟨_, result, evaluated.ofReport law flight (frame.within), ?_⟩
    exact ((read.within (l := [.slots, .scanQueue, .scan] ++ budgetParts)).and frame).and (moveOn_keeps _ _)

end Sys2Proof.Machine
end

section
/-! SUPPORT. The frames that a bay port receives (O24). -/

namespace Sys2Proof.Machine

/-! ### A raising among other operations -/

/-- What an alert depends on and touches, the uplinks apart, of which it asks as they stand in the end (R169, R173). -/
def alertParts : List Part := [.flags, .mask, .alertTarget, .partIdentity, .uplinkQueues, .pool]

theorem alertOf_congr {s s' : State} (h : s'.sve.chassisNumber = s.sve.chassisNumber) (a : Addr) (c : Cause) :
    alertOf s' a c = alertOf s a c := by rw [alertOf, serviceFrame, h, alertOf, serviceFrame]

/-- What went before a raising may touch anything that no alert depends on. -/
theorem Alerted.before {l : List Part} {c : Cause} {s s' t : State} (h : Alerted c s' t) (k : KeepsAllBut l s s')
    (hl : ∀ p ∈ alertParts, p ∉ l := by decide) : Alerted c s t := by
  have flags (x) := k.flagRec_eq x (hl _ (by decide))
  have mask : s'.sve.unmasked = s.sve.unmasked := k .mask (hl _ (by decide))
  have target : s'.sve.alertTarget = s.sve.alertTarget := k .alertTarget (hl _ (by decide))
  have free : s'.fbm.free = s.fbm.free := k .pool (hl _ (by decide))
  have queues (u) := k.uplinkQueue_eq u (hl _ (by decide))
  have alerts (a) := alertOf_congr (k .partIdentity (hl _ (by decide))).1 a c
  simpa only [Alerted, Raised, FlagsKeptBut, flags, mask, target, free, queues, alerts] using h

/-- What follows a raising may touch anything that it does not. -/
theorem Alerted.after {l : List Part} {c : Cause} {s t u : State} (h : Alerted c s t) (k : KeepsAllBut l t u)
    (hl : ∀ p ∈ .uplinks :: alertParts, p ∉ l := by decide) : Alerted c s u := by
  have flags (x) := k.flagRec_eq x (hl _ (by decide))
  have free : u.fbm.free = t.fbm.free := k .pool (hl _ (by decide))
  have queues (u) := k.uplinkQueue_eq u (hl _ (by decide))
  have up (v) := k.usable_eq v (hl _ (by decide))
  simpa only [Alerted, Raised, FlagsKeptBut, flags, free, queues, up] using h

theorem FlagsKeptBut.trans {classes : List EventClass} {s t u : State} (h : FlagsKeptBut classes s t)
    (k : FlagsKeptBut classes t u) : FlagsKeptBut classes s u := fun c hc => (k c hc).trans (h c hc)

theorem FlagsKeptBut.of_keeps {l : List Part} {classes : List EventClass} {s t : State} (h : KeepsAllBut l s t)
    (hl : Part.flags ∉ l := by decide) : FlagsKeptBut classes s t := fun c _ => h.flagRec_eq c hl

theorem FlagsKeptBut.mono {classes classes' : List EventClass} {s t : State} (h : FlagsKeptBut classes s t)
    (hc : classes ⊆ classes' := by decide) : FlagsKeptBut classes' s t := fun c n => h c fun m => n (hc m)

theorem raise_flagsKept (c : Cause) (s : State) : FlagsKeptBut [causeClass c, 7] s (raise c s) :=
  (raise_reported c s).flags

/-! ### The service input queue (R157) -/

theorem svcFits_iff (s : State) (f : RxFrame) : svcFits s f = true ↔ ServiceRoom f s := by
  simp only [svcFits, Bool.and_eq_true, decide_eq_true_eq, and_assoc]
  rfl

/-- A service frame is admitted where there is room, and otherwise counted as dropped with QUEUE_DROP. -/
theorem offerService_offered (p : Port) (f : RxFrame) (s : State) : ServiceOffered p f s (offerService p f s) := by
  refine ⟨fun room => ?_, fun full => ?_⟩
  · rw [offerService, if_pos ((svcFits_iff s f).mpr room)]
    exact ⟨rfl, rfl, svcAdmit_keeps p f s⟩
  · rw [offerService, if_neg (mt (svcFits_iff s f).mp full)]
    have counted := svcCountDropped_keeps s
    have raised := raise_keeps (.queueDrop .svc) (svcCountDropped s)
    exact ⟨(raised .svcQueue (by decide)).trans rfl, (raise_alerted _ _).before counted,
      (counted.within (l := .svcQueue :: reportParts)).and raised⟩

/-! ### Learning (R133, R134) -/

/-- Learning does to the station table what R133 and R134 say. -/
theorem learn_learned (b : Bay) (a : Addr) (tag c : Nat) (s : State) : Learned b a tag c s (learn b a tag c s) := by
  refine ⟨fun group => by rw [learn, if_pos group], fun station => ?_⟩
  have off : ¬isGroup a = true := by simp [station]
  refine ⟨fun p found => ⟨fun fixed => ?_, fun dynamic => ?_⟩, fun none_ i empty => ?_, fun none_ full => ?_⟩
  · rw [learn, if_neg off, found]
    cases kind : p.entry.kind with
    | dynamic _ => simp [isDynamic, kind] at fixed
    | fixed => simp [kind]
  · rw [learn, if_neg off, found]
    cases kind : p.entry.kind with
    | dynamic _ => simp only [kind]; rfl
    | fixed => simp [isDynamic, kind] at dynamic
  · rw [learn, if_neg off, none_]
    simp only [empty]
    rfl
  · rw [learn, if_neg off, none_]
    simp only [full]
    exact ⟨(raise_keeps _ _).stb_eq, raise_raised _ _ (by simp [causeClass])⟩

theorem Learned.after {l : List Part} {b : Bay} {a : Addr} {tag c : Nat} {s t u : State} (h : Learned b a tag c s t)
    (k : KeepsAllBut l t u) (flags : FlagsKeptBut [7] t u)
    (hl : ∀ p ∈ [Part.stations, .learnMiss, .agingSteps, .sweepTimer], p ∉ l := by decide) :
    Learned b a tag c s u := by
  have flag : flagRec u (causeClass (.stationFull b)) = flagRec t (causeClass (.stationFull b)) :=
    flags 8 (by decide)
  simpa only [Learned, Raised, k.stb_eq hl, flag] using h

theorem learn_flagsKept (b : Bay) (a : Addr) (tag c : Nat) (s : State) :
    FlagsKeptBut [8, 7] s (learn b a tag c s) := by
  unfold learn
  split
  · exact fun _ _ => rfl
  · split
    · split
      · exact fun _ _ => rfl
      · exact fun _ _ => rfl
    · split
      · exact fun _ _ => rfl
      · exact FlagsKeptBut.trans (fun _ _ => rfl) (raise_flagsKept (.stationFull b) _)

/-! ### The destination (R135 to R137) -/

theorem offer_flagsKept (r : Port) (c : Copy) (s : State) : FlagsKeptBut [7] s (offer r c s) := by
  have quiet : FlagsKeptBut [7] s (offerQuiet r c s) :=
    .of_keeps (offerQuiet_keeps r c s) (by cases r <;> simp [queuePart])
  unfold offer
  split
  · exact quiet.trans ((raise_flagsKept (.queueDrop (.egress r)) _).mono (by simp [causeClass]))
  · exact quiet

/-- What the copies of an upstream frame may touch. -/
def copyParts : List Part := .bays :: .bayQueues :: reportParts

theorem offer_within (r : Port) (c : Copy) (s : State) : KeepsAllBut copyParts s (offer r c s) := by
  refine (offer_keeps r c s).within ?_
  cases r <;> simp only [queuePart] <;> decide

/-- What the copies of a bay's frame leave: QUEUE_DROP is raised at most, and no other bay's record is written. -/
structure CopiesSent (b : Bay) (s t : State) : Prop where
  bays : ∀ x, x ≠ b → bayRec t x = bayRec s x
  flags : FlagsKeptBut [7] s t
  frame : KeepsAllBut copyParts s t

theorem CopiesSent.refl (b : Bay) (s : State) : CopiesSent b s s :=
  ⟨fun _ _ => rfl, fun _ _ => rfl, KeepsAllBut.refl _ s⟩

theorem CopiesSent.trans {b : Bay} {s t u : State} (h : CopiesSent b s t) (k : CopiesSent b t u) : CopiesSent b s u :=
  ⟨fun x hx => (k.bays x hx).trans (h.bays x hx), h.flags.trans k.flags, h.frame.trans k.frame⟩

theorem offer_copiesSent (b : Bay) (r : Port) (c : Copy) (s : State) : CopiesSent b s (offer r c s) :=
  ⟨fun x _ => (offer_keeps r c s).bayRec_eq x (by cases r <;> simp [queuePart, reportParts]), offer_flagsKept r c s,
    offer_within r c s⟩

theorem sendUplink_copiesSent (b : Bay) (f : RxFrame) (c : Nat) (s : State) : CopiesSent b s (sendUplink b f c s) := by
  unfold sendUplink
  split
  · exact offer_copiesSent b _ _ s
  · have frame := updBay_keeps b (fun r => { r with noUplink := satAdd r.noUplink 1 Config.top16 }) s
    exact ⟨fun x hx => bayRec_updBay_ne _ s hx, .of_keeps frame, frame.within⟩

theorem flood_copiesSent (b : Bay) (skip : Option Bay) (f : RxFrame) (c : Nat) (s : State) :
    CopiesSent b s (flood skip f c s) := by
  unfold flood
  induction List.finRange 16 generalizing s with
  | nil => exact .refl b s
  | cons x rest ih =>
    refine CopiesSent.trans ?_ (ih (floodBay skip f c s x))
    unfold floodBay
    split
    · split
      · exact offer_copiesSent b _ _ s
      · exact .refl b s
    · exact .refl b s

theorem upstreamDestination_copiesSent (b : Bay) (f : RxFrame) (c : Nat) (s : State) :
    CopiesSent b s (upstreamDestination b f c s) := by
  unfold upstreamDestination
  split
  · exact (sendUplink_copiesSent b f c s).trans (flood_copiesSent b _ f c _)
  · split
    · split
      · exact .refl b s
      · split
        · exact offer_copiesSent b _ _ s
        · exact sendUplink_copiesSent b f c s
    · exact sendUplink_copiesSent b f c s

/-! ### The frame at its port (R21, R132) -/

section
variable {b : Bay} {f : RxFrame} {s : State}

theorem bayPortFrame_result (run : s.mode = .running) (sound : frameSound f = true) :
    exec (.bayPortFrame b f) s = .next (bayFrame b f s) := by
  simp [exec, execBayPortFrame, whenRunning_running run, receiveFrame, sound]

theorem not_service_of_dst (h : frameDst f ≠ serviceAddress s.sve.chassisNumber) :
    isServiceFrame s.sve.chassisNumber f = false := by simp [isServiceFrame, h]

theorem bayFrame_upstream (service : isServiceFrame s.sve.chassisNumber f = false) (on : bayState s b = .poweredOn) :
    bayFrame b f s = upstream b f s := by simp [bayFrame, service, on]

theorem upstream_overflow (h : frameDst f ≠ serviceAddress s.sve.chassisNumber)
    (tag : forwardTag (window s b) (frameTag (.bay b) f) = none) : upstream b f s = dropOverflow b s := by
  simp [upstream, strayService, h, tag]

theorem upstream_sent {c : Nat} (h : frameDst f ≠ serviceAddress s.sve.chassisNumber)
    (tag : forwardTag (window s b) (frameTag (.bay b) f) = some c) : upstream b f s
      = upstreamDestination b f c (learn b (frameSrc f) (frameTag (.bay b) f) c s) := by
  simp [upstream, strayService, h, tag]

end

/-- Settles O24, by the kind of the frame and then the state of its bay. -/
theorem bayPortFrames : Obligations.BayPortFrames := by
  refine ⟨fun b f s lost => ?_, fun b f s run sound service accepts => ?_, fun b f s run sound service closed => ?_,
    fun b f s run sound service off => ?_, fun b f s run sound service on stray => ?_,
    fun b f s run sound dst on tag => ?_, fun b f s run sound dst on c tag => ?_⟩
  · refine congrArg Host.Outcome.next ?_
    by_cases run : s.mode = .running
    · simp [whenRunning_running run, receiveFrame, lost.resolve_left fun h => h run]
    · rw [whenRunning_reset run]
  · refine ⟨_, bayPortFrame_result run sound, ?_⟩
    rw [bayFrame, if_pos service, if_pos accepts]
    exact offerService_offered _ f s
  · refine ⟨_, bayPortFrame_result run sound, ?_⟩
    have refused : bayFrame b f s = countRefused (.bay b) s := by
      rcases closed with h | h <;> simp [bayFrame, service, h, accepting]
    rw [refused]
    exact ⟨bayRec_updBay_self .., fun c hc => bayRec_updBay_ne _ s hc,
      updBay_keeps b (fun r => { r with refused := satAdd r.refused 1 Config.top16 }) s⟩
  · refine ⟨_, bayPortFrame_result run sound, ?_⟩
    have refused : bayFrame b f s = countDropped 1 (.bay b) s := by simp [bayFrame, service, off, refuseFrame]
    rw [refused]
    refine ⟨?_, fun c hc => ?_, countDropped_keeps 1 (.bay b) s⟩
    · rw [queueOf_countDropped, if_pos rfl, satAdd_top32]
    · rw [queueOf_countDropped, if_neg fun e => hc (Port.bay.inj e)]
  · rw [bayPortFrame_result run sound, bayFrame_upstream service on]
    simp [upstream, strayService, stray]
  · refine ⟨_, bayPortFrame_result run sound, ?_⟩
    rw [bayFrame_upstream (not_service_of_dst dst) on, upstream_overflow dst tag]
    have counted := updBay_keeps b (fun r => { r with overflows := satAdd r.overflows 1 Config.top16 }) s
    have raised := raise_keeps (.translateDrop b false)
      (updBay b (fun r => { r with overflows := satAdd r.overflows 1 Config.top16 }) s)
    have reported : Reported [9, 7] s (dropOverflow b s) :=
      (Reported.of_keeps counted).trans (raise_reported (.translateDrop b false) _)
    refine ⟨?_, fun c hc => ?_, raise_raised _ _ (by simp [causeClass]), reported.flags, reported.alerts,
      (counted.within (l := .bays :: reportParts)).and raised⟩
    · exact (raise_bayRec _ _ b).trans (bayRec_updBay_self ..)
    · exact (raise_bayRec _ _ c).trans (bayRec_updBay_ne _ s hc)
  · refine ⟨_, bayPortFrame_result run sound, ?_⟩
    rw [bayFrame_upstream (not_service_of_dst dst) on, upstream_sent dst tag]
    have learned := learn_learned b (frameSrc f) (frameTag (.bay b) f) c s
    have flags := learn_flagsKept b (frameSrc f) (frameTag (.bay b) f) c s
    have frame := learn_keeps b (frameSrc f) (frameTag (.bay b) f) c s
    generalize learn b (frameSrc f) (frameTag (.bay b) f) c s = v at *
    obtain ⟨bays, sent, copies⟩ := upstreamDestination_copiesSent b f c v
    refine ⟨learned.after copies sent, fun x => ?_, flags.trans sent.mono, ?_⟩
    · by_cases hx : x = b
      · exact .inr hx
      · exact .inl ((bays x hx).trans (frame.bayRec_eq x))
    · exact (frame.within (l := [.bays, .bayQueues, .stations, .learnMiss] ++ reportParts)).and copies

end Sys2Proof.Machine
end

section
/-! SUPPORT. A service request from its command to its answer (R164 to R168). -/

namespace Sys2Proof.Machine

/-- A request command is the arrival and the taking of its request (log 4). -/
theorem exec_request {c : Instr} {e : Envelope} {r : Request} (h : c.request? = some (e, r)) (s : State) :
    exec c s = .next (serveCommand e r s) := by
  cases c <;> simp only [Instr.request?, Option.some.injEq, Prod.mk.injEq, reduceCtorEq] at h <;>
    obtain ⟨rfl, rfl⟩ := h <;> rfl

theorem request_wellFormed {c : Instr} {e : Envelope} {r : Request} (h : c.request? = some (e, r))
    (wf : c.wellFormed = true) : e.wellFormed = true ∧ r.wellFormed = true := by
  simpa [Instr.wellFormed, h] using wf

/-! ### The admitted and taken frame (R157) -/

theorem oneTaken_keeps (s : State) : KeepsAllBut [.svcQueue] s (oneTaken s) := by
  intro p hp
  cases p <;> first | (simp at hp; done) | simp [Part.same, oneTaken]

/-- The effect of a request alone: the state that it leaves, with the service input queue as it was before the
request's frame came. -/
def untaken (s t : State) : State := { t with fbm := { t.fbm with svc := s.fbm.svc } }

theorem untaken_oneTaken (s : State) : untaken s (oneTaken s) = s := rfl

theorem oneTaken_untaken {s t : State} (h : Part.svcQueue.same (oneTaken s) t) : oneTaken (untaken s t) = t := by
  have svc : t.fbm.svc = (oneTaken s).fbm.svc := h
  change { t with fbm := { t.fbm with svc := (oneTaken s).fbm.svc } } = t
  rw [← svc]

/-- What a request keeps beside the service input queue, its effect keeps. -/
theorem KeepsAllBut.untaken {l : List Part} {s t : State} (h : KeepsAllBut l (oneTaken s) t) :
    KeepsAllBut l s (untaken s t) := by
  intro p hp
  have same := h p hp
  cases p
  case svcQueue => exact rfl
  all_goals exact same

/-! ### The answer (R167) -/

/-- A response as the part encodes it is the response of R167. -/
theorem responseCopy_eq (e : Envelope) (code : Nat) (status : Status) (body : List Byte) (s : State) :
    responseCopy e code { state := s, status := status, body := body, copy := .response }
      = responseTo e code (statusCode status) body s := by
  simp only [responseCopy, responseTo, serviceBytes_eq]
  rfl

theorem respond_answered (e : Envelope) (code : Nat) (status : Status) (s : State) :
    respond e code (answered status s) = offer e.arrival (responseTo e code (statusCode status) [] s) s := by
  rw [← responseCopy_eq]
  rfl

section
variable {c : Instr} {e : Envelope} {r : Request} {s : State} (command : c.request? = some (e, r))
  (wf : r.wellFormed = true) (free : ServiceFree s)
include command wf free

/-- Where the SVE is free and the port open, the request is taken in the event of its arrival. -/
theorem exec_free (port : PortOpen e.arrival s) : exec c s = .next (serve e r (oneTaken s)) := by
  rw [exec_request command, serveCommand_free wf free port]

end

theorem portRefuses_oneTaken (s : State) (p : Port) : portRefuses (oneTaken s) p = portRefuses s p := rfl

theorem portRefuses_of_open {p : Port} {s : State} (h : PortOpen p s) : portRefuses s p = false := by
  cases p with
  | bay b =>
    replace h : accepting (bayState s b) = true := h
    simp [portRefuses, h]
  | uplink u =>
    obtain ⟨-, enabled, right⟩ : (uplinkRec s u).link = true ∧ (uplinkRec s u).enabled = true
      ∧ (uplinkRec s u).right = true := h
    simp [portRefuses, enabled, right]

section
variable {c : Instr} {e : Envelope} {r : Request} {s t : State} {status : Status}

/-- A request whose port is open and whose reply this is answers with the reply's status. -/
theorem answers_of_reply (command : c.request? = some (e, r)) (wf : r.wellFormed = true) (free : ServiceFree s)
    (port : PortOpen e.arrival s) (answer : reply e r (oneTaken s) = answered status t)
    (svc : Part.svcQueue.same (oneTaken s) t) :
    Answers c s (untaken s t) e (requestCode r) (statusCode status) [] := by
  rw [Answers, oneTaken_untaken svc, exec_free command wf free port, serve, portRefuses_oneTaken,
    portRefuses_of_open port, if_neg (by simp), answer, respond_answered]

/-- A request that has its rights and names what exists is carried out. -/
theorem reply_carriedOut (rights : hasRights e.arrival (requestCode r) = true) (names : namesExist r = true)
    (s : State) : reply e r s = carryOut e r s := by simp [reply, rights, names]

variable (command : c.request? = some (e, r)) (wf : r.wellFormed = true) (names : namesExist r = true)
include command wf names

/-- A request of a manager that is carried out (R151, R166). -/
theorem FromManager.answers {u : Uplink} (manager : FromManager e u s) (code : bayRequestCode (requestCode r) = false)
    (carried : carryOut e r (oneTaken s) = answered status t) (svc : Part.svcQueue.same (oneTaken s) t) :
    Answers c s (untaken s t) e (requestCode r) (statusCode status) [] := by
  obtain ⟨free, arrival, port⟩ := manager
  refine answers_of_reply command wf free (arrival ▸ port) ?_ svc
  rw [reply_carriedOut _ names, carried]
  rw [arrival, hasRights, code]
  rfl

/-- A bay request that is carried out (R21, R166). -/
theorem FromBay.answers {b : Bay} (sender : FromBay e b s) (code : bayRequestCode (requestCode r) = true)
    (carried : carryOut e r (oneTaken s) = answered status t) (svc : Part.svcQueue.same (oneTaken s) t) :
    Answers c s (untaken s t) e (requestCode r) (statusCode status) [] := by
  obtain ⟨free, arrival, port⟩ := sender
  refine answers_of_reply command wf free (arrival ▸ port) ?_ svc
  rw [reply_carriedOut _ names, carried]
  rw [arrival, hasRights, code]

/-- A manager's request that is refused as it is carried out, with nothing changed. -/
theorem FromManager.refused {u : Uplink} (manager : FromManager e u s)
    (code : bayRequestCode (requestCode r) = false)
    (carried : carryOut e r (oneTaken s) = answered status (oneTaken s)) :
    Answers c s s e (requestCode r) (statusCode status) [] :=
  manager.answers (t := oneTaken s) command wf names code carried rfl

theorem FromBay.refused {b : Bay} (sender : FromBay e b s) (code : bayRequestCode (requestCode r) = true)
    (carried : carryOut e r (oneTaken s) = answered status (oneTaken s)) :
    Answers c s s e (requestCode r) (statusCode status) [] :=
  sender.answers (t := oneTaken s) command wf names code carried rfl

end

/-! ### Names (R184) -/

theorem byteOf_toNat {n : Nat} (h : n < 256) : (byteOf n).toNat = n := by
  simp [byteOf, Nat.mod_eq_of_lt h]

@[simp] theorem asBay_byteOf (b : Bay) : asBay (byteOf b.val) = some b := by
  simp [asBay, byteOf_toNat (n := b.val) (by omega)]

@[simp] theorem asSlot_byteOf (k : Slot) : asSlot (byteOf k.val) = some k := by
  simp [asSlot, byteOf_toNat (n := k.val) (by omega)]

@[simp] theorem asZone_byteOf (z : Zone) : asZone (byteOf z.val) = some z := by
  simp [asZone, byteOf_toNat (n := z.val) (by omega)]

@[simp] theorem asUplink_byteOf (u : Uplink) : asUplink (byteOf u.val) = some u := by
  simp [asUplink, byteOf_toNat (n := u.val) (by omega), show u.val < 2 from u.isLt]

theorem asBay_eq_none {n : Byte} (h : 16 ≤ n.toNat) : asBay n = none := by simp [asBay, h]

theorem asUplink_eq_none {n : Byte} (h : 2 ≤ n.toNat) : asUplink n = none := by
  simp [asUplink, show ¬n.toNat < 2 by omega]

theorem asZone_eq_none {n : Byte} (h : 3 ≤ n.toNat) : asZone n = none := by simp [asZone, h]

/-- A bay request acts on the bay that it came from (R166). -/
theorem forArrivalBay_bay {e : Envelope} {b : Bay} (h : e.arrival = .bay b) (s : State) (f : Bay → Reply) :
    forArrivalBay e s f = f b := by rw [forArrivalBay, h]

end Sys2Proof.Machine
end

section
/-! SUPPORT. Requests for power and for its end (O34, O35). -/

namespace Sys2Proof.Machine

/-! ### The wait list (R58, R59) -/

theorem mem_insertWaiting (prio : Bay → Nat) (e w : Waiting) (l : List Waiting) :
    w ∈ insertWaiting prio e l ↔ w ∈ l ∨ w = e := by
  induction l with
  | nil => simp [insertWaiting]
  | cons x rest ih =>
    rw [insertWaiting]
    split
    · simp only [List.mem_cons, ih, or_assoc]
    · simp only [List.mem_cons]; tauto

/-- A bay with the newest stamp stands behind every bay of higher or equal priority and before every other. -/
theorem insertWaiting_newest {prio : Bay → Nat} {e : Waiting} {l : List Waiting}
    (sorted : l.Pairwise fun x y => prio x.bay ≤ prio y.bay) (newest : ∀ w ∈ l, w.stamp < e.stamp) :
    insertWaiting prio e l = l.filter (fun w => decide (prio w.bay ≤ prio e.bay))
      ++ e :: l.filter (fun w => decide (prio e.bay < prio w.bay)) := by
  induction l with
  | nil => rfl
  | cons x rest ih =>
    obtain ⟨first, sorted⟩ := List.pairwise_cons.mp sorted
    have older := newest x List.mem_cons_self
    by_cases h : prio x.bay ≤ prio e.bay
    · have stands : standsBefore prio x e = true := by
        simp only [standsBefore, Bool.or_eq_true, Bool.and_eq_true, decide_eq_true_eq]
        omega
      rw [insertWaiting, if_pos stands, ih sorted fun w hw => newest w (List.mem_cons_of_mem _ hw)]
      simp [h, Nat.not_lt.mpr h]
    · have stands : ¬standsBefore prio x e = true := by
        simp only [standsBefore, Bool.or_eq_true, Bool.and_eq_true, decide_eq_true_eq]
        omega
      have lower : ∀ w ∈ rest, prio e.bay < prio w.bay := fun w hw => by have := first w hw; omega
      have none_ : rest.filter (fun w => decide (prio w.bay ≤ prio e.bay)) = [] := by
        simpa using fun w hw => lower w hw
      have all : rest.filter (fun w => decide (prio e.bay < prio w.bay)) = rest := by
        simpa using lower
      rw [insertWaiting, if_neg stands]
      simp [h, Nat.not_le.mp h, none_, all]

/-! ### A request for power (R6) -/

/-- A bay that asks for power enters the list and its state, and the head is evaluated (R6, R59, R61). -/
theorem requestPower_queued (b : Bay) (s : State) : PowerQueued b s (requestPower b s) := by
  have joined := joinWaitList_keeps b s
  have entered := enterState_keeps b .waitPower (joinWaitList b s)
  have records := fun c => bayRec_enterState b c .waitPower (joinWaitList b s)
  have raised := enterState_raised b .waitPower (joinWaitList b s)
  have reports := (Reported.of_keeps (classes := [0, 7]) joined).trans
    (enterState_reported b .waitPower (joinWaitList b s))
  have pbu : (enterState b .waitPower (joinWaitList b s)).pbu = { s.pbu with
      waitList := insertWaiting (priorityOf s) { bay := b, stamp := s.pbu.nextStamp } s.pbu.waitList
      nextStamp := s.pbu.nextStamp + 1 } := by rw [entered.pbu_eq]; rfl
  rw [requestPower]
  generalize enterState b .waitPower (joinWaitList b s) = t at *
  have head := evaluateHead_keeps t
  obtain ⟨list, stamp⟩ := head .waitList (by decide)
  rw [pbu] at list stamp
  refine ⟨?_, raised.kept (Reported.of_keeps (classes := []) head), fun c hc => ?_, stamp, fun law => ?_, fun w => ?_,
    fun idle => evaluateHead_evaluates t (by rw [pbu]; exact idle), fun busy => ?_,
    (reports.trans (.of_keeps head)).flags, (reports.trans (.of_keeps head)).alerts, ?_⟩
  · rw [head.bayRec_eq, records, if_pos rfl, joined.bayRec_eq]
  · rw [head.bayRec_eq, records, if_neg hc, joined.bayRec_eq]
  · obtain ⟨-, -, sorted, -, older⟩ := law
    rw [list]
    refine insertWaiting_newest (sorted.imp fun {x y} h => ?_) older
    rcases h with h | ⟨h, -⟩ <;> omega
  · rw [list, mem_insertWaiting]
  · rw [evaluateHead_busy t (by rw [pbu]; exact busy)]
    exact ⟨by rw [pbu], by rw [pbu]⟩
  · exact ((joined.within (l := [.bays, .waitList, .sequencer] ++ reportParts)).and entered).and head

theorem PowerQueued.svcQueue {b : Bay} {s t : State} (h : PowerQueued b s t) : Part.svcQueue.same s t := by
  obtain ⟨-, -, -, -, -, -, -, -, -, -, frame⟩ := h
  exact frame .svcQueue (by decide)

theorem PowerQueued.untaken {b : Bay} {s t : State} (h : PowerQueued b (oneTaken s) t) :
    PowerQueued b s (untaken s t) := by
  obtain ⟨record, raised, others, stamp, place, members, idle, busy, flags, alerts, frame⟩ := h
  exact ⟨record, raised, others, stamp, place, members, idle, busy, flags, alerts, frame.untaken⟩

section
variable {b : Bay} {s : State}

theorem askPower_queued (standby : bayState s b = .standby) (complete : isComplete s (slotOfBay b) = true) :
    askPower b s = answered .queued (requestPower b s) := by simp [askPower, standby, complete]

theorem askPower_noIdentity (standby : bayState s b = .standby) (complete : isComplete s (slotOfBay b) = false) :
    askPower b s = answered .noIdentity s := by simp [askPower, standby, complete]

theorem askPower_badState (h : bayState s b ≠ .standby) : askPower b s = answered .badState s := if_neg h

end

/-- Settles O34: both requests ask for the bay's power. -/
theorem powerRequestsQueued : Obligations.PowerRequestsQueued := by
  refine ⟨fun e u b s manager => ?_, fun e b s sender => ?_⟩
  · have names : namesExist (.powerOn (byteOf b.val)) = true := by simp [namesExist]
    have carried : carryOut e (.powerOn (byteOf b.val)) (oneTaken s) = askPower b (oneTaken s) := by
      simp [carryOut, replyPowerOn, named]
    have answers {t : State} {status : Status} (h : askPower b (oneTaken s) = answered status t) :=
      manager.answers (c := .powerOn e (byteOf b.val)) rfl rfl names rfl (carried.trans h)
    refine ⟨fun standby complete => ?_, fun standby complete => ?_, fun off => ?_⟩
    · have queued := requestPower_queued b (oneTaken s)
      have asked := askPower_queued (s := oneTaken s) standby complete
      have answer := answers asked queued.svcQueue
      exact ⟨_, answer, queued.untaken⟩
    · have answer := answers (askPower_noIdentity (s := oneTaken s) standby complete) rfl
      exact answer
    · have answer := answers (askPower_badState (s := oneTaken s) off) rfl
      exact answer
  · have carried : carryOut e .powerRequest (oneTaken s) = askPower b (oneTaken s) :=
      forArrivalBay_bay sender.2.1 _ _
    have answers {t : State} {status : Status} (h : askPower b (oneTaken s) = answered status t) :=
      sender.answers (c := .powerRequest e) rfl rfl rfl rfl (carried.trans h)
    refine ⟨fun standby complete => ?_, fun standby complete => ?_, fun off => ?_⟩
    · have queued := requestPower_queued b (oneTaken s)
      have asked := askPower_queued (s := oneTaken s) standby complete
      have answer := answers asked queued.svcQueue
      exact ⟨_, answer, queued.untaken⟩
    · have answer := answers (askPower_noIdentity (s := oneTaken s) standby complete) rfl
      exact answer
    · have answer := answers (askPower_badState (s := oneTaken s) off) rfl
      exact answer

end Sys2Proof.Machine
end

section
/-! SUPPORT. Requests that take power off (O35). -/

namespace Sys2Proof.Machine

/-! ### A bay that loses power at once (R12, R13) -/

section
variable {b : Bay} {s : State}

theorem forceOff_on (h : bayState s b = .poweredOn) : forceOff b s = dropTo b (standbyState s b) (leaveOn b s) := by
  simp [forceOff, h]

theorem forceOff_stopping (h : bayState s b = .stopping) : forceOff b s = dropTo b (standbyState s b) s := by
  simp [forceOff, h]

theorem forceOff_ramping (h : bayState s b = .ramping) :
    forceOff b s = rampEndUnpowered b (dropTo b (standbyState s b) s) := by simp [forceOff, h]

theorem forceOff_waiting (h : bayState s b = .waitPower) : forceOff b s = cancelWait b s := by simp [forceOff, h]

theorem powerOffForced_ok (h : hasMain (bayState s b) = true ∨ bayState s b = .waitPower) :
    powerOffForced b s = answered .ok (forceOff b s) := by
  cases k : bayState s b <;> simp_all [powerOffForced, hasMain]

theorem powerOffForced_refused (off : hasMain (bayState s b) = false) (h : bayState s b ≠ .waitPower) :
    powerOffForced b s = answered .badState s := by
  cases k : bayState s b <;> simp_all [powerOffForced, hasMain]

/-- FORCED and POWER_RELEASE take main power at once, by the state that they find (R12, R13). -/
theorem forceOff_poweredDown (main : hasMain (bayState s b) = true) : PoweredDown b s (forceOff b s) := by
  cases state : bayState s b
  case poweredOn =>
    have left := leaveOn_keeps b s
    have cleared := leaveOn_cleared b s
    rw [forceOff_on state]
    have drop := (dropTo_arrived b (standbyState s b) (leaveOn b s)).before left
    have frame := dropTo_keeps b (standbyState s b) (leaveOn b s)
    have port := cleared.after frame
    exact ⟨drop.record, drop.raised, drop.evaluated.1, fun n => by simp [state] at n, fun _ => drop.evaluated,
      fun _ => ⟨port.flushed, port.stations trivial⟩, fun n => absurd state n, port.others, drop.others,
      drop.reported.flags, drop.reported.alerts,
      (left.within (l := .bayQueues :: .stations :: budgetParts)).and frame⟩
  case stopping =>
    rw [forceOff_stopping state]
    have drop := dropTo_arrived b (standbyState s b) s
    have frame := dropTo_keeps b (standbyState s b) s
    exact ⟨drop.record, drop.raised, drop.evaluated.1, fun n => by simp [state] at n, fun _ => drop.evaluated,
      fun n => by simp [state] at n, fun _ => ⟨frame.bayQueue_eq b, frame.stb_eq⟩, fun c _ => frame.bayQueue_eq c,
      drop.others, drop.reported.flags, drop.reported.alerts, frame.within⟩
  case ramping =>
    rw [forceOff_ramping state]
    obtain ⟨record, raised, freed, compared, others, reported⟩ := (dropTo_arrived b (standbyState s b) s).freed
    have frame := (dropTo_keeps b (standbyState s b) s).and (rampEndUnpowered_keeps b _)
    exact ⟨record, raised, compared, fun _ => freed, fun n => absurd state n, fun n => by simp [state] at n,
      fun _ => ⟨frame.bayQueue_eq b, frame.stb_eq⟩, fun c _ => frame.bayQueue_eq c, others, reported.flags,
      reported.alerts, frame.within⟩
  all_goals simp [state, hasMain] at main

theorem endStop_eq_forceOff (h : bayState s b = .stopping) : endStop b s = forceOff b s := by
  rw [forceOff_stopping h, endStop]

/-- A waiting bay leaves the list and its state, and the head is evaluated (R13, R60, R61). -/
theorem cancelWait_cancelled (b : Bay) (s : State) : WaitCancelled b s (cancelWait b s) := by
  have left := leaveWaitList_keeps b s
  have entered := enterState_updBay_keeps b (standbyState s b) (fun r => { r with adopted := false })
    (leaveWaitList b s)
  have records := fun c => bayRec_enterState_updBay b c (standbyState s b) (fun r => { r with adopted := false })
    (leaveWaitList b s)
  have raised := enterState_raised b (standbyState s b) (updBay b (fun r => { r with adopted := false })
    (leaveWaitList b s))
  have reports : Reported [0, 7] s (enterState b (standbyState s b) (updBay b (fun r => { r with adopted := false })
      (leaveWaitList b s))) :=
    ((Reported.of_keeps left).trans (.of_keeps (updBay_keeps b _ _))).trans (enterState_reported b _ _)
  have pbu : (enterState b (standbyState s b) (updBay b (fun r => { r with adopted := false })
      (leaveWaitList b s))).pbu = { s.pbu with waitList := s.pbu.waitList.filter fun w => w.bay ≠ b } := by
    rw [entered.pbu_eq]; rfl
  rw [cancelWait]
  generalize enterState b (standbyState s b) (updBay b (fun r => { r with adopted := false })
    (leaveWaitList b s)) = t at *
  have head := evaluateHead_keeps t
  obtain ⟨list, stamp⟩ := head .waitList (by decide)
  rw [pbu] at list stamp
  refine ⟨?_, raised.kept (Reported.of_keeps (classes := []) head), fun c hc => ?_, list, stamp,
    fun idle => evaluateHead_evaluates t (by rw [pbu]; exact idle), fun busy => ?_,
    (reports.trans (.of_keeps head)).flags, (reports.trans (.of_keeps head)).alerts, ?_⟩
  · rw [head.bayRec_eq, records, if_pos rfl, left.bayRec_eq]; rfl
  · rw [head.bayRec_eq, records, if_neg hc, left.bayRec_eq]
  · rw [evaluateHead_busy t (by rw [pbu]; exact busy)]
    exact ⟨by rw [pbu], by rw [pbu]⟩
  · exact ((left.within (l := [.bays, .waitList, .sequencer] ++ reportParts)).and entered).and head

end

theorem PoweredDown.svcQueue {b : Bay} {s t : State} (h : PoweredDown b s t) : Part.svcQueue.same s t := by
  obtain ⟨-, -, -, -, -, -, -, -, -, -, -, frame⟩ := h
  exact frame .svcQueue (by decide)

theorem PoweredDown.untaken {b : Bay} {s t : State} (h : PoweredDown b (oneTaken s) t) :
    PoweredDown b s (untaken s t) := by
  obtain ⟨record, raised, compared, freed, evaluated, on, off, queues, others, flags, alerts, frame⟩ := h
  exact ⟨record, raised, compared, freed, evaluated, on, off, queues, others, flags, alerts, frame.untaken⟩

theorem WaitCancelled.svcQueue {b : Bay} {s t : State} (h : WaitCancelled b s t) : Part.svcQueue.same s t := by
  obtain ⟨-, -, -, -, -, -, -, -, -, frame⟩ := h
  exact frame .svcQueue (by decide)

theorem WaitCancelled.untaken {b : Bay} {s t : State} (h : WaitCancelled b (oneTaken s) t) :
    WaitCancelled b s (untaken s t) := by
  obtain ⟨record, raised, others, list, stamp, idle, busy, flags, alerts, frame⟩ := h
  exact ⟨record, raised, others, list, stamp, idle, busy, flags, alerts, frame.untaken⟩

/-! ### A graceful stop (R11) -/

/-- What the beginning of a stop comes to, power and grant being kept (R11). -/
structure StopBegun (b : Bay) (s t : State) : Prop where
  record : bayRec t b = followThrottle { bayRec s b with
    state := .stopping, sdr := true, stopTimer := some (s.pbu.policy.stopTimeout * 1000) }
  raised : Raised (.bayChange b) t
  flushed : Flushed (.bay b) s t
  queues : OtherBayQueuesKept b s t
  purged : Purged b s t
  others : ∀ c, c ≠ b → bayRec t c = bayRec s c
  flags : FlagsKeptBut [0, 7] s t
  alerts : AlertsOnly s t
  frame : KeepsAllBut ([.bays, .bayQueues, .stations] ++ reportParts) s t

theorem beginStop_begun (b : Bay) (s : State) : StopBegun b s (beginStop b s) := by
  have left := leaveOn_keeps b s
  have entered := enterState_updBay_keeps b .stopping
    (fun r => { r with sdr := true, stopTimer := some (s.pbu.policy.stopTimeout * 1000) }) (leaveOn b s)
  have port := (leaveOn_cleared b s).after entered
  have reports : Reported [0, 7] s (beginStop b s) :=
    ((Reported.of_keeps left).trans (.of_keeps (updBay_keeps b _ _))).trans (enterState_reported b _ _)
  constructor
  case record => rw [beginStop, bayRec_enterState_updBay, if_pos rfl, left.bayRec_eq]
  case raised => exact enterState_raised b .stopping _
  case flushed => exact port.flushed
  case queues => exact port.others
  case purged => exact port.stations trivial
  case others => exact fun c hc => by rw [beginStop, bayRec_enterState_updBay, if_neg hc, left.bayRec_eq]
  case flags => exact reports.flags
  case alerts => exact reports.alerts
  case frame => exact (left.within (l := [.bays, .bayQueues, .stations] ++ reportParts)).and entered

/-! ### The requests -/

section
variable {b : Bay} {s : State}

theorem powerOffGraceful_on (h : bayState s b = .poweredOn) :
    powerOffGraceful b s = answered .ok (beginStop b s) := by simp [powerOffGraceful, h]

theorem powerOffGraceful_stopping (h : bayState s b = .stopping) : powerOffGraceful b s = answered .ok s := by
  simp [powerOffGraceful, h]

theorem powerOffGraceful_forced (h : bayState s b ≠ .poweredOn) (k : bayState s b ≠ .stopping) :
    powerOffGraceful b s = powerOffForced b s := by
  cases e : bayState s b <;> simp_all [powerOffGraceful, powerOffForced]

/-- POWER_RELEASE at its bay (R12, R13). -/
def powerReleased (b : Bay) (s : State) : Reply :=
  if isUp (bayState s b) then answered .ok (forceOff b s) else answered .badState s

theorem replyPowerRelease_eq {e : Envelope} (arrival : e.arrival = .bay b) :
    replyPowerRelease e s = powerReleased b s := by
  rw [replyPowerRelease, forArrivalBay_bay arrival, powerReleased]
  cases state : bayState s b <;> simp [isUp]
  rw [endStop_eq_forceOff state]

end

/-- Settles O35, by the form of the request and then the state of its bay. -/
theorem powerTakenOff : Obligations.PowerTakenOff := by
  refine ⟨fun e u b s manager => ?_, fun e u b s manager => ?_, fun e b s sender => ?_⟩
  · have names : namesExist (.powerOff (byteOf b.val) 1) = true := by simp [namesExist]
    have carried : carryOut e (.powerOff (byteOf b.val) 1) (oneTaken s) = powerOffForced b (oneTaken s) := by
      simp [carryOut, replyPowerOff, named]
    have answers {t : State} {status : Status} (h : powerOffForced b (oneTaken s) = answered status t) :=
      manager.answers (c := .powerOffForced e (byteOf b.val)) rfl rfl names rfl (carried.trans h)
    refine ⟨fun main => ?_, fun waits => ?_, fun off waits => ?_⟩
    · have down := forceOff_poweredDown (b := b) (s := oneTaken s) main
      have answer := answers (powerOffForced_ok (s := oneTaken s) (.inl main)) down.svcQueue
      exact ⟨_, answer, down.untaken⟩
    · have cancelled := cancelWait_cancelled b (oneTaken s)
      rw [← forceOff_waiting (s := oneTaken s) waits] at cancelled
      have answer := answers (powerOffForced_ok (s := oneTaken s) (.inr waits)) cancelled.svcQueue
      exact ⟨_, answer, cancelled.untaken⟩
    · have answer := answers (powerOffForced_refused (s := oneTaken s) off waits) rfl
      exact answer
  · have names : namesExist (.powerOff (byteOf b.val) 0) = true := by simp [namesExist]
    have carried : carryOut e (.powerOff (byteOf b.val) 0) (oneTaken s) = powerOffGraceful b (oneTaken s) := by
      simp [carryOut, replyPowerOff, named]
    have answers {t : State} {status : Status} (h : powerOffGraceful b (oneTaken s) = answered status t) :=
      manager.answers (c := .powerOffGraceful e (byteOf b.val)) rfl rfl names rfl (carried.trans h)
    have forced (on : bayState s b ≠ .poweredOn) (stopping : bayState s b ≠ .stopping) :=
      powerOffGraceful_forced (s := oneTaken s) on stopping
    refine ⟨fun on => ?_, fun stopping => ?_, fun ramping => ?_, fun waits => ?_, fun off waits => ?_⟩
    · have begun := beginStop_begun b (oneTaken s)
      have answer := answers (powerOffGraceful_on (s := oneTaken s) on) (begun.frame .svcQueue (by decide))
      generalize beginStop b (oneTaken s) = t at *
      obtain ⟨record, raised, flushed, queues, purged, others, flags, alerts, frame⟩ := begun
      exact ⟨_, answer, record, raised, flushed, queues, purged, others, flags, alerts, frame.untaken⟩
    · have answer := answers (powerOffGraceful_stopping (s := oneTaken s) stopping) rfl
      exact answer
    · have main : hasMain (bayState s b) = true := by simp [ramping, hasMain]
      have down := forceOff_poweredDown (b := b) (s := oneTaken s) main
      have answer := answers ((forced (by simp [ramping]) (by simp [ramping])).trans
        (powerOffForced_ok (s := oneTaken s) (.inl main))) down.svcQueue
      exact ⟨_, answer, down.untaken⟩
    · have cancelled := cancelWait_cancelled b (oneTaken s)
      rw [← forceOff_waiting (s := oneTaken s) waits] at cancelled
      have answer := answers ((forced (by simp [waits]) (by simp [waits])).trans
        (powerOffForced_ok (s := oneTaken s) (.inr waits))) cancelled.svcQueue
      exact ⟨_, answer, cancelled.untaken⟩
    · have answer := answers ((forced (fun h => by simp [h, hasMain] at off) fun h => by simp [h, hasMain] at off).trans
        (powerOffForced_refused (s := oneTaken s) off waits)) rfl
      exact answer
  · have carried : carryOut e .powerRelease (oneTaken s) = powerReleased b (oneTaken s) :=
      replyPowerRelease_eq sender.2.1
    have answers {t : State} {status : Status} (h : powerReleased b (oneTaken s) = answered status t) :=
      sender.answers (c := .powerRelease e) rfl rfl rfl rfl (carried.trans h)
    refine ⟨fun up => ?_, fun down => ?_⟩
    · have main : hasMain (bayState s b) = true := by
        cases state : bayState s b <;> simp_all [isUp, hasMain]
      have down := forceOff_poweredDown (b := b) (s := oneTaken s) main
      have answer := answers (if_pos up) down.svcQueue
      exact ⟨_, answer, down.untaken⟩
    · have answer := answers (t := oneTaken s) (status := .badState) (if_neg (by
        change ¬isUp (bayState s b) = true; simp [down])) rfl
      exact answer

end Sys2Proof.Machine
end

section
/-! SUPPORT. Isolation, a bay detected anew, and a fault that is cleared (O36). -/

namespace Sys2Proof.Machine

/-! ### An emergency begun that stands -/

theorem BeganEmergency.stands {source : EmgSource} {s t u : State} (h : BeganEmergency source s t)
    (k : EmergencyKept t u) (policy : u.pbu.policy = t.pbu.policy) : BeganEmergency source s u := by
  obtain ⟨emg, gates, cause, flag⟩ := k
  replace emg : u.pbu.emg = t.pbu.emg := emg
  replace gates : u.pbu.ae = t.pbu.ae ∧ u.pbu.ae2 = t.pbu.ae2 := gates
  unfold BeganEmergency Raised at *
  rw [emg, gates.1, gates.2, policy]
  obtain ⟨phase, timer, count, ae, ae2, causes, raised⟩ := h
  exact ⟨phase, timer, count, ae, ae2, fun c => (cause c).trans (causes c), flag.trans raised⟩

/-- Two evaluations with one source, from no emergency and no hold: an emergency begins in one of them and stands, or
has ended in the second, and the admission gate is then as it was (R54, R72, R83). -/
theorem comparedTwice {source : EmgSource} {s t t' u : State} (first : Compared source s t) (between : EmergencyKept t t')
    (second : Compared source t' u) (hold : t'.pbu.hold = s.pbu.hold) (policy : u.pbu.policy = t.pbu.policy)
    (calm : s.pbu.emg.phase = .none) (free : s.pbu.hold = false) :
    (overBudget u = true → BeganEmergency source s u)
      ∧ (overBudget u = false → u.pbu.emg.phase = .none ∧ u.pbu.ae = s.pbu.ae) := by
  have emg : t'.pbu.emg = t.pbu.emg := between.1
  have gates : t'.pbu.ae = t.pbu.ae ∧ t'.pbu.ae2 = t.pbu.ae2 := between.2.1
  obtain ⟨-, began, none_, -⟩ := first
  cases exceeded : overBudget t with
  | true =>
    obtain ⟨-, -, -, ended, grace, -⟩ := second
    have begun := began calm free exceeded
    have phase : t'.pbu.emg.phase = .grace := emg ▸ begun.1
    refine ⟨fun exceeds => begun.stands (between.trans (grace phase exceeds)) policy, fun fit => ?_⟩
    obtain ⟨⟨over_, -, -, ae, -⟩, -⟩ := ended (.inl phase) fit
    exact ⟨over_, ae.trans (gates.2.trans begun.2.2.2.2.1)⟩
  | false =>
    have kept := (none_ calm (.inr exceeded)).trans between
    obtain ⟨-, began', none', -⟩ := second.before kept hold
    refine ⟨began' calm free, fun fit => ?_⟩
    obtain ⟨emg', gates', -⟩ := none' calm (.inr fit)
    replace emg' : u.pbu.emg = s.pbu.emg := emg'
    exact ⟨by rw [emg', calm], gates'.1⟩

/-! ### A bay detected anew (R19) -/

/-- BAY_THR follows the state that is entered, whatever it was before (R20). -/
theorem enterState_updBay_id (b : Bay) (st : BayState) (s : State) :
    enterState b st (updBay b (fun r => r) s) = enterState b st s := by
  have record : updBay b (fun r => { r with state := st }) (updBay b (fun r => r) s)
      = updBay b (fun r => { r with state := st }) s := by
    simp [updBay, bayRec, Bank.put_put, followThrottle]
  rw [enterState, record, enterState]

theorem enterDetected_updBay_id (b : Bay) (s : State) : enterDetected b (updBay b (fun r => r) s) = enterDetected b s := by
  rw [enterDetected, enterState_updBay_id, enterDetected]

theorem enterDetected_found {b : Bay} {s : State} (law : ScanLaw s) :
    Detected b (fun r => r) s (enterDetected b s) :=
  enterDetected_updBay_id b s ▸ enterDetected_detected (f := fun r => r) rfl law

/-- The second evaluation of a detection, where the slot had a settled identity (R44). -/
theorem enterDetected_settled {b : Bay} {s : State}
    (settled : (slotRec s (slotOfBay b)).status = .complete ∨ (slotRec s (slotOfBay b)).status = .unidentified) :
    Compared (.bay b) (engineTakes (freshRequest (slotOfBay b) (evaluate (.bay b) (enterState b .detected s))))
      (enterDetected b s) := by
  have state := enterDetected_bayState b (fun r => r) s
  have eq := enterDetected_eq b (fun r => r) s
  rw [enterState_updBay_id] at state eq
  rw [enterDetected_updBay_id] at eq
  rw [eq]
  have frame : KeepsAllBut budgetParts s (evaluate (.bay b) (enterState b .detected s)) :=
    ((enterState_keeps b .detected s).within (l := budgetParts)).and (evaluate_keeps _ _)
  rw [← frame.slotRec_eq] at settled
  generalize evaluate (.bay b) (enterState b .detected s) = t at *
  have kept := enterState_identifying_budgetKept state
  have request : requestScan (slotOfBay b) t = evaluate (.bay b) (engineTakes (freshRequest (slotOfBay b) t)) :=
    (requestScan_settled settled).trans (reportStatus_bay b _)
  rw [request] at kept ⊢
  exact (evaluate_evaluatedFor (.bay b) _).1.after kept

/-- The evaluations of a detection, of a slot of any status, from no emergency and no hold (R19, R44, R54). -/
theorem enterDetected_fromCalm {b : Bay} {s : State} (law : ScanLaw s) (calm : s.pbu.emg.phase = .none)
    (free : s.pbu.hold = false) :
    (overBudget (enterDetected b s) = true → BeganEmergency (.bay b) s (enterDetected b s))
      ∧ (overBudget (enterDetected b s) = false →
          (enterDetected b s).pbu.emg.phase = .none ∧ (enterDetected b s).pbu.ae = s.pbu.ae) := by
  by_cases settled : (slotRec s (slotOfBay b)).status = .complete ∨ (slotRec s (slotOfBay b)).status = .unidentified
  · have entered := enterState_keeps b .detected s
    have first : Compared (.bay b) s (evaluate (.bay b) (enterState b .detected s)) :=
      (evaluate_evaluatedFor (.bay b) _).1.before (enterState_emergencyKept b .detected s)
        (entered .hold (by decide)).1
    have frame : KeepsAllBut budgetParts s (evaluate (.bay b) (enterState b .detected s)) :=
      (entered.within (l := budgetParts)).and (evaluate_keeps _ _)
    have second := enterDetected_settled settled
    have whole : s.pbu.policy = (enterDetected b s).pbu.policy := ((enterDetected_keeps b s) .powerPolicy (by decide)).symm
    generalize evaluate (.bay b) (enterState b .detected s) = t at *
    have scan := engineTakes_freshRequest_keeps (slotOfBay b) t
    have policy : t.pbu.policy = s.pbu.policy := frame .powerPolicy (by decide)
    exact comparedTwice first (.of_keeps scan) second ((scan .hold (by decide)).1.trans (frame .hold (by decide)).1)
      (whole.symm.trans policy.symm) calm free
  · rw [not_or] at settled
    obtain ⟨⟨-, began, none_, -⟩, -⟩ := (enterDetected_found (b := b) law).evaluated settled.1 settled.2
    refine ⟨began calm free, fun fit => ?_⟩
    obtain ⟨emg, gates, -⟩ := none_ calm (.inr fit)
    replace emg : (enterDetected b s).pbu.emg = s.pbu.emg := emg
    exact ⟨by rw [emg, calm], gates.1⟩

/-! ### Isolation (R18) -/

/-- What isolation comes to. -/
structure Isolated (b : Bay) (s t : State) : Prop where
  record : sameBayRecord { unpowered (bayRec s b) with state := .maint } (bayRec t b)
  raised : Raised (.bayChange b) t
  stopped : ScanStopped (slotOfBay b) abortedSlot s t
  list : t.pbu.waitList = s.pbu.waitList.filter (fun w => w.bay ≠ b) ∧ t.pbu.nextStamp = s.pbu.nextStamp
  freed : SequencerFreed b s t
  cleared : PortCleared b True s t
  compared : Compared (.bay b) s t
  others : OtherBaysKept b s t
  reported : Reported [0, 2, 3, 7] s t
  frame : KeepsAllBut ([.slots, .scanQueue, .scan, .waitList, .bayQueues, .stations] ++ budgetParts) s t

theorem isolate_isolated (b : Bay) (s : State) : Isolated b s (isolate b s) := by
  have left := leaveOn_keeps b s
  have listFrame := leaveWaitList_keeps b (leaveOn b s)
  have scanFrame := abortScan_keeps (slotOfBay b) (leaveWaitList b (leaveOn b s))
  have before : KeepsAllBut [.slots, .scanQueue, .scan, .waitList, .bayQueues, .pool, .stations] s
      (abortScan (slotOfBay b) (leaveWaitList b (leaveOn b s))) :=
    ((left.within (l := [.slots, .scanQueue, .scan, .waitList, .bayQueues, .pool, .stations])).and listFrame).and
      scanFrame
  have cleared := ((leaveOn_cleared b s).after listFrame).after scanFrame
  have stopped := ((abortScan_stopped (slotOfBay b) _).before listFrame).before left
  have list : (abortScan (slotOfBay b) (leaveWaitList b (leaveOn b s))).pbu.waitList
        = s.pbu.waitList.filter (fun w => w.bay ≠ b)
      ∧ (abortScan (slotOfBay b) (leaveWaitList b (leaveOn b s))).pbu.nextStamp = s.pbu.nextStamp := by
    rw [scanFrame.pbu_eq, leaveWaitList, updPbu_pbu, left.pbu_eq]
    exact ⟨rfl, rfl⟩
  rw [isolate]
  generalize abortScan (slotOfBay b) (leaveWaitList b (leaveOn b s)) = t at *
  have after : KeepsAllBut budgetParts t (rampEndUnpowered b (dropTo b .maint t)) :=
    (dropTo_keeps b .maint t).and (rampEndUnpowered_keeps b _)
  obtain ⟨record, raised, freed, compared, others, reported⟩ := ((dropTo_arrived b .maint t).before before).freed
  obtain ⟨list', stamp'⟩ := after .waitList (by decide)
  exact ⟨record, raised, stopped.after after, ⟨list'.trans list.1, stamp'.trans list.2⟩, freed, cleared.after after,
    compared, others, reported,
    (before.within (l := [.slots, .scanQueue, .scan, .waitList, .bayQueues, .stations] ++ budgetParts)).and after⟩

/-! ### The requests -/

/-- SET_MAINT at its bay (R18). -/
theorem replySetMaint_isolates {b : Bay} {s : State} (present : bayState s b ≠ .empty) (outside : bayState s b ≠ .maint) :
    replySetMaint (byteOf b.val) s = answered .ok (isolate b s) := by
  cases state : bayState s b <;> simp_all [replySetMaint, named]

theorem replySetMaint_maint {b : Bay} {s : State} (h : bayState s b = .maint) :
    replySetMaint (byteOf b.val) s = answered .ok s := by simp [replySetMaint, named, h]

theorem replySetMaint_empty {b : Bay} {s : State} (h : bayState s b = .empty) :
    replySetMaint (byteOf b.val) s = answered .badState s := by simp [replySetMaint, named, h]

/-- CLEAR_MAINT at its bay (R19). -/
theorem replyClearMaint_maint {b : Bay} {s : State} (h : bayState s b = .maint) :
    replyClearMaint (byteOf b.val) s = answered .ok (enterDetected b s) := by simp [replyClearMaint, named, h]

theorem replyClearMaint_other {b : Bay} {s : State} (h : bayState s b ≠ .maint) :
    replyClearMaint (byteOf b.val) s = answered .badState s := by simp [replyClearMaint, named, h]

/-- CLEAR_FAULT at its bay (R15). -/
theorem replyClearFault_fault {b : Bay} {s : State} (h : bayState s b = .fault) :
    replyClearFault (byteOf b.val) s = answered .ok (enterState b (standbyState s b) s) := by
  simp [replyClearFault, named, h]

theorem replyClearFault_other {b : Bay} {s : State} (h : bayState s b ≠ .fault) :
    replyClearFault (byteOf b.val) s = answered .badState s := by simp [replyClearFault, named, h]

/-- Settles O36, by the request and then the state of its bay. -/
theorem maintenanceAndFaultRequests : Obligations.MaintenanceAndFaultRequests := by
  refine ⟨fun e u b s manager => ?_, fun e u b s manager => ?_, fun e u b s manager => ?_⟩
  · have names : namesExist (.setMaint (byteOf b.val)) = true := by simp [namesExist]
    have answers {t : State} {status : Status} (h : replySetMaint (byteOf b.val) (oneTaken s) = answered status t) :=
      manager.answers (c := .setMaint e (byteOf b.val)) rfl rfl names rfl h
    refine ⟨fun present outside => ?_, fun maint => ?_, fun empty => ?_⟩
    · have isolated := isolate_isolated b (oneTaken s)
      have answer := answers (replySetMaint_isolates (s := oneTaken s) present outside)
        (isolated.frame .svcQueue (by decide))
      generalize isolate b (oneTaken s) = t at *
      obtain ⟨record, raised, stopped, ⟨list, stamp⟩, freed, cleared, compared, others, reported, frame⟩ := isolated
      exact ⟨_, answer, record, raised, stopped.record, stopped.unqueued, stopped.unscanned, stopped.aborted, list,
        stamp, freed, cleared.flushed, cleared.others, cleared.stations trivial, compared, others, reported.flags,
        reported.alerts, frame.untaken⟩
    · have answer := answers (replySetMaint_maint (s := oneTaken s) maint) rfl
      exact answer
    · have answer := answers (replySetMaint_empty (s := oneTaken s) empty) rfl
      exact answer
  · have names : namesExist (.clearMaint (byteOf b.val)) = true := by simp [namesExist]
    have answers {t : State} {status : Status} (h : replyClearMaint (byteOf b.val) (oneTaken s) = answered status t) :=
      manager.answers (c := .clearMaint e (byteOf b.val)) rfl rfl names rfl h
    refine ⟨fun law maint => ?_, fun outside => ?_⟩
    · have found := enterDetected_found (b := b) (s := oneTaken s) law
      have fromCalm := enterDetected_fromCalm (b := b) (s := oneTaken s) law
      have answer := answers (replyClearMaint_maint (s := oneTaken s) maint) (found.frame .svcQueue (by decide))
      generalize enterDetected b (oneTaken s) = t at *
      obtain ⟨record, raised, requested, figures, evaluated, others, reported, frame⟩ := found
      exact ⟨_, answer, record, raised, requested, figures, evaluated, fromCalm, others, reported.flags,
        reported.alerts, frame.untaken⟩
    · have answer := answers (replyClearMaint_other (s := oneTaken s) outside) rfl
      exact answer
  · have names : namesExist (.clearFault (byteOf b.val)) = true := by simp [namesExist]
    have answers {t : State} {status : Status} (h : replyClearFault (byteOf b.val) (oneTaken s) = answered status t) :=
      manager.answers (c := .clearFault e (byteOf b.val)) rfl rfl names rfl h
    refine ⟨fun fault => ?_, fun outside => ?_⟩
    · have frame := enterState_keeps b (standbyState (oneTaken s) b) (oneTaken s)
      have record (c) := bayRec_enterState b c (standbyState (oneTaken s) b) (oneTaken s)
      have raised := enterState_raised b (standbyState (oneTaken s) b) (oneTaken s)
      have reported := enterState_reported b (standbyState (oneTaken s) b) (oneTaken s)
      have answer := answers (replyClearFault_fault (s := oneTaken s) fault) (frame .svcQueue (by decide))
      generalize enterState b (standbyState (oneTaken s) b) (oneTaken s) = t at *
      exact ⟨_, answer, (record b).trans (if_pos rfl), raised, fun c hc => (record c).trans (if_neg hc),
        reported.flags, reported.alerts, frame.untaken⟩
    · have answer := answers (replyClearFault_other (s := oneTaken s) outside) rfl
      exact answer

end Sys2Proof.Machine
end

section
/-! SUPPORT. A slot that is read again, and an identity that a bay announces (O37). -/

namespace Sys2Proof.Machine

/-! ### A new request and what it reports (R41, R44) -/

theorem slotOfFan_injective {f g : Fan} (h : slotOfFan f = slotOfFan g) : f = g := by
  have := slotOwner_slotOfFan f
  rw [h, slotOwner_slotOfFan] at this
  exact (SlotOwner.fan.inj this).symm

section
variable {k : Slot} {s : State}

/-- The status has stopped being COMPLETE or UNIDENTIFIED (R41). -/
theorem FreshlyRequested.unsettled {t : State} (h : FreshlyRequested k s t) (law : ScanLaw s) :
    (slotRec t k).status ≠ .complete ∧ (slotRec t k).status ≠ .unidentified := by
  obtain ⟨absorbed, taken, queued, -⟩ := h
  obtain ⟨-, -, -, status, -, waits, -⟩ := law
  by_cases busy : (slotRec s k).stage = .queued ∨ (slotRec s k).stage = .inFlight
  · rw [(absorbed busy).1]
    rcases busy with busy | busy
    · simp [waits k (.inl busy)]
    · simp [(status k).mpr busy]
  · by_cases free : s.ise.scan = none
    · simp [(taken busy free).1]
    · simp [(queued busy free).1]

/-- The report of a lost identity writes no supply but the slot's own, and of a bay what an emergency writes (R44). -/
theorem reportStatus_others (k : Slot) (s : State) :
    (∀ p, slotOfPsu p ≠ k → supplyRec (reportStatus k s) p = supplyRec s p)
      ∧ ∀ b, sameBayRecord (bayRec s b) (bayRec (reportStatus k s) b) := by
  rcases slotOwner_cases k with ⟨b, rfl⟩ | ⟨p, rfl⟩ | ⟨f, rfl⟩
  · rw [reportStatus_bay]
    exact ⟨fun p _ => (evaluate_keeps _ s).supplyRec_eq p, evaluate_bays _ s⟩
  · rw [reportStatus, slotOwner_slotOfPsu]
    refine ⟨fun q hq => ?_, supplyChanged_bays p s⟩
    rw [supplyRec_supplyChanged, if_neg fun e => hq (by rw [e])]
  · rw [reportStatus, slotOwner_slotOfFan]
    exact ⟨fun p _ => (evaluate_keeps _ s).supplyRec_eq p, evaluate_bays _ s⟩

theorem requestScan_others (k : Slot) (s : State) :
    (∀ p, slotOfPsu p ≠ k → supplyRec (requestScan k s) p = supplyRec s p)
      ∧ ∀ b, sameBayRecord (bayRec s b) (bayRec (requestScan k s) b) := by
  have frame := engineTakes_freshRequest_keeps k s
  by_cases settled : (slotRec s k).status = .complete ∨ (slotRec s k).status = .unidentified
  · obtain ⟨supplies, bays⟩ := reportStatus_others k (engineTakes (freshRequest k s))
    rw [requestScan_settled settled]
    exact ⟨fun p hp => (supplies p hp).trans (frame.supplyRec_eq p),
      fun b => (sameBayRecord.of_eq (frame.bayRec_eq b)).trans (bays b)⟩
  · rw [not_or] at settled
    rw [requestScan_unsettled settled.1 settled.2]
    exact ⟨fun p _ => frame.supplyRec_eq p, fun b => .of_eq (frame.bayRec_eq b)⟩

/-- A bay's or a fan's slot leaves the supplies (R44). -/
theorem requestScan_suppliesKept (kind : slotKind k ≠ .psu) : Part.supplies.same s (requestScan k s) := by
  have frame := engineTakes_freshRequest_keeps k s
  by_cases settled : (slotRec s k).status = .complete ∨ (slotRec s k).status = .unidentified
  · rw [requestScan_settled settled, reportStatus]
    rcases slotOwner_cases k with ⟨b, rfl⟩ | ⟨p, rfl⟩ | ⟨f, rfl⟩
    · rw [slotOwner_slotOfBay]
      exact Part.same_trans .supplies (frame .supplies (by decide)) (evaluate_keeps (.bay b) _ .supplies (by decide))
    · exact absurd (slotKind_slotOfPsu p) kind
    · rw [slotOwner_slotOfFan]
      exact Part.same_trans .supplies (frame .supplies (by decide)) (evaluate_keeps (.fan f) _ .supplies (by decide))
  · rw [not_or] at settled
    rw [requestScan_unsettled settled.1 settled.2]
    exact frame .supplies (by decide)

/-- The scanning that comes before a report leaves the budget as the report finds it. -/
theorem EvaluatedFor.ofRequest {source : EmgSource} {t : State}
    (h : EvaluatedFor source (engineTakes (freshRequest k s)) t) : EvaluatedFor source s t := by
  have frame := engineTakes_freshRequest_keeps k s
  exact h.before (.of_keeps frame) (frame .hold (by decide)).1 (frame .sequencer (by decide))

section
variable (settled : (slotRec s k).status = .complete ∨ (slotRec s k).status = .unidentified)
include settled

theorem requestScan_bay_evaluated {b : Bay} (owner : slotOfBay b = k) : EvaluatedFor (.bay b) s (requestScan k s) := by
  subst owner
  rw [requestScan_settled settled, reportStatus_bay]
  exact (evaluate_evaluatedFor _ _).ofRequest

theorem requestScan_fan_evaluated {f : Fan} (owner : slotOfFan f = k) : EvaluatedFor (.fan f) s (requestScan k s) := by
  subst owner
  rw [requestScan_settled settled, reportStatus, slotOwner_slotOfFan]
  exact (evaluate_evaluatedFor _ _).ofRequest

/-- A present supply is PENDING without capacity, and the hold cannot end with it (R47, R50, R86). -/
theorem requestScan_supply (law : ScanLaw s) {p : Psu} (owner : slotOfPsu p = k)
    (present : (supplyRec s p).present = true) :
    supplyRec (requestScan k s) p = { supplyRec s p with condition := .pending, capacity := 0 }
      ∧ ((supplyRec s p).capacity ≠ 0 → EvaluatedFor (.supply p) s (requestScan k s))
      ∧ Part.hold.same s (requestScan k s) := by
  subst owner
  have frame := engineTakes_freshRequest_keeps (slotOfPsu p) s
  obtain ⟨complete, unidentified⟩ := (engineTakes_freshRequest (k := slotOfPsu p) law).unsettled law
  have supply := frame.supplyRec_eq p
  have request : requestScan (slotOfPsu p) s = supplyChanged p (engineTakes (freshRequest (slotOfPsu p) s)) := by
    rw [requestScan_settled settled, reportStatus, slotOwner_slotOfPsu]
  have ofRequest {t} := EvaluatedFor.ofRequest (k := slotOfPsu p) (s := s) (source := .supply p) (t := t)
  rw [request]
  generalize engineTakes (freshRequest (slotOfPsu p) s) = u at *
  have now : supplyNow u p = { supplyRec s p with condition := .pending, capacity := 0 } := by
    have condition : conditionOf (supplyRec s p).present (supplyRec s p).psuOk (slotRec u (slotOfPsu p)).status
        = .pending := by
      cases h : (slotRec u (slotOfPsu p)).status <;> simp_all [conditionOf]
    simp [supplyNow, supply, condition]
  have holds : ¬endsHold p u := fun ⟨_, _, none_⟩ =>
    none_ p (by rw [supplyRec_supplyCounted, if_pos rfl, now])
  obtain ⟨hold, evaluated⟩ := (supplyChanged_evaluated p u).2.2 holds
  refine ⟨by rw [supplyRec_supplyChanged, if_pos rfl, now], fun counted => ofRequest (evaluated ?_),
    Part.same_trans .hold (frame .hold (by decide)) hold⟩
  rw [now, supply]
  exact Ne.symm counted

end
end

/-! ### RESCAN (R42) -/

theorem slotInMaint_iff (s : State) (k : Slot) : slotInMaint s k = true ↔ ∃ b, slotOfBay b = k ∧ bayState s b = .maint := by
  rcases slotOwner_cases k with ⟨b, rfl⟩ | ⟨p, rfl⟩ | ⟨f, rfl⟩
  · simp only [slotInMaint, slotOwner_slotOfBay, beq_iff_eq]
    exact ⟨fun h => ⟨b, rfl, h⟩, fun ⟨c, hc, h⟩ => slotOfBay_injective hc ▸ h⟩
  · simp only [slotInMaint, slotOwner_slotOfPsu, Bool.false_eq_true, false_iff]
    rintro ⟨b, hb, -⟩
    simpa using congrArg slotOwner hb
  · simp only [slotInMaint, slotOwner_slotOfFan, Bool.false_eq_true, false_iff]
    rintro ⟨b, hb, -⟩
    simpa using congrArg slotOwner hb

section
variable {k : Slot} {s : State}

theorem replyRescan_accepted (present : (slotRec s k).present = true)
    (outside : ∀ b, slotOfBay b = k → bayState s b ≠ .maint) :
    replyRescan (byteOf k.val) s = answered .accepted (requestScan k s) := by
  have maint : slotInMaint s k = false := by
    rw [Bool.eq_false_iff, ne_eq, slotInMaint_iff]
    exact fun ⟨b, owner, h⟩ => outside b owner h
  simp [replyRescan, named, present, maint]

theorem replyRescan_refused
    (h : (slotRec s k).present = false ∨ ∃ b, slotOfBay b = k ∧ bayState s b = .maint) :
    replyRescan (byteOf k.val) s = answered .badState s := by
  rw [← slotInMaint_iff] at h
  rcases h with h | h <;> simp [replyRescan, named, h]

end

/-! ### ANNOUNCE (R43) -/

/-- The record of a slot whose identity has been announced. -/
def announcedSlot (ident : Identity) (r : SlotRec) : SlotRec :=
  { r with ident := some ident, status := .complete, lastFailure := none }

/-- What an announced identity comes to. -/
structure AnnouncedAt (b : Bay) (image : Image) (s t : State) : Prop where
  slot : slotRec t (slotOfBay b) = announcedSlot (imageIdentity .bay image) (slotRec s (slotOfBay b))
  slots : ∀ k, k ≠ slotOfBay b → slotRec t k = slotRec s k
  raised : Raised (.identity (slotOfBay b)) t
  identifying : bayState s b = .identifying →
    sameBayRecord { bayRec s b with state := .standby } (bayRec t b) ∧ Raised (.bayChange b) t
  up : isUp (bayState s b) = true → sameBayRecord { bayRec s b with
    adopted := false, grant := capGrant (image16 image 8 9) (bayRec s b).cap } (bayRec t b)
  powered : hasMain (bayState s b) = true → (bayRec s b).adopted = false → sameBayRecord { bayRec s b with
    grant := capGrant (image16 image 8 9) (bayRec s b).cap } (bayRec t b)
  other : bayState s b ≠ .identifying → hasMain (bayState s b) = false → sameBayRecord (bayRec s b) (bayRec t b)
  quiet : bayState s b ≠ .identifying → flagRec t 0 = flagRec s 0
  evaluated : EvaluatedFor (.bay b) s t
  others : OtherBaysKept b s t
  reported : Reported [0, 1, 2, 3, 7] s t
  frame : KeepsAllBut (.slots :: budgetParts) s t

theorem hasMain_of_isUp {st : BayState} (h : isUp st = true) : hasMain st = true := by
  cases st <;> simp_all [isUp, hasMain]

theorem acceptAnnounce_announced (b : Bay) (image : Image) (s : State) :
    AnnouncedAt b image s (acceptAnnounce (slotOfBay b) (imageIdentity .bay image) s) := by
  have written := updSlot_keeps (slotOfBay b) (announcedSlot (imageIdentity .bay image)) s
  have records (k) := slotRec_updSlot (slotOfBay b) k (announcedSlot (imageIdentity .bay image)) s
  have eq : acceptAnnounce (slotOfBay b) (imageIdentity .bay image) s = raise (.identity (slotOfBay b))
    (reportComplete (slotOfBay b) (updSlot (slotOfBay b) (announcedSlot (imageIdentity .bay image)) s)) := rfl
  rw [eq]
  generalize updSlot (slotOfBay b) (announcedSlot (imageIdentity .bay image)) s = u at *
  have grant : classGrant u b = capGrant (image16 image 8 9) (bayRec s b).cap := by
    rw [classGrant, classMax, records, if_pos rfl, written.bayRec_eq b]
    rfl
  obtain ⟨identifying, adopted, powered, other, quiet, evaluated, others, reported, frame⟩ :=
    reportComplete_completed b u
  rw [written.bayRec_eq b, written.bayState_eq b, grant] at *
  generalize reportComplete (slotOfBay b) u = v at *
  have raising := raise_keeps (.identity (slotOfBay b)) v
  have raised := raise_raised (.identity (slotOfBay b)) v (by simp [causeClass])
  have report : Reported [1, 7] v (raise (.identity (slotOfBay b)) v) := raise_reported (.identity (slotOfBay b)) v
  have kept := raise_budgetKept (c := .identity (slotOfBay b)) (by simp [causeClass]) v
  generalize raise (.identity (slotOfBay b)) v = t at *
  have record : bayRec t b = bayRec v b := raising.bayRec_eq b
  have slot (k) : slotRec t k = slotRec u k := (raising.slotRec_eq k).trans (frame.slotRec_eq k)
  constructor
  case slot => rw [slot, records, if_pos rfl]
  case slots => exact fun k hk => by rw [slot, records, if_neg hk]
  case raised => exact raised
  case identifying => exact fun h => record ▸ ⟨(identifying h).1, (identifying h).2.kept report⟩
  case up =>
    intro up
    rw [record]
    cases was : (bayRec s b).adopted with
    | true => exact adopted up was
    | false =>
      have same : { bayRec s b with adopted := false } = bayRec s b := by rw [← was]
      exact same ▸ powered (hasMain_of_isUp up) was
  case powered => exact fun main was => record ▸ powered main was
  case other => exact fun h off => record ▸ other h off
  case quiet => exact fun h => (report.flags 0 (by decide)).trans ((quiet h).trans (written.flagRec_eq 0))
  case evaluated =>
    exact (evaluated.before (.of_keeps written) (written .hold (by decide)).1 (written .sequencer (by decide))).after kept
      (raising .waitList (by decide)).1 (raising .sequencer (by decide))
  case others => exact ((OtherBaysKept.of_keeps written).trans others).trans (.of_keeps raising)
  case reported => exact ((Reported.of_keeps written).trans reported).mono.and report
  case frame => exact ((written.within (l := .slots :: budgetParts)).and frame).and raising

section
variable {e : Envelope} {b : Bay} {image : Image} {s : State} (arrival : e.arrival = .bay b)
include arrival

theorem replyAnnounce_accepted (source : (slotRec s (slotOfBay b)).source = some .announce)
    (valid : imageFailure .bay image = none) : replyAnnounce e image s
      = answered .ok (acceptAnnounce (slotOfBay b) (imageIdentity .bay image) s) := by
  rw [replyAnnounce, forArrivalBay_bay arrival, if_pos source, judgeImage_valid valid]

theorem replyAnnounce_invalid (source : (slotRec s (slotOfBay b)).source = some .announce)
    (invalid : imageFailure .bay image ≠ none) : replyAnnounce e image s = answered .badArg s := by
  obtain ⟨failure, h⟩ := Option.ne_none_iff_exists'.mp invalid
  rw [replyAnnounce, forArrivalBay_bay arrival, if_pos source, judgeImage_invalid h]

theorem replyAnnounce_other (source : (slotRec s (slotOfBay b)).source ≠ some .announce) :
    replyAnnounce e image s = answered .badState s := by
  rw [replyAnnounce, forArrivalBay_bay arrival, if_neg source]

end

/-- Settles O37, by the request. -/
theorem rescanAndAnnounce : Obligations.RescanAndAnnounce := by
  refine ⟨fun e u k s manager => ?_, fun e b image s sender => ?_⟩
  · have names : namesExist (.rescan (byteOf k.val)) = true := by simp [namesExist]
    have answers {t : State} {status : Status} (h : replyRescan (byteOf k.val) (oneTaken s) = answered status t) :=
      manager.answers (c := .rescan e (byteOf k.val)) rfl rfl names rfl h
    refine ⟨fun law present outside => ?_, fun refused => ?_⟩
    · have requested := requestScan_fresh (k := k) (s := oneTaken s) law
      have frame := requestScan_keeps k (oneTaken s)
      have reported := requestScan_reported k (oneTaken s)
      obtain ⟨supplies, bays⟩ := requestScan_others k (oneTaken s)
      have bay := fun settled b => requestScan_bay_evaluated (k := k) (s := oneTaken s) settled (b := b)
      have fan := fun settled f => requestScan_fan_evaluated (k := k) (s := oneTaken s) settled (f := f)
      have supply := fun settled p => requestScan_supply (k := k) (s := oneTaken s) settled law (p := p)
      have kept : slotKind k ≠ .psu → Part.supplies.same (oneTaken s) (requestScan k (oneTaken s)) :=
        requestScan_suppliesKept
      have answer := answers (replyRescan_accepted (s := oneTaken s) present outside) (frame .svcQueue (by decide))
      generalize requestScan k (oneTaken s) = t at *
      exact ⟨_, answer, requested, fun kind => ⟨fun settled => ⟨bay settled, fan settled⟩, kept kind⟩,
        fun p owner present settled => supply settled p owner present, supplies, bays, reported.flags, reported.alerts,
        frame.untaken⟩
    · have answer := answers (replyRescan_refused (s := oneTaken s) refused) rfl
      exact answer
  · have answers {t : State} {status : Status} (h : replyAnnounce e image (oneTaken s) = answered status t) :=
      sender.answers (c := .announce e image) rfl rfl rfl rfl h
    refine ⟨fun source valid => ?_, fun source invalid => ?_, fun source => ?_⟩
    · have announced := acceptAnnounce_announced b image (oneTaken s)
      have answer := answers (replyAnnounce_accepted (s := oneTaken s) sender.2.1 source valid)
        (announced.frame .svcQueue (by decide))
      generalize acceptAnnounce (slotOfBay b) (imageIdentity .bay image) (oneTaken s) = t at *
      obtain ⟨slot, slots, raised, identifying, up, powered, other, quiet, evaluated, others, reported, frame⟩ :=
        announced
      exact ⟨_, answer, slot, slots, raised, identifying, up, powered, other, quiet, evaluated, others, reported.flags,
        reported.alerts, frame.untaken⟩
    · have answer := answers (replyAnnounce_invalid (s := oneTaken s) sender.2.1 source invalid) rfl
      exact answer
    · have answer := answers (replyAnnounce_other (s := oneTaken s) (image := image) sender.2.1 source) rfl
      exact answer

end Sys2Proof.Machine
end

section
/-! SUPPORT. A bay's policy: its place in the wait list and its grant (O32). -/

namespace Sys2Proof.Machine

/-! ### A place in the wait list (R58, R59) -/

theorem standsBefore_iff (prio : Bay → Nat) (x e : Waiting) : standsBefore prio x e = true
    ↔ prio x.bay < prio e.bay ∨ prio x.bay = prio e.bay ∧ x.stamp < e.stamp := by simp [standsBefore]

theorem insertWaiting_perm (prio : Bay → Nat) (e : Waiting) (l : List Waiting) :
    (insertWaiting prio e l).Perm (e :: l) := by
  induction l with
  | nil => exact .refl _
  | cons x rest ih =>
    rw [insertWaiting]
    split
    · exact (ih.cons x).trans (.swap e x rest)
    · exact .refl _

theorem filter_insertWaiting {prio : Bay → Nat} {e : Waiting} {keep : Waiting → Bool} (h : keep e = false)
    (l : List Waiting) : (insertWaiting prio e l).filter keep = l.filter keep := by
  induction l with
  | nil => simp [insertWaiting, h]
  | cons x rest ih =>
    rw [insertWaiting]
    split
    · simp only [List.filter_cons, ih]
    · simp [List.filter_cons, h]

/-- An entry with a stamp of its own is put where the order wants it. -/
theorem insertWaiting_sorted {s : State} {e : Waiting} {l : List Waiting} (sorted : l.Pairwise (before s))
    (own : ∀ x ∈ l, x.stamp ≠ e.stamp) : (insertWaiting (priorityOf s) e l).Pairwise (before s) := by
  induction l with
  | nil => simp [insertWaiting]
  | cons x rest ih =>
    obtain ⟨first, sorted⟩ := List.pairwise_cons.mp sorted
    rw [insertWaiting]
    split
    · next stands =>
      refine List.pairwise_cons.mpr ⟨fun w hw => ?_, ih sorted fun y hy => own y (List.mem_cons_of_mem _ hy)⟩
      rcases (mem_insertWaiting _ e w rest).mp hw with hw | rfl
      · exact first w hw
      · exact (standsBefore_iff _ _ _).mp stands
    · next stands =>
      have behind : before s e x := by
        have distinct := own x List.mem_cons_self
        rw [standsBefore_iff] at stands
        unfold before
        omega
      refine List.pairwise_cons.mpr ⟨fun w hw => ?_, List.pairwise_cons.mpr ⟨first, sorted⟩⟩
      rcases List.mem_cons.mp hw with rfl | hw
      · exact behind
      · have later := first w hw
        unfold before at *
        omega

/-- The law of the list speaks of the bays and of the list alone. -/
theorem waitListLaw_congr {l : List Part} {s t : State} (h : KeepsAllBut l s t) (law : WaitListLaw s)
    (hl : Part.bays ∉ l ∧ Part.waitList ∉ l := by decide) : WaitListLaw t := by
  obtain ⟨list, stamp⟩ : t.pbu.waitList = s.pbu.waitList ∧ t.pbu.nextStamp = s.pbu.nextStamp := h .waitList hl.2
  have bays (b) := h.bayRec_eq b hl.1
  unfold WaitListLaw before at *
  simpa only [list, stamp, bayState, priorityOf, bays] using law

/-! ### A bay that moves in the list (R23) -/

section
variable {b : Bay} {s v : State}

theorem moveInWaitList_found {e : Waiting} (found : v.pbu.waitList.find? (fun w => w.bay == b) = some e) :
    (moveInWaitList b v).pbu.waitList
      = insertWaiting (priorityOf v) e (v.pbu.waitList.filter fun w => w.bay ≠ b) := by
  simp [moveInWaitList, found]

/-- The entry keeps its bay and stamp, and the others keep their order. -/
theorem moveInWaitList_moves (b : Bay) (v : State) :
    (∀ w ∈ (moveInWaitList b v).pbu.waitList, w ∈ v.pbu.waitList)
      ∧ (moveInWaitList b v).pbu.waitList.filter (fun w => w.bay ≠ b) = v.pbu.waitList.filter (fun w => w.bay ≠ b)
      ∧ (moveInWaitList b v).pbu.nextStamp = v.pbu.nextStamp := by
  cases found : v.pbu.waitList.find? (fun w => w.bay == b) with
  | none => simp [moveInWaitList, found]
  | some e =>
    have own : e.bay = b := by simpa using List.find?_some found
    have list := moveInWaitList_found found
    refine ⟨fun w hw => ?_, ?_, by simp [moveInWaitList, found]⟩
    · rw [list, mem_insertWaiting] at hw
      rcases hw with hw | rfl
      · exact (List.mem_filter.mp hw).1
      · exact List.mem_of_find?_eq_some found
    · rw [list, filter_insertWaiting (by simp [own]), List.filter_filter]
      simp

/-- The list is in order again after the bay's priority has changed. -/
theorem moveInWaitList_law (law : WaitListLaw s) (waits : bayState s b = .waitPower)
    (list : v.pbu.waitList = s.pbu.waitList ∧ v.pbu.nextStamp = s.pbu.nextStamp)
    (state : ∀ c, bayState v c = bayState s c) (priority : ∀ c, c ≠ b → priorityOf v c = priorityOf s c) :
    WaitListLaw (moveInWaitList b v) ∧ ∀ w ∈ s.pbu.waitList, w ∈ (moveInWaitList b v).pbu.waitList := by
  obtain ⟨listed, bays, sorted, stamps, older⟩ := law
  obtain ⟨e, found⟩ : ∃ e, v.pbu.waitList.find? (fun w => w.bay == b) = some e := by
    obtain ⟨w, hw, own⟩ := (listed b).mpr waits
    rw [← Option.isSome_iff_exists, List.find?_isSome, list.1]
    exact ⟨w, hw, by simp [own]⟩
  have own : e.bay = b := by simpa using List.find?_some found
  have mem : e ∈ s.pbu.waitList := list.1 ▸ List.mem_of_find?_eq_some found
  have result := moveInWaitList_found found
  have frame := moveInWaitList_keeps b v
  obtain ⟨-, -, stamp⟩ := moveInWaitList_moves b v
  have rest : v.pbu.waitList.filter (fun w => w.bay ≠ b) = s.pbu.waitList.erase e := by
    rw [list.1, (List.Nodup.of_map _ bays).erase_eq_filter]
    refine List.filter_congr fun w hw => ?_
    have one : w = e ↔ w.bay = b := ⟨fun h => h ▸ own, fun h => List.inj_on_of_nodup_map bays hw mem (h.trans own.symm)⟩
    by_cases h : w = e
    · simp [h, own]
    · simp [h, mt one.mpr h]
  have perm : (moveInWaitList b v).pbu.waitList.Perm s.pbu.waitList := by
    rw [result, rest]
    exact (insertWaiting_perm _ e _).trans (List.perm_cons_erase mem).symm
  refine ⟨⟨fun c => ?_, (perm.map _).nodup_iff.mpr bays, ?_, (perm.map _).nodup_iff.mpr stamps, fun w hw => ?_⟩,
    fun w hw => perm.mem_iff.mpr hw⟩
  · rw [frame.bayState_eq c, state, ← listed c]
    simp only [perm.mem_iff]
  · have order (x y) : before (moveInWaitList b v) x y ↔ before v x y := by
      simp only [before, priorityOf, frame.bayRec_eq]
    simp only [funext fun x => funext fun y => propext (order x y), result]
    refine insertWaiting_sorted ?_ fun x hx distinct => ?_
    · rw [list.1]
      refine (sorted.filter _).imp_of_mem fun {x y} hx hy h => ?_
      have hx : x.bay ≠ b := by simpa using (List.mem_filter.mp hx).2
      have hy : y.bay ≠ b := by simpa using (List.mem_filter.mp hy).2
      rwa [before, priority _ hx, priority _ hy]
    · rw [list.1] at hx
      obtain ⟨hx, other⟩ := List.mem_filter.mp hx
      have same := List.inj_on_of_nodup_map stamps hx mem distinct
      simp [same, own] at other
  · rw [stamp, list.2]
    exact older w (perm.mem_iff.mp hw)

end

/-! ### The grant after a change of the policy (R23, R24) -/

/-- The grant of a powered bay that is not adopted is computed anew, and counted where it changes. -/
structure GrantRecomputed (b : Bay) (s t : State) : Prop where
  record : sameBayRecord { bayRec s b with
    grant := if hasMain (bayState s b) ∧ (bayRec s b).adopted = false then classGrant s b else (bayRec s b).grant }
    (bayRec t b)
  counted : (bayRec t b).grant ≠ (bayRec s b).grant → EvaluatedFor (.bay b) s t
  kept : (bayRec t b).grant = (bayRec s b).grant → t = s
  unpowered : hasMain (bayState s b) = false → t = s
  others : OtherBaysKept b s t
  reported : Reported [2, 3, 7] s t
  frame : KeepsAllBut budgetParts s t

theorem recomputeGrant_recomputed (b : Bay) (s : State) : GrantRecomputed b s (recomputeGrant b s) := by
  by_cases changed : hasMain (bayState s b) = true ∧ (bayRec s b).adopted = false ∧ (bayRec s b).grant ≠ classGrant s b
  · obtain ⟨main, adopted, grant⟩ := changed
    have result : recomputeGrant b s = evaluate (.bay b) (updBay b (fun r => { r with grant := classGrant s b }) s) :=
      if_pos (by simp [show hasMain (bayRec s b).state = true from main, adopted, grant])
    have written := updBay_keeps b (fun r => { r with grant := classGrant s b }) s
    have emergency : EmergencyKept s (updBay b (fun r => { r with grant := classGrant s b }) s) :=
      updBay_emergencyKept rfl
    have bays := evaluate_bays (.bay b) (updBay b (fun r => { r with grant := classGrant s b }) s) b
    rw [bayRec_updBay_self] at bays
    have record := (sameBayRecord_followThrottle _).trans bays
    have others := (updBay_othersKept b (fun r => { r with grant := classGrant s b }) s).trans (evaluate_othersKept (.bay b) b _)
    rw [result]
    generalize updBay b (fun r => { r with grant := classGrant s b }) s = u at *
    have counted : (bayRec (evaluate (.bay b) u) b).grant ≠ (bayRec s b).grant := by rw [record]; exact Ne.symm grant
    constructor
    case record => simpa only [main, adopted, and_self, if_true] using record
    case counted =>
      exact fun _ => (evaluate_evaluatedFor _ u).before emergency (written .hold (by decide)).1
        (written .sequencer (by decide))
    case kept => exact fun same => absurd same counted
    case unpowered => exact fun off => by simp [off] at main
    case others => exact others
    case reported => exact (Reported.of_keeps written).trans (evaluate_reported _ u)
    case frame => exact (written.within (l := budgetParts)).and (evaluate_keeps _ u)
  · have result : recomputeGrant b s = s := by
      refine if_neg fun h => changed ?_
      simpa [and_assoc, bayState] using h
    rw [result]
    constructor
    case record =>
      refine .of_eq ?_
      split
      · next powered =>
        have same : (bayRec s b).grant = classGrant s b := by
          by_contra differs
          exact changed ⟨powered.1, powered.2, differs⟩
        rw [← same]
      · rfl
    case counted => exact fun h => absurd rfl h
    case kept => exact fun _ => rfl
    case unpowered => exact fun _ => rfl
    case others => exact fun _ _ => .refl _
    case reported => exact .refl _ s
    case frame => exact fun p _ => Part.same_refl p s

/-! ### The policy (R23) -/

section
variable {b : Bay} {s : State}

theorem replaceInList_waiting (h : bayState s b = .waitPower) : replaceInList b s = evaluateHead (moveInWaitList b s) :=
  if_pos h

theorem replaceInList_other (h : bayState s b ≠ .waitPower) : replaceInList b s = s := if_neg h

theorem replaceInList_keeps (b : Bay) (s : State) : KeepsAllBut [.waitList, .sequencer] s (replaceInList b s) := by
  unfold replaceInList
  split
  · exact ((moveInWaitList_keeps b s).within (l := [.waitList, .sequencer])).and (evaluateHead_keeps _)
  · exact fun p _ => Part.same_refl p s

end

theorem storedCap_toNat (cap : Word16) : storedCap cap.toNat = if cap = 0 then 0 else max 50 (min 2000 cap.toNat) := by
  have zero : cap.toNat = 0 ↔ cap = 0 := ⟨fun h => BitVec.eq_of_toNat_eq h, fun h => h ▸ rfl⟩
  simp only [storedCap, zero, clamp]

/-- The record as the request writes it, its grant apart (R20, R23). -/
def PolicyWritten (b : Bay) (priority : Byte) (cap : Word16) (u : Uplink) (z : Zone) (restore : Bool)
    (s t : State) : Prop :=
  sameBayRecord { bayRec s b with
    priority := min priority.toNat 7, cap := storedCap cap.toNat, prefUplink := u, zone := z, autoRestore := restore
    airflowCause := if (bayRec s b).zone = z then (bayRec s b).airflowCause
      else decide ((zoneAir s z).airflow = .noAirflow)
    grant := if hasMain (bayState s b) ∧ (bayRec s b).adopted = false then
        capGrant (classMax s b) (storedCap cap.toNat)
      else (bayRec s b).grant } (bayRec t b)

/-- What a policy that is not refused comes to. -/
structure PolicySet (b : Bay) (priority : Byte) (cap : Word16) (u : Uplink) (z : Zone) (restore : Bool)
    (s t : State) : Prop where
  record : PolicyWritten b priority cap u z restore s t
  counted : (bayRec t b).grant ≠ (bayRec s b).grant → EvaluatedFor (.bay b) s t
  kept : (bayRec t b).grant = (bayRec s b).grant → KeepsAllBut [.bays, .waitList, .sequencer] s t
  other : bayState s b ≠ .waitPower → Part.waitList.same s t
  law : bayState s b = .waitPower → WaitListLaw s → WaitListLaw t ∧ ∀ w ∈ s.pbu.waitList, w ∈ t.pbu.waitList
  place : bayState s b = .waitPower → (∀ w ∈ t.pbu.waitList, w ∈ s.pbu.waitList)
    ∧ t.pbu.waitList.filter (fun w => w.bay ≠ b) = s.pbu.waitList.filter (fun w => w.bay ≠ b)
    ∧ t.pbu.nextStamp = s.pbu.nextStamp
  head : bayState s b = .waitPower →
    (s.pbu.seq = .idle → HeadEvaluated t) ∧ (s.pbu.seq ≠ .idle → Part.sequencer.same s t)
  others : OtherBaysKept b s t
  reported : Reported [2, 3, 7] s t
  frame : KeepsAllBut (.waitList :: budgetParts) s t

section
variable {b : Bay} {priority : Byte} {cap : Word16} {u : Uplink} {z : Zone} {restore : Bool} {s : State}

/-- A waiting bay's policy moves it in the list, and its grant stands (R23, R59, R61). -/
theorem setBayPolicy_waiting (waits : bayState s b = .waitPower) : setBayPolicy b priority.toNat cap.toNat u z restore s
    = evaluateHead (moveInWaitList b (updBay b (policyRec s priority.toNat cap.toNat u z restore) s)) := by
  have state : bayState (updBay b (policyRec s priority.toNat cap.toNat u z restore) s) b = .waitPower := by
    rw [bayState, bayRec_updBay_self]; exact waits
  have frame := replaceInList_keeps b (updBay b (policyRec s priority.toNat cap.toNat u z restore) s)
  rw [setBayPolicy, (recomputeGrant_recomputed b _).unpowered, replaceInList_waiting state]
  rw [frame.bayState_eq b, state]
  rfl

/-- Any other bay keeps its place out of the list (R23). -/
theorem setBayPolicy_other (off : bayState s b ≠ .waitPower) : setBayPolicy b priority.toNat cap.toNat u z restore s
    = recomputeGrant b (updBay b (policyRec s priority.toNat cap.toNat u z restore) s) := by
  rw [setBayPolicy, replaceInList_other]
  rw [bayState, bayRec_updBay_self]; exact off

theorem setBayPolicy_set (b : Bay) (priority : Byte) (cap : Word16) (u : Uplink) (z : Zone) (restore : Bool) (s : State) :
    PolicySet b priority cap u z restore s (setBayPolicy b priority.toNat cap.toNat u z restore s) := by
  have written := updBay_keeps b (policyRec s priority.toNat cap.toNat u z restore) s
  have record := bayRec_updBay_self b (policyRec s priority.toNat cap.toNat u z restore) s
  have others := updBay_othersKept b (policyRec s priority.toNat cap.toNat u z restore) s
  have emergency : EmergencyKept s (updBay b (policyRec s priority.toNat cap.toNat u z restore) s) :=
    updBay_emergencyKept rfl
  have priorities (c) (hc : c ≠ b) : priorityOf (updBay b (policyRec s priority.toNat cap.toNat u z restore) s) c
      = priorityOf s c := by rw [priorityOf, bayRec_updBay_ne _ _ hc, priorityOf]
  have states (c) : bayState (updBay b (policyRec s priority.toNat cap.toNat u z restore) s) c = bayState s c := by
    rw [bayState, bayRec_updBay]
    split
    · next e => subst e; rfl
    · rfl
  by_cases waits : bayState s b = .waitPower
  · rw [setBayPolicy_waiting waits]
    generalize updBay b (policyRec s priority.toNat cap.toNat u z restore) s = v at *
    have list := written .waitList (by decide)
    have moved := moveInWaitList_keeps b v
    have place := moveInWaitList_moves b v
    have law := fun law => moveInWaitList_law (v := v) law waits list states priorities
    generalize moveInWaitList b v = w at *
    have head := evaluateHead_keeps w
    have seq : w.pbu.seq = s.pbu.seq ∧ w.pbu.gapTimer = s.pbu.gapTimer :=
      Part.same_trans .sequencer (written .sequencer (by decide)) (moved .sequencer (by decide))
    have same : bayRec (evaluateHead w) b = bayRec v b := (head.bayRec_eq b).trans (moved.bayRec_eq b)
    have frame : KeepsAllBut [.bays, .waitList, .sequencer] s (evaluateHead w) :=
      ((written.within (l := [.bays, .waitList, .sequencer])).and moved).and head
    have grant : (bayRec (evaluateHead w) b).grant = (bayRec s b).grant := by rw [same, record]; rfl
    obtain ⟨listAfter, stampAfter⟩ := head .waitList (by decide)
    constructor
    case record =>
      have off : ¬(hasMain (bayState s b) = true ∧ (bayRec s b).adopted = false) := by simp [waits, hasMain]
      rw [PolicyWritten, if_neg off, same, record]
      exact sameBayRecord_followThrottle _
    case counted => exact fun changed => absurd grant changed
    case kept => exact fun _ => frame
    case other => exact fun off => absurd waits off
    case law =>
      intro _ before
      obtain ⟨after, members⟩ := law before
      exact ⟨waitListLaw_congr head after, fun x hx => listAfter ▸ members x hx⟩
    case place => rw [listAfter, stampAfter, ← list.1, ← list.2]; exact fun _ => place
    case head =>
      rw [← seq.1]
      exact fun _ => ⟨evaluateHead_evaluates w, fun busy => by rw [evaluateHead_busy w busy]; exact seq⟩
    case others => exact (others.trans (.of_keeps moved)).trans (.of_keeps head)
    case reported => exact .of_keeps frame
    case frame => exact frame.within
  · rw [setBayPolicy_other waits]
    generalize updBay b (policyRec s priority.toNat cap.toNat u z restore) s = v at *
    obtain ⟨after, counted, kept, -, othersAfter, reported, frame⟩ := recomputeGrant_recomputed b v
    have grant : (bayRec v b).grant = (bayRec s b).grant := by rw [record]; rfl
    have adopted : (bayRec v b).adopted = (bayRec s b).adopted := by rw [record]; rfl
    have computed : classGrant v b = capGrant (classMax s b) (storedCap cap.toNat) := by
      rw [classGrant, classMax, written.slotRec_eq, record]; rfl
    rw [states, adopted, computed, grant] at after
    rw [grant] at counted kept
    constructor
    case record => rw [record] at after; exact after
    case counted =>
      exact fun changed => (counted changed).before emergency (written .hold (by decide)).1
        (written .sequencer (by decide))
    case kept => exact fun same => (kept same).symm ▸ written.within
    case other => exact fun _ => Part.same_trans .waitList (written .waitList (by decide)) (frame .waitList (by decide))
    case law => exact fun h => absurd h waits
    case place => exact fun h => absurd h waits
    case head => exact fun h => absurd h waits
    case others => exact others.trans othersAfter
    case reported => exact (Reported.of_keeps written).trans reported
    case frame => exact (written.within (l := .waitList :: budgetParts)).and (frame.within (l := .waitList :: budgetParts))

end

/-! ### The request -/

theorem replySetBayPolicy_set (b : Bay) (priority : Byte) (cap : Word16) (u : Uplink) (z : Zone) (restore : Bool)
    (s : State) : replySetBayPolicy (byteOf b.val) priority cap (byteOf u.val) (byteOf z.val) (if restore then 0 else 1) s
      = answered .ok (setBayPolicy b priority.toNat cap.toNat u z restore s) := by
  cases restore <;> simp [replySetBayPolicy, named, asFirst]

/-- A request that names what does not exist, or carries a value that it cannot carry, is answered BAD_ARG (R165). -/
theorem FromManager.badArg {c : Instr} {e : Envelope} {r : Request} {u : Uplink} {s : State}
    (command : c.request? = some (e, r)) (wf : r.wellFormed = true) (manager : FromManager e u s)
    (code : bayRequestCode (requestCode r) = false)
    (h : namesExist r = true → carryOut e r (oneTaken s) = answered .badArg (oneTaken s)) :
    Answers c s s e (requestCode r) 4 [] := by
  obtain ⟨free, arrival, port⟩ := manager
  refine answers_of_reply (t := oneTaken s) (status := .badArg) command wf free (arrival ▸ port) ?_ rfl
  rw [reply, arrival, hasRights, code]
  cases names : namesExist r <;> simp [h, names]

theorem replySetBayPolicy_badArg {restore : Byte} (h : 2 ≤ restore.toNat) (bay priority : Byte) (cap : Word16)
    (uplink zone : Byte) (s : State) : replySetBayPolicy bay priority cap uplink zone restore s = answered .badArg s := by
  have none_ : asFirst restore = none := by
    have zero : restore ≠ 0 := by rintro rfl; simp at h
    have one : restore ≠ 1 := by rintro rfl; simp at h
    rw [asFirst, if_neg zero, if_neg one]
  rw [replySetBayPolicy, none_]
  cases asBay bay <;> cases asUplink uplink <;> cases asZone zone <;> rfl

/-- Settles O32. -/
theorem bayPolicySet : Obligations.BayPolicySet := by
  refine ⟨fun e u b priority cap v z restore s manager => ?_,
    fun e u bay priority cap uplink zone restore s manager bad => ?_⟩
  · have names : namesExist (.setBayPolicy (byteOf b.val) priority cap (byteOf v.val) (byteOf z.val)
        (if restore then 0 else 1)) = true := by simp [namesExist]
    have set := setBayPolicy_set b priority cap v z restore (oneTaken s)
    have answer := manager.answers (c := .setBayPolicy e (byteOf b.val) priority cap (byteOf v.val) (byteOf z.val)
      (if restore then 0 else 1)) rfl rfl names rfl (replySetBayPolicy_set b priority cap v z restore (oneTaken s))
      (set.frame .svcQueue (by decide))
    generalize setBayPolicy b priority.toNat cap.toNat v z restore (oneTaken s) = t at *
    obtain ⟨record, counted, kept, other, law, place, head, others, reported, frame⟩ := set
    rw [PolicyWritten, storedCap_toNat] at record
    refine ⟨_, answer, record, counted, fun same => (kept same).untaken, other, fun waits => ?_, others, reported.flags,
      reported.alerts, frame.untaken⟩
    obtain ⟨members, rest, stamp⟩ := place waits
    obtain ⟨idle, busy⟩ := head waits
    exact ⟨law waits, members, rest, stamp, idle, busy⟩
  · have refused := manager.badArg (c := .setBayPolicy e bay priority cap uplink zone restore) rfl rfl rfl
    refine refused fun names => ?_
    rcases bad with bad | bad | bad | bad
    · simp [namesExist, asBay_eq_none bad] at names
    · simp [namesExist, asUplink_eq_none bad] at names
    · simp [namesExist, asZone_eq_none bad] at names
    · exact replySetBayPolicy_badArg bad bay priority cap uplink zone (oneTaken s)

end Sys2Proof.Machine
end

section
/-! SUPPORT. The alerts of newly set flags (O7). -/

namespace Sys2Proof.Machine

theorem enterState_alerted (b : Bay) (st : BayState) (s : State) : Alerted (.bayChange b) s (enterState b st s) :=
  (raise_alerted (.bayChange b) _).before (updBay_keeps b _ s)

/-! ### Fans (R118) -/

theorem raiseFanFault_failed (f : Fan) (s : State) : raiseFanFault f .running .failed s = raise (.fanFault f false) s := rfl

theorem raiseFanFault_recovered (f : Fan) (s : State) : raiseFanFault f .failed .running s = raise (.fanFault f true) s :=
  rfl

theorem raiseFanFault_fanRec (f g : Fan) (was now : FanState) (s : State) :
    fanRec (raiseFanFault f was now s) g = fanRec s g := by
  unfold raiseFanFault
  split
  · exact (raise_keeps _ s).fanRec_eq g
  · exact (raise_keeps _ s).fanRec_eq g
  · rfl

/-- The state that a window's end leaves the fan in decides on the report (R116, R118). -/
theorem tachWindow_state (f : Fan) (s : State) :
    (fanRec (tachWindow f s) f).state = (endWindow (fanIdentity s f) (fanRec s f)).state := by
  rw [tachWindow, raiseFanFault_fanRec, fanRec_updFan_self]
  rfl

theorem tachWindow_alerted {f : Fan} {s : State} :
    ((fanRec s f).state = .running → (fanRec (tachWindow f s) f).state = .failed →
        Alerted (.fanFault f false) s (tachWindow f s))
      ∧ ((fanRec s f).state = .failed → (fanRec (tachWindow f s) f).state = .running →
        Alerted (.fanFault f true) s (tachWindow f s)) := by
  rw [tachWindow_state]
  refine ⟨fun was now => ?_, fun was now => ?_⟩
  · rw [tachWindow, was, now, raiseFanFault_failed]
    exact (raise_alerted _ _).before (updFan_keeps f _ s)
  · rw [tachWindow, was, now, raiseFanFault_recovered]
    exact (raise_alerted _ _).before (updFan_keeps f _ s)

/-! ### The other events -/

/-- A link that comes up may serve its own alert (R148). -/
theorem linkComesUp_alerted (u : Uplink) (s : State) : Alerted (.uplinkChange u .linkUp) s (linkComesUp u s) :=
  (raise_alerted _ _).before (updUplink_keeps u _ s)

theorem completeRamp_alerted (b : Bay) (s : State) : Alerted (.bayChange b) s (completeRamp b s) :=
  (((enterState_alerted b .poweredOn _).before (updBay_keeps b _ s)).after (updThermal_keeps b _ _)).after
    (rampEndPowered_keeps b _)

theorem dropOverflow_alerted (b : Bay) (s : State) : Alerted (.translateDrop b false) s (dropOverflow b s) :=
  (raise_alerted _ _).before (updBay_keeps b _ s)

/-- A station that finds no empty place (R134). -/
theorem learn_alerted {b : Bay} {a : Addr} {tag c : Nat} {s : State} (station : isGroup a = false)
    (unknown : findStation s a c = none) (full : lowestEmpty s = none) :
    Alerted (.stationFull b) s (learn b a tag c s) := by
  have missed : KeepsAllBut [.learnMiss] s (updStb (fun x => { x with learnMiss := satAdd x.learnMiss 1 Config.top32 }) s) := by
    intro p hp
    cases p <;> first | (simp at hp; done) | simp [Part.same]
  rw [learn, if_neg (by simp [station]), unknown]
  simp only [full]
  exact (raise_alerted _ _).before missed

/-- The grace is over and no bay can be shed: the run of shedding stops before it has shed one (R76, R82). -/
theorem endGrace_alerted {s : State} (choose : chooseShed s = none) :
    Alerted (.emergency .exhausted .none) s (endGrace s) := by
  have begun : endGrace s = enterExhausted
      (updEmg (fun e => { e with runShed := false }) (updEmg (fun e => { e with graceTimer := none }) s)) := by
    have none_ : chooseShed (updEmg (fun e => { e with runShed := false })
      (updEmg (fun e => { e with graceTimer := none }) s)) = none := choose
    rw [endGrace, beginRun, handShed, none_]
  have quiet : endRun (updEmg (fun e => { e with phase := .exhausted, shedBay := none })
      (updEmg (fun e => { e with runShed := false }) (updEmg (fun e => { e with graceTimer := none }) s)))
      = updEmg (fun e => { e with runShed := false }) (updEmg (fun e => { e with phase := .exhausted, shedBay := none })
        (updEmg (fun e => { e with runShed := false }) (updEmg (fun e => { e with graceTimer := none }) s))) :=
    endRun_quiet rfl
  rw [begun, enterExhausted, quiet]
  exact ((((raise_alerted _ _).before (updEmg_keeps _ _)).before (updEmg_keeps _ _)).before (updEmg_keeps _ _)).before
    (updEmg_keeps _ s)

/-- Settles O7, event by event. -/
theorem alertsFollowNewFlags : Obligations.AlertsFollowNewFlags := by
  refine ⟨raise_alerted, fun f s run timer => ?_, fun u s run down => ?_, fun b s run ramping => ?_,
    fun b f s run sound dst on overflow => ?_, fun b a tag c s => learn_alerted, fun s run phase timer choose => ?_,
    fun e u b s manager fault => ?_⟩
  · have result : exec (.tachWindowExpiry f) s = .next (tachWindow f s) := by
      simp [exec, execTachWindowExpiry, whenRunning_running run, Option.isSome_iff_ne_none.mpr timer]
    exact ⟨_, result, tachWindow_alerted⟩
  · have pins := updPins_keeps (fun p => { p with link := Bank.put p.link u true }) s
    have result : exec (.linkUp u) s
        = .next (linkComesUp u (updPins (fun p => { p with link := Bank.put p.link u true }) s)) := by
      simp [exec, execLinkUp, linkUpReported, isRunning, run, down]
    exact ⟨_, result, (linkComesUp_alerted u _).before pins⟩
  · have pins := updPins_keeps (fun p => { p with bayPg := Bank.put p.bayPg b true }) s
    have result : exec (.bayPgAsserted b) s
        = .next (completeRamp b (updPins (fun p => { p with bayPg := Bank.put p.bayPg b true }) s)) := by
      simp [exec, execBayPgAsserted, bayPgAsserted, isRunning, run, ramping]
    exact ⟨_, result, (completeRamp_alerted b _).before pins⟩
  · have result : exec (.bayPortFrame b f) s = .next (dropOverflow b s) := by
      rw [bayPortFrame_result run sound, bayFrame_upstream (not_service_of_dst dst) on, upstream_overflow dst overflow]
    exact ⟨_, result, dropOverflow_alerted b s⟩
  · have result : exec .graceTimerExpiry s = .next (endGrace s) := by
      simp [exec, execGraceTimerExpiry, whenRunning_running run, Option.isSome_iff_ne_none.mpr timer, phase]
    exact ⟨_, result, endGrace_alerted choose⟩
  · have names : namesExist (.clearFault (byteOf b.val)) = true := by simp [namesExist]
    have frame := enterState_keeps b (standbyState (oneTaken s) b) (oneTaken s)
    have alerted := enterState_alerted b (standbyState (oneTaken s) b) (oneTaken s)
    have answer := manager.answers (c := .clearFault e (byteOf b.val)) rfl rfl names rfl
      (replyClearFault_fault (s := oneTaken s) fault) (frame .svcQueue (by decide))
    exact ⟨_, answer, alerted⟩

end Sys2Proof.Machine
end

section
/-! SUPPORT. The checks of a taken service frame (O45). -/

namespace Sys2Proof.Machine

/-! ### Rights (R166) -/

theorem bayRequestCode_iff {code : Nat} (known : code ≤ 37) : bayRequestCode code = true ↔ 33 ≤ code := by
  simp [bayRequestCode, known]

theorem requestCode_range (r : Request) : 1 ≤ requestCode r ∧ requestCode r ≤ 37 := by
  cases r <;> simp [requestCode]

section
variable {e : Envelope} {r : Request} {s : State}

/-- A bay that sends a manager's request is counted as refused (R166). -/
theorem reply_deniedBay {b : Bay} (arrival : e.arrival = .bay b) (code : requestCode r < 33) :
    reply e r s = answered .denied (countRefused (.bay b) s) := by
  have rights : bayRequestCode (requestCode r) = false := by
    rw [Bool.eq_false_iff, ne_eq, bayRequestCode_iff (requestCode_range r).2]
    omega
  simp [reply, denied, hasRights, arrival, rights]

theorem reply_deniedUplink {u : Uplink} (arrival : e.arrival = .uplink u) (code : 33 ≤ requestCode r) :
    reply e r s = answered .denied s := by
  have rights := (bayRequestCode_iff (requestCode_range r).2).mpr code
  simp [reply, denied, hasRights, arrival, rights]

theorem reply_unnamed (rights : hasRights e.arrival (requestCode r) = true) (names : namesExist r = false) :
    reply e r s = answered .badArg s := by simp [reply, rights, names]

end

/-! ### A frame's checks (R165) -/

theorem takeFrame_head {s : State} {f : SvcFrame} (ready : serviceReady s = true)
    (head : s.fbm.svc.frames.head? = some f) : takeFrame s = serveFrame f (svcPop s) := by
  obtain ⟨rest, frames⟩ := List.head?_eq_some_iff.mp head
  simp [takeFrame, ready, frames]

theorem portRefuses_svcPop (s : State) (p : Port) : portRefuses (svcPop s) p = portRefuses s p := by
  have frame := svcPop_keeps s
  cases p with
  | bay b => simp only [portRefuses, frame.bayState_eq b]
  | uplink u => simp only [portRefuses, frame.uplinkRec_eq u]

/-- The request that a frame's code and body spell has that code (R186). -/
theorem requestCode_of_read {code : Nat} {body : List Byte} {r : Request} (h : readRequest code body = some r) :
    requestCode r = code := by
  unfold readRequest at h
  split at h
  · cases h
  · simp only at h
    split at h <;> cases h <;> rfl

theorem readRequest_length {code : Nat} {body : List Byte} (h : body.length ≠ bodyLengthOf code body) :
    readRequest code body = none := if_pos h

section
variable {f : SvcFrame} {u : State}

theorem serveFrame_refused (h : f.barred = true ∨ portRefuses u f.arrival = true) :
    serveFrame f u = countRefused f.arrival u := if_pos (by simpa [frameRefused] using h)

variable (unbarred : f.barred = false) (open_ : portRefuses u f.arrival = false)
include unbarred open_

theorem serveFrame_unsound (h : ¬(headerVersion f.frame = 1 ∧ lengthAgrees f.frame = true)) :
    serveFrame f u = respond (envelopeOf f) (headerCode f.frame) (answered .length u) := by
  have failed : headerVersion f.frame ≠ 1 ∨ lengthAgrees f.frame = false := by
    rwa [not_and_or, Bool.not_eq_true] at h
  rw [serveFrame, if_neg (by simp [frameRefused, unbarred, open_]), if_pos failed]

variable (sound : headerVersion f.frame = 1 ∧ lengthAgrees f.frame = true)
include sound

theorem serveFrame_sound : serveFrame f u = if headerKind f.frame ≠ 1 then countRefused f.arrival u
    else respond (envelopeOf f) (headerCode f.frame) (replyFrame f u) := by
  rw [serveFrame, if_neg (by simp [frameRefused, unbarred, open_]), if_neg (by simp [sound])]
  rfl

end

section
variable {f : SvcFrame} {u : State} {code : Nat} (isCode : headerCode f.frame = code)
include isCode

theorem replyFrame_unknown (h : code = 0 ∨ 37 < code) : replyFrame f u = answered .unknownCommand u := by
  have unknown : knownCode code = false := by
    rw [knownCode, decide_eq_false_iff_not]; omega
  simp [replyFrame, isCode, unknown]

variable (known : 1 ≤ code ∧ code ≤ 37)
include known

theorem replyFrame_deniedBay {b : Bay} (arrival : f.arrival = .bay b) (h : ¬33 ≤ code) :
    replyFrame f u = answered .denied (countRefused (.bay b) u) := by
  have rights : bayRequestCode code = false := by
    rwa [Bool.eq_false_iff, ne_eq, bayRequestCode_iff known.2]
  simp [replyFrame, isCode, knownCode, known, hasRights, arrival, rights, denied, envelopeOf]

theorem replyFrame_deniedUplink {v : Uplink} (arrival : f.arrival = .uplink v) (h : 33 ≤ code) :
    replyFrame f u = answered .denied u := by
  have rights := (bayRequestCode_iff known.2).mpr h
  simp [replyFrame, isCode, knownCode, known, hasRights, arrival, rights, denied, envelopeOf]

variable (rights : hasRights f.arrival code = true)
include rights

/-- A frame of a sender with rights is read (R165, checks 5 and 6). -/
theorem replyFrame_mislength (h : (frameBody f.frame).length ≠ bodyLengthOf code (frameBody f.frame)) :
    replyFrame f u = answered .length u := by
  simp [replyFrame, isCode, knownCode, known, rights, readRequest_length h]

theorem replyFrame_unnamed {r : Request} (read : readRequest code (frameBody f.frame) = some r)
    (names : namesExist r = false) : replyFrame f u = answered .badArg u := by
  have spelled : hasRights (envelopeOf f).arrival (requestCode r) = true := by
    rw [requestCode_of_read read]; exact rights
  have replied : replyFrame f u = reply (envelopeOf f) r u := by
    simp [replyFrame, isCode, knownCode, known, rights, read]
  exact replied.trans (reply_unnamed spelled names)

end

theorem hasRights_of {p : Port} {code : Nat} (known : code ≤ 37)
    (h : (∃ b, p = .bay b ∧ 33 ≤ code) ∨ (∃ v, p = .uplink v ∧ ¬33 ≤ code)) : hasRights p code = true := by
  rcases h with ⟨b, rfl, h⟩ | ⟨v, rfl, h⟩ <;> rw [← bayRequestCode_iff known] at h <;> simp [hasRights, h]

/-! ### A port that takes no service frames (R21, R151) -/

theorem countRefused_svc (p : Port) (s : State) : (countRefused p s).fbm = s.fbm := by cases p <;> rfl

theorem receiveFrame_refused {e : Envelope} {r : Request} {s : State} (wf : r.wellFormed = true)
    (link : ∀ u, e.arrival = .uplink u → (uplinkRec s u).link = true) (refuses : portRefuses s e.arrival = true) :
    receiveFrame e.arrival (requestFrame s e r) s = countRefused e.arrival s := by
  have sound := (requestFrame_sound s e r wf).1
  have service := requestFrame_isServiceFrame s e r
  cases arrival : e.arrival with
  | bay b =>
    rw [arrival] at refuses
    have closed : accepting (bayState s b) = false := by simpa [portRefuses] using refuses
    simp [receiveFrame, bayFrame, sound, service, closed]
  | uplink u =>
    rw [arrival] at refuses
    have closed : ((uplinkRec s u).enabled && (uplinkRec s u).right) = false := by
      simpa only [portRefuses, Bool.not_eq_true'] using refuses
    simp [receiveFrame, uplinkFrame, sound, service, link u arrival, closed]

/-- The SVE does not take the request where it stands, which arrives (log 4). -/
theorem serveCommand_arrives {e : Envelope} {r : Request} {s : State} (run : s.mode = .running)
    (h : NotAtHead e r s) : serveCommand e r s = requestArrives e r s := by
  have other : ¬(serviceReady s && headSpells e r s) = true := by
    rcases h with pending | h
    · simp [serviceReady, pending]
    · cases frames : s.fbm.svc.frames with
      | nil => simp [headSpells, frames]
      | cons f rest => simp [headSpells, frames, h f (by simp [frames])]
  rw [serveCommand, if_neg other, whenRunning_running run]

/-- Settles O45, check by check. -/
theorem serviceFramesCheckedInOrder : Obligations.ServiceFramesCheckedInOrder := by
  refine ⟨fun f s ready head => ?_, fun c e r b s command wf sender code => ?_,
    fun c e r u s command wf manager => ⟨fun code => ?_, fun code names => ?_⟩,
    fun c e r s command wf run waits link refuses => ?_⟩
  · have taken : exec .serviceFrameTaken s = .next (serveFrame f (svcPop s)) :=
      congrArg Host.Outcome.next (takeFrame_head ready head)
    rw [taken, ← portRefuses_svcPop]
    generalize svcPop s = u
    refine ⟨fun h => by rw [serveFrame_refused h], fun unbarred open_ => ⟨fun h => ?_, fun sound kind => ?_,
      fun sound kind unknown => ?_, fun sound kind low high => ⟨fun b arrival h => ?_, fun v arrival h => ?_,
        fun entitled => ⟨fun h => ?_, fun r read names => ?_⟩⟩⟩⟩
    · rw [serveFrame_unsound unbarred open_ h, respond_answered]
      rfl
    all_goals rw [serveFrame_sound unbarred open_ sound]
    · rw [if_pos kind]
    all_goals rw [if_neg (not_not.mpr kind)]
    · rw [replyFrame_unknown rfl unknown, respond_answered]
      rfl
    · rw [replyFrame_deniedBay rfl ⟨low, high⟩ arrival h, respond_answered]
      rfl
    · rw [replyFrame_deniedUplink rfl ⟨low, high⟩ arrival h, respond_answered]
      rfl
    · rw [replyFrame_mislength rfl ⟨low, high⟩ (hasRights_of high entitled) h, respond_answered]
      rfl
    · rw [replyFrame_unnamed rfl ⟨low, high⟩ (hasRights_of high entitled) read names, respond_answered]
      rfl
  · obtain ⟨free, arrival, port⟩ := sender
    have answer := answers_of_reply command (request_wellFormed command wf).2 free (arrival ▸ port)
      (reply_deniedBay (s := oneTaken s) arrival code) rfl
    exact answer
  · obtain ⟨free, arrival, port⟩ := manager
    have answer := answers_of_reply command (request_wellFormed command wf).2 free (arrival ▸ port)
      (reply_deniedUplink (s := oneTaken s) arrival code) rfl
    exact answer
  · have off : bayRequestCode (requestCode r) = false := by
      rw [Bool.eq_false_iff, ne_eq, bayRequestCode_iff (requestCode_range r).2]
      omega
    exact manager.badArg command (request_wellFormed command wf).2 off fun exist => by simp [names] at exist
  · rw [exec_request command, serveCommand_arrives run waits, requestArrives, frameOfRequest_eq,
      receiveFrame_refused (request_wellFormed command wf).2 link refuses]
    simp only [countRefused_svc, Bool.and_assoc, Bool.and_not_self, Bool.and_false, Bool.false_eq_true, if_false]

end Sys2Proof.Machine
end

section
/-! SUPPORT. A request's frame read back, and its taking (O44). -/

namespace Sys2Proof.Machine

/-! ### Bytes (R182, R184) -/

theorem byteAt_append (x l : List Byte) (i : Nat) : byteAt (x ++ l) (x.length + i) = byteAt l i := by
  rw [byteAt, List.getD_append_right _ _ _ _ (by omega), Nat.add_sub_cancel_left, byteAt]

theorem readAddr_append (x l : List Byte) (i : Nat) : readAddr (x ++ l) (x.length + i) = readAddr l i := by
  simp only [readAddr, read32, read16, Nat.add_assoc, byteAt_append]

theorem readWord16_append (x l : List Byte) (i : Nat) : readWord16 (x ++ l) (x.length + i) = readWord16 l i := by
  simp only [readWord16, read16, Nat.add_assoc, byteAt_append]

theorem two_bytes (n : Nat) (h : n < 65536) : (byteOf (n / 256)).toNat * 256 + (byteOf n).toNat = n := by
  simp only [byteOf, BitVec.toNat_ofNat]
  omega

@[simp] theorem read16_encode16 (n : Nat) (l : List Byte) (h : n < 65536) : read16 (encode16 n ++ l) 0 = n :=
  two_bytes n h

theorem word16_of_bytes (w : Word16) : BitVec.ofNat 16 ((byteOf (w.toNat / 256)).toNat * 256 + (byteOf w.toNat).toNat) = w := by
  rw [two_bytes _ w.isLt, BitVec.ofNat_toNat, BitVec.setWidth_eq]

theorem readWord16_encode16 (w : Word16) (l : List Byte) : readWord16 (encode16 w.toNat ++ l) 0 = w :=
  word16_of_bytes w

/-! ### A request's body (R186) -/

theorem readPoints_flatten (points : List (Byte × Word16)) :
    readPoints (points.map fun p => p.1 :: encode16 p.2.toNat).flatten = points := by
  induction points with
  | nil => rfl
  | cons p rest ih =>
    simp only [List.map_cons, List.flatten_cons, encode16, List.cons_append, List.nil_append, readPoints]
    rw [word16_of_bytes]
    exact congrArg _ ih

theorem length_points (points : List (Byte × Word16)) :
    (points.map fun p => p.1 :: encode16 p.2.toNat).flatten.length = 3 * points.length := by
  induction points with
  | nil => rfl
  | cons p rest ih =>
    simp only [List.map_cons, List.flatten_cons, List.length_append, List.length_cons, length_encode16, ih]
    omega

theorem tab_byteAt (image : Image) : (Bank.tab fun i => byteAt image.toList i.val : Image) = image := by
  ext i h
  simp [Bank.tab, byteAt]

/-- Where the length is the one that the command takes, the fields are read in their places. -/
theorem readRequest_loadCurve {body : List Byte} (h : body.length = 2 + 3 * (byteAt body 1).toNat) :
    readRequest 23 body = some (.loadCurve (byteAt body 0) (readPoints (body.drop 2))) := if_neg (not_not.mpr h)

theorem readRequest_setAlertTarget {body : List Byte} (h : body.length = 8) :
    readRequest 12 body = some (.setAlertTarget (byteAt body 0) (byteAt body 1) (readAddr body 2)) :=
  if_neg (not_not.mpr h)

theorem readRequest_addStatic {body : List Byte} (h : body.length = 9) :
    readRequest 28 body = some (.addStatic (readAddr body 0) (byteAt body 6) (readWord16 body 7)) :=
  if_neg (not_not.mpr h)

theorem readRequest_removeStatic {body : List Byte} (h : body.length = 8) :
    readRequest 29 body = some (.removeStatic (readAddr body 0) (readWord16 body 6)) := if_neg (not_not.mpr h)

/-- A well-formed request is read back from its body. -/
theorem readRequest_requestBody {r : Request} (wf : r.wellFormed = true) :
    readRequest (requestCode r) (requestBody r) = some r := by
  cases r with
  | loadCurve zone points =>
    have count : (byteOf points.length).toNat = points.length := byteOf_toNat (by simpa [Request.wellFormed] using wf)
    have length : (requestBody (.loadCurve zone points)).length = 2 + 3 * (byteOf points.length).toNat := by
      rw [count, requestBody, List.length_append, length_points]
      rfl
    have read := readRequest_loadCurve (body := requestBody (.loadCurve zone points)) length
    exact read.trans (congrArg (fun x => some (Request.loadCurve zone x)) (readPoints_flatten points))
  | setAlertTarget presence uplink address =>
    have own : readAddr ([presence, uplink] ++ encodeAddr address) 2 = address :=
      (readAddr_append [presence, uplink] _ 0).trans (by simpa using readAddr_encodeAddr address [])
    have read := readRequest_setAlertTarget (body := requestBody (.setAlertTarget presence uplink address)) rfl
    exact read.trans (congrArg (fun x => some (Request.setAlertTarget presence uplink x)) own)
  | addStatic address bay bladeTag =>
    have own : readAddr (requestBody (.addStatic address bay bladeTag)) 0 = address := by
      simp only [requestBody, List.append_assoc, readAddr_encodeAddr]
    have tag : readWord16 (requestBody (.addStatic address bay bladeTag)) 7 = bladeTag := word16_of_bytes bladeTag
    have read := readRequest_addStatic (body := requestBody (.addStatic address bay bladeTag)) rfl
    rw [own, tag] at read
    exact read
  | removeStatic address chassisTag =>
    have own : readAddr (requestBody (.removeStatic address chassisTag)) 0 = address := by
      simp only [requestBody, readAddr_encodeAddr]
    have tag : readWord16 (requestBody (.removeStatic address chassisTag)) 6 = chassisTag := word16_of_bytes chassisTag
    have read := readRequest_removeStatic (body := requestBody (.removeStatic address chassisTag)) rfl
    rw [own, tag] at read
    exact read
  | announce image => simp [readRequest, requestCode, requestBody, bodyLengthOf, tab_byteAt]
  | _ =>
    simp [readRequest, requestCode, requestBody, bodyLengthOf, byteAt, readWord16, read16, encode16, word16_of_bytes]

/-! ### A request's frame (R163, R183) -/

section
variable (s : State) (e : Envelope) (r : Request)

/-- The frame's bytes after its addresses. -/
def requestRest : List Byte :=
  (if e.tag = 0 then [] else encode16 0xD381 ++ encode16 e.tag.toNat) ++ encode16 0xD380
    ++ [1, 1, byteOf (requestCode r), 0] ++ encode16 e.requestTag.toNat ++ encode16 (requestBody r).length
    ++ requestBody r ++ servicePadding e.tag.toNat (requestBody r).length

theorem requestFrame_bytes : (requestFrame s e r).bytes
    = encodeAddr (serviceAddress s.sve.chassisNumber) ++ (encodeAddr e.source ++ requestRest e r) := by
  simp only [requestFrame, requestRest, List.append_assoc]

theorem frameSrc_requestFrame : frameSrc (requestFrame s e r) = e.source := by
  rw [frameSrc, requestFrame_bytes]
  exact (readAddr_append (encodeAddr (serviceAddress s.sve.chassisNumber)) _ 0).trans (readAddr_encodeAddr _ _)

/-- The tag field stands in the frame exactly where the tag is not 0 (R182). -/
theorem hasTagField_requestFrame : hasTagField (requestFrame s e r) = decide (e.tag ≠ 0) := by
  by_cases tagged : e.tag ≠ 0
  · have field : read16 (requestFrame s e r).bytes 12 = 0xD381 := by
      simp only [requestFrame, if_neg tagged]
      exact two_bytes 0xD381 (by omega)
    rw [decide_eq_true tagged, hasTagField, field, Config.tagType, beq_self_eq_true]
  · have field : read16 (requestFrame s e r).bytes 12 = 0xD380 := by
      simp only [requestFrame, if_pos (not_not.mp tagged)]
      exact two_bytes 0xD380 (by omega)
    rw [decide_eq_false tagged, hasTagField, field, Config.tagType, beq_eq_false_iff_ne]
    omega

/-- The frame's header and body (R183). -/
theorem framePayload_requestFrame : framePayload (requestFrame s e r)
    = [1, 1, byteOf (requestCode r), 0] ++ (encode16 e.requestTag.toNat ++ (encode16 (requestBody r).length
      ++ (requestBody r ++ servicePadding e.tag.toNat (requestBody r).length))) := by
  rw [framePayload, hasTagField_requestFrame]
  by_cases tagged : e.tag ≠ 0
  · rw [decide_eq_true tagged, if_pos rfl]
    simp only [requestFrame, if_neg tagged, List.append_assoc]
    rfl
  · rw [decide_eq_false tagged, if_neg (by simp)]
    simp only [requestFrame, if_pos (not_not.mp tagged), List.append_assoc]
    rfl

theorem headerVersion_requestFrame : headerVersion (requestFrame s e r) = 1 := by
  rw [headerVersion, framePayload_requestFrame]; rfl

theorem headerKind_requestFrame : headerKind (requestFrame s e r) = 1 := by
  rw [headerKind, framePayload_requestFrame]; rfl

theorem headerCode_requestFrame : headerCode (requestFrame s e r) = requestCode r := by
  rw [headerCode, framePayload_requestFrame]
  exact byteOf_toNat (by have := (requestCode_range r).2; omega)

theorem headerTag_requestFrame : headerTag (requestFrame s e r) = e.requestTag := by
  rw [headerTag, framePayload_requestFrame]
  exact (readWord16_append [1, 1, byteOf (requestCode r), 0] _ 0).trans (readWord16_encode16 _ _)

variable {e r} (wfr : r.wellFormed = true)
include wfr

theorem headerBodyLength_requestFrame : headerBodyLength (requestFrame s e r) = (requestBody r).length := by
  have short := length_requestBody r wfr
  rw [headerBodyLength, framePayload_requestFrame]
  exact two_bytes _ (by omega)

theorem frameBody_requestFrame : frameBody (requestFrame s e r) = requestBody r := by
  rw [frameBody, headerBodyLength_requestFrame s wfr, framePayload_requestFrame]
  exact List.take_left

theorem lengthAgrees_requestFrame : lengthAgrees (requestFrame s e r) = true := by
  rw [lengthAgrees, headerBodyLength_requestFrame s wfr, frameLength_requestFrame, hasTagField_requestFrame]
  by_cases tagged : e.tag ≠ 0
  · rw [decide_eq_true tagged, if_neg tagged]
    exact beq_self_eq_true _
  · rw [decide_eq_false tagged, if_pos (not_not.mp tagged)]
    exact beq_self_eq_true _

end

/-- The tag is read back as the port has received it: a bay's has 12 bits (R120). -/
theorem frameTag_requestFrame (s : State) {e : Envelope} (r : Request) (wf : e.wellFormed = true) :
    frameTag e.arrival (requestFrame s e r) = e.tag.toNat := by
  unfold frameTag
  rw [hasTagField_requestFrame]
  by_cases tagged : e.tag ≠ 0
  · have wide := e.tag.isLt
    have tag : read16 (requestFrame s e r).bytes 14 = e.tag.toNat := by
      simp only [requestFrame, if_neg tagged]
      exact two_bytes _ (by omega)
    rw [decide_eq_true tagged, if_pos rfl, tag]
    cases arrival : e.arrival with
    | bay b =>
      have narrow : e.tag.toNat < 4096 := by simpa [Envelope.wellFormed, arrival] using wf
      exact Nat.mod_eq_of_lt narrow
    | uplink u => exact Nat.mod_eq_of_lt wide
  · rw [decide_eq_false tagged, if_neg (by simp), not_not.mp tagged]
    rfl

/-- The frame of a request as it waits in the service input queue. -/
def requestWaiting (s : State) (e : Envelope) (r : Request) : SvcFrame :=
  { arrival := e.arrival, frame := requestFrame s e r }

theorem envelopeOf_requestWaiting (s : State) {e : Envelope} (r : Request) (wf : e.wellFormed = true) :
    envelopeOf (requestWaiting s e r) = e := by
  have tag : frameTag (requestWaiting s e r).arrival (requestWaiting s e r).frame = e.tag.toNat :=
    frameTag_requestFrame s r wf
  rw [envelopeOf, tag, requestWaiting, frameSrc_requestFrame, headerTag_requestFrame, BitVec.ofNat_toNat,
    BitVec.setWidth_eq]

section
variable (s : State) {e : Envelope} {r : Request} (wfe : e.wellFormed = true) (wfr : r.wellFormed = true)
include wfe wfr

/-- The frame spells its request. -/
theorem spells_requestWaiting : spells (requestWaiting s e r) e r = true := by
  have version : headerVersion (requestWaiting s e r).frame = 1 := headerVersion_requestFrame s e r
  have length : lengthAgrees (requestWaiting s e r).frame = true := lengthAgrees_requestFrame s wfr
  have kind : headerKind (requestWaiting s e r).frame = 1 := headerKind_requestFrame s e r
  have code : headerCode (requestWaiting s e r).frame = requestCode r := headerCode_requestFrame s e r
  have body : frameBody (requestWaiting s e r).frame = requestBody r := frameBody_requestFrame s wfr
  have unbarred : (requestWaiting s e r).barred = false := rfl
  simp [spells, envelopeOf_requestWaiting s r wfe, unbarred, version, length, kind, code, body,
    readRequest_requestBody wfr, kindRequest]

theorem replyFrame_requestWaiting (u : State) : replyFrame (requestWaiting s e r) u = reply e r u := by
  have known : knownCode (requestCode r) = true := by
    rw [knownCode, decide_eq_true_eq]
    exact requestCode_range r
  have code : headerCode (requestWaiting s e r).frame = requestCode r := headerCode_requestFrame s e r
  have body : frameBody (requestWaiting s e r).frame = requestBody r := frameBody_requestFrame s wfr
  have arrival : (requestWaiting s e r).arrival = e.arrival := rfl
  simp only [replyFrame, envelopeOf_requestWaiting s r wfe, code, body, arrival, known, readRequest_requestBody wfr]
  cases rights : hasRights e.arrival (requestCode r) <;> simp [reply, rights]

/-- The taking of the frame is the taking of the request (R164, R165). -/
theorem serveFrame_requestWaiting (u : State) : serveFrame (requestWaiting s e r) u = serve e r u := by
  have arrival : (requestWaiting s e r).arrival = e.arrival := rfl
  have code : headerCode (requestWaiting s e r).frame = requestCode r := headerCode_requestFrame s e r
  have kind : headerKind (requestWaiting s e r).frame = 1 := headerKind_requestFrame s e r
  cases refuses : portRefuses u e.arrival with
  | true => rw [serveFrame_refused (.inr (arrival ▸ refuses)), serve, if_pos refuses, arrival]
  | false =>
    rw [serveFrame_sound (f := requestWaiting s e r) rfl refuses
      ⟨headerVersion_requestFrame s e r, lengthAgrees_requestFrame s wfr⟩,
      if_neg (not_not.mpr kind), envelopeOf_requestWaiting s r wfe, code,
      replyFrame_requestWaiting s wfe wfr, serve, refuses, if_neg (by simp)]

end

/-! ### The arrival (R21, R151, R157) -/

section
variable {s : State} {e : Envelope} {r : Request}

theorem portFrame_result (run : s.mode = .running) (p : Port) (f : RxFrame) :
    exec (portFrame p f) s = .next (receiveFrame p f s) := by
  cases p with
  | bay b => exact congrArg Host.Outcome.next (whenRunning_running run)
  | uplink u => exact congrArg Host.Outcome.next (whenRunning_running run)

theorem running_of_ready (ready : serviceReady s = true) : s.mode = .running := by
  simp only [serviceReady, isRunning, Bool.and_eq_true, beq_iff_eq] at ready
  exact ready.1

variable (wfr : r.wellFormed = true) (port : PortOpen e.arrival s)
include wfr port

theorem requestArrives_offered : requestArrives e r s
    = if serviceReady s && s.fbm.svc.frames.isEmpty
          && !(offerService e.arrival (requestFrame s e r) s).fbm.svc.frames.isEmpty then
        serve e r (svcPop (offerService e.arrival (requestFrame s e r) s))
      else offerService e.arrival (requestFrame s e r) s := by
  rw [← receiveFrame_request wfr port, ← frameOfRequest_eq]
  rfl

end

/-- Settles O44: the request's frame, where it is taken, is its command. -/
theorem serviceFramesAreTheirCommands : Obligations.ServiceFramesAreTheirCommands := by
  refine ⟨fun c e r s command wf ready head => ?_, fun c e r s command wf ready port empty room => ?_,
    fun c e r s command wf run port waits held => ?_, fun s idle => congrArg Host.Outcome.next ?_⟩
  · obtain ⟨wfe, wfr⟩ := request_wellFormed command wf
    obtain ⟨rest, frames⟩ := List.head?_eq_some_iff.mp head
    have taken : serveCommand e r s = serve e r (svcPop s) := by
      have spelled : headSpells e r s = true := by
        rw [headSpells, frames]
        exact spells_requestWaiting s wfe wfr
      rw [serveCommand, if_pos (by simp [ready, spelled])]
    rw [exec_request command, taken, ← serveFrame_requestWaiting s wfe wfr]
    exact congrArg Host.Outcome.next (takeFrame_head ready head)
  · obtain ⟨wfe, wfr⟩ := request_wellFormed command wf
    have run := running_of_ready ready
    have offered := offerService_offered e.arrival (requestFrame s e r) s
    have notHead : NotAtHead e r s := .inr fun f h => by simp [empty] at h
    have arrives := (serveCommand_arrives run notHead).trans (requestArrives_offered wfr port)
    refine ⟨_, (portFrame_result run _ _).trans (congrArg _ (receiveFrame_request wfr port)), offered, ?_⟩
    obtain ⟨svc, -, frame⟩ := offered.1 room
    generalize offerService e.arrival (requestFrame s e r) s = t at *
    have frames : t.fbm.svc.frames = [requestWaiting s e r] := by rw [svc, empty]; rfl
    have ready' : serviceReady t = true := by
      rw [serviceReady, isRunning, frame.mode_eq, show t.sve.softReset = s.sve.softReset from frame .softReset (by decide)]
      exact ready
    rw [exec_request command, arrives, if_pos (by simp [ready, empty, frames]), ← serveFrame_requestWaiting s wfe wfr]
    exact congrArg Host.Outcome.next (takeFrame_head ready' (by rw [frames]; rfl)).symm
  · obtain ⟨wfe, wfr⟩ := request_wellFormed command wf
    have offered := offerService_offered e.arrival (requestFrame s e r) s
    refine ⟨_, ?_, offered⟩
    rw [exec_request command, serveCommand_arrives run waits, requestArrives_offered wfr port, if_neg]
    rcases held with pending | busy | full
    · simp [serviceReady, pending]
    · simp [busy]
    · have frames : (offerService e.arrival (requestFrame s e r) s).fbm.svc.frames = s.fbm.svc.frames := by
        rw [(offered.2 full).1]
      rw [frames]
      cases s.fbm.svc.frames.isEmpty <;> simp
  · rcases idle with idle | empty
    · simp [takeFrame, idle]
    · simp [takeFrame, empty]

end Sys2Proof.Machine
end
section
/-! SUPPORT. The laws of identity scanning through the engine, the requests, the ends of a scan and the aborts (O58). -/

namespace Sys2Proof.Machine

set_option Elab.async false

/-! ### The law slot by slot -/

/-- A slot's record agrees with its place in the scan request queue and with the scan in flight (R27, R32, R33). -/
structure SlotOrderly (inQueue inFlight : Prop) (r : SlotRec) : Prop where
  queued : inQueue ↔ r.stage = .queued
  flight : inFlight ↔ r.stage = .inFlight
  status : r.status = .scanning ↔ r.stage = .inFlight
  retry : r.retryTimer ≠ none ↔ r.stage = .retryWait
  waits : r.stage = .queued ∨ r.stage = .retryWait → r.status = .none
  announced : r.source = some .announce → r.stage = .idle

/-- The law of scanning, but that a free engine may still have to move. -/
structure ScanOpen (s : State) : Prop where
  nodup : s.ise.queue.Nodup
  slots : ∀ k, SlotOrderly (k ∈ s.ise.queue) (scanning s k = true) (slotRec s k)

theorem scanLaw_iff (s : State) : ScanLaw s ↔ ScanOpen s ∧ (s.ise.scan = none → s.ise.queue = []) :=
  ⟨fun ⟨nodup, queued, flight, status, retry, waits, announced, idle⟩ =>
      ⟨⟨nodup, fun k => ⟨queued k, flight k, status k, retry k, waits k, announced k⟩⟩, idle⟩,
    fun ⟨⟨nodup, slots⟩, idle⟩ =>
      ⟨nodup, fun k => (slots k).queued, fun k => (slots k).flight, fun k => (slots k).status, fun k => (slots k).retry,
        fun k => (slots k).waits, fun k => (slots k).announced, idle⟩⟩

theorem ScanLaw.scanOpen {s : State} (law : ScanLaw s) : ScanOpen s := ((scanLaw_iff s).mp law).1

theorem ScanOpen.congr {l : List Part} {s t : State} (law : ScanOpen s) (h : KeepsAllBut l s t)
    (hl : ∀ p ∈ [Part.slots, .scanQueue, .scan], p ∉ l := by decide) : ScanOpen t := by
  have queue : t.ise.queue = s.ise.queue := h .scanQueue (hl _ (by decide))
  have scan : t.ise.scan = s.ise.scan := h .scan (hl _ (by decide))
  have flight (k) : scanning t k = scanning s k := by unfold scanning idLinesActive; rw [scan]
  refine ⟨queue ▸ law.nodup, fun k => ?_⟩
  rw [queue, flight, h.slotRec_eq k (hl _ (by decide))]
  exact law.slots k

/-- A slot that waits for the engine has status NONE (R32). -/
theorem ScanOpen.queued_status {s : State} (law : ScanOpen s) {k : Slot} (h : k ∈ s.ise.queue) :
    (slotRec s k).status = .none := (law.slots k).waits (.inl ((law.slots k).queued.mp h))

/-! ### The engine moves (R33) -/

/-- The engine's move restores the whole law. -/
theorem ScanOpen.engineTakes {s : State} (law : ScanOpen s) : ScanLaw (engineTakes s) := by
  rw [scanLaw_iff]
  by_cases scan : s.ise.scan = none
  · cases queue : s.ise.queue with
    | nil => rw [engineTakes_empty queue]; exact ⟨law, fun _ => queue⟩
    | cons h rest =>
      have nodup := law.nodup
      rw [queue, List.nodup_cons] at nodup
      have taken := engineTakes_head scan queue
      have newQueue : (Machine.engineTakes s).ise.queue = rest := by rw [taken]; rfl
      have newScan : (Machine.engineTakes s).ise.scan = some { slot := h, timer := 20 } := by rw [taken]; rfl
      have flight (k) : scanning (Machine.engineTakes s) k = true ↔ h = k := by simp [scanning_iff, newScan]
      refine ⟨⟨newQueue ▸ nodup.2, fun k => ?_⟩, fun n => by simp [newScan] at n⟩
      have head := law.slots h
      have waits : (slotRec s h).stage = .queued := head.queued.mp (by simp [queue])
      rw [newQueue, flight, slotRec_engineTakes_head scan queue]
      split
      · next e =>
        subst e
        exact ⟨by simp [nodup.1], by simp, by simp, by simpa [waits] using head.retry, by simp,
          fun a => by simpa [waits] using head.announced a⟩
      · next ne =>
        have own := law.slots k
        have mem : k ∈ s.ise.queue ↔ k ∈ rest := by simp [queue, ne]
        have off : scanning s k = true ↔ h = k := by simp [scanning_iff, scan, Ne.symm ne]
        rwa [mem, off] at own
  · rw [engineTakes_busy scan]
    exact ⟨law, fun n => absurd n scan⟩

/-! ### A slot's record is written -/

/-- A record that agrees with the queue and the scan as the old one does. -/
theorem ScanOpen.write {s : State} {k : Slot} {f : SlotRec → SlotRec} (law : ScanOpen s)
    (own : SlotOrderly (k ∈ s.ise.queue) (scanning s k = true) (f (slotRec s k))) : ScanOpen (updSlot k f s) := by
  refine ⟨law.nodup, fun j => ?_⟩
  rw [show scanning (updSlot k f s) j = scanning s j from rfl, slotRec_updSlot]
  split
  · next e => subst e; exact own
  · exact law.slots j

/-- A record without scanning work, as the slot's scanning stops (R39). -/
theorem ScanOpen.stop {s : State} {k : Slot} {f : SlotRec → SlotRec} (law : ScanOpen s)
    (rests : SlotOrderly False False (f (slotRec s k))) : ScanOpen (updSlot k f (stopScanning k s)) := by
  have queue : (stopScanning k s).ise.queue = s.ise.queue.filter (· ≠ k) := rfl
  have flight (j) : scanning (stopScanning k s) j = true ↔ j ≠ k ∧ scanning s j = true := by
    rw [scanning_iff, scanning_iff, stopScanning, updIse_ise]
    by_cases h : scanning s k = true
    · have own := (scanning_iff s k).mp h
      simp only [h, if_true, own]
      constructor
      · intro n; simp at n
      · rintro ⟨ne, e⟩; exact absurd (Option.some.inj e).symm ne
    · have off := mt (scanning_iff s k).mpr h
      simp only [h]
      constructor
      · rintro e
        refine ⟨fun x => off (x ▸ e), e⟩
      · exact And.right
  have slots (j) : slotRec (stopScanning k s) j = slotRec s j := rfl
  refine ⟨queue ▸ law.nodup.filter _, fun j => ?_⟩
  rw [show scanning (updSlot k f (stopScanning k s)) j = scanning (stopScanning k s) j from rfl, flight,
    updSlot_ise_queue, queue, slotRec_updSlot, slots, slots]
  split
  · next e => subst e; simpa using rests
  · next ne =>
    have own := law.slots j
    simpa [ne] using own

/-- The scan in flight ends as its slot's scanning stops (R30, R31). -/
theorem stopScanning_eq_endTransaction {s : State} {k : Slot} (law : ScanLaw s) (flight : scanning s k = true) :
    stopScanning k s = endTransaction s := by
  have unqueued := law.not_mem_queue flight
  have queue : s.ise.queue.filter (· ≠ k) = s.ise.queue :=
    List.filter_eq_self.mpr fun j hj => by simpa using ne_of_mem_of_not_mem hj unqueued
  rw [stopScanning, updIse, queue, if_pos flight]
  rfl

theorem ScanLaw.endScan {s : State} {k : Slot} {f : SlotRec → SlotRec} (law : ScanLaw s) (flight : scanning s k = true)
    (rests : SlotOrderly False False (f (slotRec s k))) : ScanOpen (updSlot k f (endTransaction s)) :=
  stopScanning_eq_endTransaction law flight ▸ law.scanOpen.stop rests

/-- A resting slot is put at the tail of the queue (R32, R36). -/
theorem ScanOpen.enqueue {s : State} {k : Slot} {f : SlotRec → SlotRec} (law : ScanOpen s)
    (rests : SlotOrderly False False (slotRec s k)) (waits : SlotOrderly True False (f (slotRec s k))) :
    ScanOpen (updIse (fun i => { i with queue := i.queue ++ [k] }) (updSlot k f s)) := by
  have own := law.slots k
  have unqueued : k ∉ s.ise.queue := fun h => by simpa using rests.queued.mpr (own.queued.mp h)
  have unscanned : ¬scanning s k = true := fun h => by simpa using rests.flight.mpr (own.flight.mp h)
  refine ⟨List.nodup_append.mpr ⟨law.nodup, List.nodup_singleton k, fun a ha b hb e => ?_⟩, fun j => ?_⟩
  · exact unqueued (by simp only [List.mem_singleton] at hb; rwa [← hb, ← e])
  · rw [slotRec_updIse j rfl, slotRec_updSlot, updIse_ise, List.mem_append, updSlot_ise_queue, List.mem_singleton]
    change SlotOrderly _ (scanning s j = true) _
    split
    · next e => subst e; simpa [unscanned] using waits
    · next ne => simpa [ne] using law.slots j

/-- A slot that is neither queued nor in flight rests. -/
theorem ScanOpen.rests {s : State} {k : Slot} (law : ScanOpen s)
    (h : ¬((slotRec s k).stage = .queued ∨ (slotRec s k).stage = .inFlight)) :
    SlotOrderly False False (slotRec s k) := by
  rw [not_or] at h
  obtain ⟨-, -, status, retry, waits, announced⟩ := law.slots k
  exact ⟨by simp [h.1], by simp [h.2], status, retry, waits, announced⟩

/-! ### The operations of the engine (R32 to R43) -/

theorem requestScan_scanLaw {s : State} (k : Slot) (law : ScanLaw s) : ScanLaw (requestScan k s) := by
  have requested : ScanLaw (engineTakes (freshRequest k s)) := by
    by_cases busy : (slotRec s k).stage = .queued ∨ (slotRec s k).stage = .inFlight
    · rw [freshRequest_absorbed law busy, scanLaw_iff]
      obtain ⟨queued, flight, status, retry, waits, -⟩ := law.scanOpen.slots k
      exact ⟨law.scanOpen.write ⟨queued, flight, status, retry, waits, fun h => by simp at h⟩,
        ((scanLaw_iff s).mp law).2⟩
    · rw [freshRequest_queued law busy]
      exact (law.scanOpen.enqueue (law.scanOpen.rests busy)
        ⟨by simp [queuedAfresh], by simp [queuedAfresh], by simp [queuedAfresh], by simp [queuedAfresh],
          by simp [queuedAfresh], by simp [queuedAfresh]⟩).engineTakes
  unfold requestScan
  simp only
  split
  · exact scanLaw_congr (reportStatus_keeps k _) (law := requested)
  · exact requested

/-- The record of a slot whose retry pause is over (R36). -/
def requeuedSlot (r : SlotRec) : SlotRec := { r with stage := .queued, retryTimer := none }

theorem queueSlot_retry {s : State} {k : Slot} (stage : (slotRec s k).stage = .retryWait) :
    queueSlot k s = updIse (fun i => { i with queue := i.queue ++ [k] }) (updSlot k requeuedSlot s) := by
  simp only [queueSlot, stage]
  rfl

theorem requeuedSlot_waits {r : SlotRec} (rests : SlotOrderly False False r) (stage : r.stage = .retryWait) :
    SlotOrderly True False (requeuedSlot r) where
  queued := by simp [requeuedSlot]
  flight := by simp [requeuedSlot]
  status := by simpa [requeuedSlot, stage] using rests.status
  retry := by simp [requeuedSlot]
  waits := fun _ => rests.waits (.inr stage)
  announced := fun h => absurd (rests.announced h) (by simp [stage])

theorem retryDue_scanLaw {s : State} {k : Slot} (stage : (slotRec s k).stage = .retryWait) (law : ScanLaw s) :
    ScanLaw (retryDue k s) := by
  have rests := law.scanOpen.rests (k := k) (by simp [stage])
  rw [retryDue, queueSlot_retry stage]
  exact (law.scanOpen.enqueue rests (requeuedSlot_waits rests stage)).engineTakes

theorem resetSlot_rests : SlotOrderly False False resetSlot := by
  constructor <;> simp [resetSlot]

theorem clearSlot_scanLaw {s : State} (k : Slot) (law : ScanLaw s) : ScanLaw (clearSlot k s) :=
  (law.scanOpen.stop (f := fun _ => resetSlot) resetSlot_rests).engineTakes

theorem abortedSlot_rests (r : SlotRec) : SlotOrderly False False (abortedSlot r) where
  queued := by simp [abortedSlot]
  flight := by simp [abortedSlot]
  status := by by_cases h : r.status = .scanning <;> simp [abortedSlot, h]
  retry := by simp [abortedSlot]
  waits := by simp [abortedSlot]
  announced := fun _ => rfl

theorem abortScan_scanLaw {s : State} (k : Slot) (law : ScanLaw s) : ScanLaw (abortScan k s) :=
  (law.scanOpen.stop (f := abortedSlot) (abortedSlot_rests _)).engineTakes

/-- A slot whose scan is in flight has no retry timer running. -/
theorem ScanLaw.flight_retryTimer {s : State} {k : Slot} (law : ScanLaw s) (flight : scanning s k = true) :
    (slotRec s k).retryTimer = none := by
  have own := law.scanOpen.slots k
  by_contra h
  have := own.retry.mp h
  simp [own.flight.mp flight] at this

theorem identityRead_scanOpen {s : State} {k : Slot} (ident : Identity) (flight : scanning s k = true)
    (law : ScanLaw s) : ScanOpen (identityRead k ident s) := by
  have timer := law.flight_retryTimer flight
  exact law.endScan flight ⟨by simp [completedSlot], by simp [completedSlot], by simp [completedSlot],
    by simp [completedSlot, timer], by simp [completedSlot], by simp [completedSlot]⟩

/-- The record of a slot whose scan has failed (R35). -/
def failedSlot (failure : ScanFailure) (r : SlotRec) : SlotRec :=
  { r with lastFailure := some failure, failures := r.failures + 1, status := .none }

/-- The record as the retry pause begins (R35). -/
def pausedSlot (r : SlotRec) : SlotRec := { r with stage := .retryWait, retryTimer := some Config.retryTime }

/-- The record of a bay slot fallen back to ANNOUNCE (R37). -/
def fallenSlot (r : SlotRec) : SlotRec := { r with stage := .idle, source := some .announce }

/-- The record of a supply or fan slot that is UNIDENTIFIED (R38). -/
def unidentifiedSlot (r : SlotRec) : SlotRec :=
  { r with stage := .idle, status := .unidentified, source := none, ident := none }

/-- What the record of a slot becomes at its fourth failure (R37, R38). -/
def lostSlot (k : Slot) (r : SlotRec) : SlotRec :=
  match slotKind k with
  | .bay => fallenSlot r
  | .psu | .fan => unidentifiedSlot r

/-- The slot's scanning is given up: the record is written and the change reported (R37, R38, R45). -/
def giveUp (k : Slot) (s : State) : State := raise (.identity k) (reportStatus k (updSlot k (lostSlot k) s))

theorem updSlot_updSlot (k : Slot) (f g : SlotRec → SlotRec) (s : State) :
    updSlot k g (updSlot k f s) = updSlot k (g ∘ f) s := by
  rw [updSlot, slotRec_updSlot_self]
  simp [updSlot]

/-- A failed scan pauses its slot three times, and then gives it up (R35 to R38). -/
theorem scanFailed_eq (k : Slot) (failure : ScanFailure) (s : State) : scanFailed k failure s
    = if (slotRec s k).failures < 3 then engineTakes (updSlot k (pausedSlot ∘ failedSlot failure) s)
      else engineTakes (giveUp k (updSlot k (failedSlot failure) s)) := by
  have count : (slotRec (updSlot k (failedSlot failure) s) k).failures = (slotRec s k).failures + 1 := by
    rw [slotRec_updSlot_self]; rfl
  have eq : scanFailed k failure s = engineTakes (afterFailure k (updSlot k (failedSlot failure) s)) := rfl
  have limit : (slotRec s k).failures + 1 < Config.failureLimit ↔ (slotRec s k).failures < 3 := by
    simp only [Config.failureLimit]; omega
  rw [eq, afterFailure, count]
  simp only [limit]
  split
  · rw [← updSlot_updSlot]; rfl
  · congr 1
    rcases slotOwner_cases k with ⟨b, rfl⟩ | ⟨p, rfl⟩ | ⟨f, rfl⟩
    · rw [slotOwner_slotOfBay, giveUp, show lostSlot (slotOfBay b) = fallenSlot by
        funext r; rw [lostSlot, slotKind_slotOfBay]]
      rfl
    · rw [slotOwner_slotOfPsu, giveUp, show lostSlot (slotOfPsu p) = unidentifiedSlot by
        funext r; rw [lostSlot, slotKind_slotOfPsu]]
      rfl
    · rw [slotOwner_slotOfFan, giveUp, show lostSlot (slotOfFan f) = unidentifiedSlot by
        funext r; rw [lostSlot, slotKind_slotOfFan]]
      rfl

theorem pausedSlot_rests (failure : ScanFailure) {r : SlotRec} (source : r.source ≠ some .announce) :
    SlotOrderly False False (pausedSlot (failedSlot failure r)) :=
  ⟨by simp [pausedSlot], by simp [pausedSlot], by simp [pausedSlot, failedSlot], by simp [pausedSlot],
    by simp [pausedSlot, failedSlot], fun h => absurd h source⟩

theorem lostSlot_rests (k : Slot) (failure : ScanFailure) {r : SlotRec} (timer : r.retryTimer = none) :
    SlotOrderly False False (lostSlot k (failedSlot failure r)) := by
  unfold lostSlot
  split <;>
    exact ⟨by simp [fallenSlot, unidentifiedSlot], by simp [fallenSlot, unidentifiedSlot],
      by simp [fallenSlot, unidentifiedSlot, failedSlot],
      by simp [fallenSlot, unidentifiedSlot, failedSlot, timer], by simp [fallenSlot, unidentifiedSlot],
      fun _ => rfl⟩

/-- A slot in flight has not fallen back to ANNOUNCE. -/
theorem ScanLaw.flight_source {s : State} {k : Slot} (law : ScanLaw s) (flight : scanning s k = true) :
    (slotRec s k).source ≠ some .announce := fun h => by
  have own := law.scanOpen.slots k
  have := own.announced h
  simp [own.flight.mp flight] at this

theorem lostSlot_scanOpen {s : State} {k : Slot} (failure : ScanFailure) (flight : scanning s k = true)
    (law : ScanLaw s) : ScanOpen (updSlot k (lostSlot k ∘ failedSlot failure) (endTransaction s)) :=
  law.endScan flight (lostSlot_rests k failure (law.flight_retryTimer flight))

/-- An announced identity completes a slot that has no scanning work (R43). -/
theorem acceptAnnounce_scanLaw {s : State} {k : Slot} (ident : Identity)
    (source : (slotRec s k).source = some .announce) (law : ScanLaw s) : ScanLaw (acceptAnnounce k ident s) := by
  obtain ⟨queued, flight, -, retry, -, announced⟩ := law.scanOpen.slots k
  have idle := announced source
  have written : ScanLaw (updSlot k (announcedSlot ident) s) := by
    rw [scanLaw_iff]
    exact ⟨law.scanOpen.write ⟨queued, flight, by simp [announcedSlot, idle], retry, by simp [announcedSlot, idle],
      fun _ => idle⟩, ((scanLaw_iff s).mp law).2⟩
  exact scanLaw_congr (raise_keeps (.identity k) _) (law := scanLaw_congr (reportComplete_keeps k _) (law := written))

end Sys2Proof.Machine
end

section
/-! SUPPORT. The relation of the laws of scanning and of the figures between two states (O58, O59): what may become of a
slot's identity, what the supplies and the figures read of it, and the operations that keep the laws. -/

namespace Sys2Proof.Machine

set_option Elab.async false

/-! ### What becomes of a slot's identity (R27) -/

/-- A slot keeps its identity values and does not become COMPLETE by that, loses them without being COMPLETE, or holds
new ones of its kind and range. -/
def SlotMoves (k : Slot) (r r' : SlotRec) : Prop :=
  (r'.ident = r.ident ∧ (r'.status = .complete → r.status = .complete))
    ∨ (r'.ident = none ∧ r'.status ≠ .complete)
    ∨ ∃ i, r'.ident = some i ∧ i.data.kind = slotKind k ∧ classInRange i.data = true

theorem SlotMoves.refl (k : Slot) (r : SlotRec) : SlotMoves k r r := .inl ⟨rfl, id⟩

theorem SlotMoves.trans {k : Slot} {r r' r'' : SlotRec} (h : SlotMoves k r r') (h' : SlotMoves k r' r'') :
    SlotMoves k r r'' := by
  rcases h' with ⟨ident, complete⟩ | h' | h'
  · rcases h with ⟨ident', complete'⟩ | ⟨none_, off⟩ | ⟨i, some_, valid⟩
    · exact .inl ⟨ident.trans ident', complete' ∘ complete⟩
    · exact .inr (.inl ⟨ident.trans none_, fun c => off (complete c)⟩)
    · exact .inr (.inr ⟨i, ident.trans some_, valid⟩)
  · exact .inr (.inl h')
  · exact .inr (.inr h')

/-- No slot's identity has become other than it may. -/
def IdentsMove (s t : State) : Prop := ∀ k, SlotMoves k (slotRec s k) (slotRec t k)

theorem IdentsMove.trans {s t u : State} (h : IdentsMove s t) (h' : IdentsMove t u) : IdentsMove s u :=
  fun k => (h k).trans (h' k)

theorem IdentsMove.of_keeps {l : List Part} {s t : State} (h : KeepsAllBut l s t)
    (hl : Part.slots ∉ l := by decide) : IdentsMove s t := fun k => by rw [h.slotRec_eq k hl]; exact .refl k _

theorem IdentsMove.and {l : List Part} {s t u : State} (h : IdentsMove s t) (k : KeepsAllBut l t u)
    (hl : Part.slots ∉ l := by decide) : IdentsMove s u := h.trans (.of_keeps k hl)

theorem IdentsMove.updSlot {k : Slot} {f : SlotRec → SlotRec} {s : State}
    (h : SlotMoves k (slotRec s k) (f (slotRec s k))) : IdentsMove s (updSlot k f s) := fun j => by
  rw [slotRec_updSlot]
  split
  · next e => subst e; exact h
  · exact .refl j _

theorem IdentsMove.identLaw {s t : State} (h : IdentsMove s t) (law : IdentLaw s) : IdentLaw t := fun k complete => by
  rcases h k with ⟨ident, was⟩ | ⟨-, off⟩ | ⟨i, ident, -⟩
  · rw [ident]; exact law k (was complete)
  · exact absurd complete off
  · simp [ident]

theorem IdentsMove.classLaw {s t : State} (h : IdentsMove s t) (law : ClassLaw s) : ClassLaw t := fun k i hi => by
  rcases h k with ⟨ident, -⟩ | ⟨ident, -⟩ | ⟨j, ident, valid⟩
  · exact law k i (ident.symm.trans hi)
  · simp [ident] at hi
  · rw [ident] at hi
    exact Option.some.inj hi ▸ valid

/-! ### What the neighbours read of a slot (R44, R47, R52, R53) -/

/-- The slot is still to be read (R47). -/
def unread (st : IdStatus) : Prop := st = .none ∨ st = .scanning

/-- A supply's condition and an allowance read the same of both records. -/
def SameReading (r r' : SlotRec) : Prop :=
  (r'.status = r.status ∧ r'.ident = r.ident) ∨ (unread r.status ∧ unread r'.status)

theorem SameReading.refl (r : SlotRec) : SameReading r r := .inl ⟨rfl, rfl⟩

theorem SameReading.trans {r r' r'' : SlotRec} (h : SameReading r r') (k : SameReading r' r'') : SameReading r r'' := by
  rcases h with ⟨status, ident⟩ | ⟨old, new⟩ <;> rcases k with ⟨status', ident'⟩ | ⟨old', new'⟩
  · exact .inl ⟨status'.trans status, ident'.trans ident⟩
  · exact .inr ⟨status ▸ old', new'⟩
  · exact .inr ⟨old, status' ▸ new⟩
  · exact .inr ⟨old, new'⟩

theorem SameReading.complete_iff {r r' : SlotRec} (h : SameReading r r') :
    r'.status = .complete ↔ r.status = .complete := by
  rcases h with ⟨status, -⟩ | ⟨h | h, h' | h'⟩
  · rw [status]
  all_goals simp [h, h']

theorem SameReading.ident_eq {r r' : SlotRec} (h : SameReading r r') (complete : r.status = .complete) :
    r'.ident = r.ident := by
  rcases h with ⟨-, ident⟩ | ⟨h | h, -⟩
  · exact ident
  all_goals simp [h] at complete

/-- A supply's condition and counted capacity are those that its inputs give (R47). -/
def SupplyTrue (s : State) (p : Psu) : Prop :=
  (supplyRec s p).condition
      = conditionOf (supplyRec s p).present (supplyRec s p).psuOk (slotRec s (slotOfPsu p)).status
    ∧ (supplyRec s p).capacity = if (supplyRec s p).condition = .ok then classCapacity s p else 0

theorem supplyLaw_iff (s : State) : SupplyLaw s ↔ ∀ p, SupplyTrue s p := Iff.rfl

/-- Only a supply of a COMPLETE slot is OK (R47). -/
theorem complete_of_ok {present psuOk : Bool} {st : IdStatus} (h : conditionOf present psuOk st = .ok) :
    st = .complete := by
  cases st with
  | complete => rfl
  | none | scanning | unidentified => cases present <;> simp [conditionOf] at h

theorem conditionOf_unread {st st' : IdStatus} (h : unread st) (h' : unread st') (present psuOk : Bool) :
    conditionOf present psuOk st' = conditionOf present psuOk st := by
  rcases h with h | h <;> rcases h' with h' | h' <;> simp [conditionOf, h, h']

/-- A supply stays true where its inputs read the same, whatever has become of its timers. -/
theorem SupplyTrue.congr {s t : State} {p : Psu} (h : SupplyTrue s p)
    (inputs : (supplyRec t p).present = (supplyRec s p).present ∧ (supplyRec t p).psuOk = (supplyRec s p).psuOk
      ∧ (supplyRec t p).condition = (supplyRec s p).condition ∧ (supplyRec t p).capacity = (supplyRec s p).capacity)
    (reading : SameReading (slotRec s (slotOfPsu p)) (slotRec t (slotOfPsu p))) : SupplyTrue t p := by
  obtain ⟨present, psuOk, condition, capacity⟩ := inputs
  obtain ⟨cond, cap⟩ := h
  unfold SupplyTrue
  rw [present, psuOk, condition, capacity]
  have same : conditionOf (supplyRec s p).present (supplyRec s p).psuOk (slotRec t (slotOfPsu p)).status
      = conditionOf (supplyRec s p).present (supplyRec s p).psuOk (slotRec s (slotOfPsu p)).status := by
    rcases reading with ⟨status, -⟩ | ⟨old, new⟩
    · rw [status]
    · exact conditionOf_unread old new _ _
  refine ⟨cond.trans same.symm, cap.trans ?_⟩
  split
  · next ok => rw [classCapacity, classCapacity, reading.ident_eq (complete_of_ok (cond.symm.trans ok))]
  · rfl

theorem SupplyTrue.congr_of_eq {s t : State} {p : Psu} (h : SupplyTrue s p) (record : supplyRec t p = supplyRec s p)
    (reading : SameReading (slotRec s (slotOfPsu p)) (slotRec t (slotOfPsu p))) : SupplyTrue t p :=
  h.congr (by simp [record]) reading

theorem supplyLaw_congr {l : List Part} {s t : State} (h : KeepsAllBut l s t)
    (readings : ∀ k, slotKind k = .psu → SameReading (slotRec s k) (slotRec t k)) (law : SupplyLaw s)
    (hl : Part.supplies ∉ l := by decide) : SupplyLaw t := fun p =>
  SupplyTrue.congr_of_eq (law p) (h.supplyRec_eq p hl) (readings _ (slotKind_slotOfPsu p))

/-- A supply whose condition has just been recomputed (R47). -/
theorem supplyTrue_of_now {s t : State} {p : Psu} (record : supplyRec t p = supplyNow s p)
    (slot : slotRec t (slotOfPsu p) = slotRec s (slotOfPsu p)) : SupplyTrue t p := by
  unfold SupplyTrue classCapacity
  rw [record, slot]
  exact ⟨rfl, rfl⟩

/-- Under the laws a supply counts exactly while it is OK: no class capacity is 0 (R27, R47). -/
theorem SupplyTrue.counts_iff {s : State} {p : Psu} (h : SupplyTrue s p) (class_ : ClassLaw s) (ident : IdentLaw s) :
    (supplyRec s p).condition = .ok ↔ (supplyRec s p).capacity ≠ 0 := by
  obtain ⟨cond, cap⟩ := h
  constructor
  · intro ok
    have complete := complete_of_ok (cond.symm.trans ok)
    obtain ⟨i, hi⟩ := Option.ne_none_iff_exists'.mp (ident _ complete)
    obtain ⟨kind, range⟩ := class_ _ i hi
    rw [cap, if_pos ok, classCapacity, hi]
    rw [slotKind_slotOfPsu] at kind
    obtain ⟨word, signature, data⟩ := i
    cases data with
    | psu capacity =>
      simp only [classInRange, decide_eq_true_eq] at range
      simp only
      omega
    | bay | fan => cases kind
  · intro counted
    by_contra off
    rw [if_neg off] at cap
    exact counted cap

/-! ### The figures' inputs (R51 to R53) -/

/-- Both records of a bay count the same: its allowance and its grant. -/
def SameShare (r r' : BayRec) : Prop :=
  accepting r'.state = accepting r.state ∧ hasMain r'.state = hasMain r.state
    ∧ (hasMain r.state = true → r'.grant = r.grant)

theorem SameShare.refl (r : BayRec) : SameShare r r := ⟨rfl, rfl, fun _ => rfl⟩

theorem sameBayRecord.share {r r' : BayRec} (h : sameBayRecord r r') : SameShare r r' := by rw [h]; exact .refl _

/-- Each bay, fan and slot that is no supply's reads the same. -/
structure SameInputs (s t : State) : Prop where
  bays : ∀ b, SameShare (bayRec s b) (bayRec t b)
  slots : ∀ k, slotKind k ≠ .psu → SameReading (slotRec s k) (slotRec t k)
  fans : ∀ f, (fanRec t f).state = .absent ↔ (fanRec s f).state = .absent

theorem SameInputs.figuresOf_eq {s t : State} (h : SameInputs s t) (supplies : okCapacities t = okCapacities s)
    (policy : t.pbu.policy = s.pbu.policy) : figuresOf t = figuresOf s := by
  have standby (b) : standbyOf t b = standbyOf s b := by
    have reading := h.slots (slotOfBay b) (by rw [slotKind_slotOfBay]; decide)
    have accepts : accepting (bayState t b) = accepting (bayState s b) := (h.bays b).1
    have complete : isComplete t (slotOfBay b) = isComplete s (slotOfBay b) := by
      rw [Bool.eq_iff_iff, isComplete, isComplete, beq_iff_eq, beq_iff_eq, reading.complete_iff]
    have allowance (u : State) : standbyOf u b
        = if accepting (bayState u b) then
            if isComplete u (slotOfBay b) then
              match (slotRec u (slotOfBay b)).ident with
              | some { data := .bay _ standby, .. } => standby
              | _ => Config.defaultStandby
            else Config.defaultStandby
          else 0 := by
      unfold standbyOf
      cases bayState u b <;> rfl
    rw [allowance, allowance, accepts, complete]
    split
    · split
      · next done => rw [reading.ident_eq (by simpa [isComplete] using done)]
      · rfl
    · rfl
  have grant (b) : grantOf t b = grantOf s b := by
    obtain ⟨-, main, same⟩ := h.bays b
    unfold grantOf bayState
    rw [main]
    split
    · next on => exact same on
    · rfl
  have fan (f) : fanPowerOf t f = fanPowerOf s f := by
    have reading := h.slots (slotOfFan f) (by rw [slotKind_slotOfFan]; decide)
    have complete : isComplete t (slotOfFan f) = isComplete s (slotOfFan f) := by
      rw [Bool.eq_iff_iff, isComplete, isComplete, beq_iff_eq, beq_iff_eq, reading.complete_iff]
    have allowance (u : State) : fanPowerOf u f
        = if (fanRec u f).state = .absent then 0
          else if isComplete u (slotOfFan f) then
              match (slotRec u (slotOfFan f)).ident with
              | some { data := .fan _ power _, .. } => power
              | _ => Config.defaultFanPower
            else Config.defaultFanPower := by
      unfold fanPowerOf
      cases (fanRec u f).state <;> rfl
    rw [allowance, allowance, complete]
    simp only [h.fans f]
    split
    · rfl
    · split
      · next done => rw [reading.ident_eq (by simpa [isComplete] using done)]
      · rfl
  simp only [figuresOf, supplies, policy, funext standby, funext grant, funext fan]

theorem SameShare.trans {r r' r'' : BayRec} (h : SameShare r r') (k : SameShare r' r'') : SameShare r r'' := by
  obtain ⟨accepts, main, grant⟩ := h
  obtain ⟨accepts', main', grant'⟩ := k
  exact ⟨accepts'.trans accepts, main'.trans main, fun on => (grant' (main.trans on)).trans (grant on)⟩

theorem SameInputs.trans {s t u : State} (h : SameInputs s t) (k : SameInputs t u) : SameInputs s u :=
  ⟨fun b => (h.bays b).trans (k.bays b), fun j hj => (h.slots j hj).trans (k.slots j hj),
    fun f => (k.fans f).trans (h.fans f)⟩

/-- Of the figures' inputs the slots alone have been written, and read as before. -/
theorem SameInputs.of_readings {l : List Part} {s t : State} (h : KeepsAllBut l s t)
    (readings : ∀ k, slotKind k ≠ .psu → SameReading (slotRec s k) (slotRec t k))
    (hl : Part.bays ∉ l ∧ Part.fans ∉ l := by decide) : SameInputs s t :=
  ⟨fun b => by rw [h.bayRec_eq b hl.1]; exact .refl _, readings, fun f => by rw [h.fanRec_eq f hl.2]⟩

theorem SameInputs.of_keeps {l : List Part} {s t : State} (h : KeepsAllBut l s t)
    (hl : ∀ p ∈ [Part.bays, .fans, .slots], p ∉ l := by decide) : SameInputs s t :=
  .of_readings h (fun k _ => by rw [h.slotRec_eq k (hl _ (by decide))]; exact .refl _)
    ⟨hl _ (by decide), hl _ (by decide)⟩

/-- Figures that were current stay so where nothing that they are computed from counts otherwise. -/
theorem FiguresCurrent.congr {l : List Part} {s t : State} (current : FiguresCurrent s) (h : KeepsAllBut l s t)
    (inputs : SameInputs s t) (supplies : okCapacities t = okCapacities s)
    (hl : Part.figures ∉ l ∧ Part.powerPolicy ∉ l := by decide) : FiguresCurrent t := by
  have figures : t.pbu.figures = s.pbu.figures := h .figures hl.1
  rw [FiguresCurrent, figures, inputs.figuresOf_eq supplies (h .powerPolicy hl.2)]
  exact current

theorem okCapacities_congr {s t : State} (h : ∀ p, (supplyRec t p).condition = (supplyRec s p).condition
    ∧ (supplyRec t p).capacity = (supplyRec s p).capacity) : okCapacities t = okCapacities s := by
  simp only [okCapacities, h]

theorem okCapacities_of_keeps {l : List Part} {s t : State} (h : KeepsAllBut l s t)
    (hl : Part.supplies ∉ l := by decide) : okCapacities t = okCapacities s :=
  okCapacities_congr fun p => by rw [h.supplyRec_eq p hl]; exact ⟨rfl, rfl⟩

/-! ### The relation -/

/-- The laws of the records: all of the law of the figures but that the figures are current. -/
structure Records (s : State) : Prop where
  scans : ScanLaw s
  classes : ClassLaw s
  idents : IdentLaw s
  supplies : SupplyLaw s

theorem figuresLaw_iff (s : State) : FiguresLaw s ↔ Records s ∧ (s.mode = .running → FiguresCurrent s) :=
  ⟨fun ⟨scans, classes, idents, supplies, current⟩ => ⟨⟨scans, classes, idents, supplies⟩, current⟩,
    fun ⟨⟨scans, classes, idents, supplies⟩, current⟩ => ⟨scans, classes, idents, supplies, current⟩⟩

/-- The laws of the records pass from `s` to `t`. -/
structure RecordsKept (s t : State) : Prop where
  scans : ScanLaw s → ScanLaw t
  idents : IdentsMove s t
  supplies : Records s → SupplyLaw t

theorem RecordsKept.records {s t : State} (h : RecordsKept s t) (law : Records s) : Records t :=
  ⟨h.scans law.scans, h.idents.classLaw law.classes, h.idents.identLaw law.idents, h.supplies law⟩

theorem RecordsKept.trans {s t u : State} (h : RecordsKept s t) (k : RecordsKept t u) : RecordsKept s u :=
  ⟨k.scans ∘ h.scans, h.idents.trans k.idents, fun law => k.supplies (h.records law)⟩

theorem RecordsKept.of_keeps {l : List Part} {s t : State} (h : KeepsAllBut l s t)
    (hl : ∀ p ∈ [Part.slots, .scanQueue, .scan, .supplies], p ∉ l := by decide) : RecordsKept s t where
  scans law := scanLaw_congr h (fun p hp => hl p (by revert p; decide)) law
  idents := .of_keeps h (hl _ (by decide))
  supplies law := supplyLaw_congr h
    (fun k _ => by rw [h.slotRec_eq k (hl _ (by decide))]; exact .refl _) law.supplies (hl _ (by decide))

theorem RecordsKept.and {l : List Part} {s t u : State} (h : RecordsKept s t) (k : KeepsAllBut l t u)
    (hl : ∀ p ∈ [Part.slots, .scanQueue, .scan, .supplies], p ∉ l := by decide) : RecordsKept s u :=
  h.trans (.of_keeps k hl)

/-- The laws of the records, and with them that the figures are current out of reset, pass from `s` to `t`. -/
structure FiguresKept (s t : State) : Prop extends RecordsKept s t where
  current : FiguresLaw s → t.mode = .running → FiguresCurrent t

theorem FiguresKept.law {s t : State} (h : FiguresKept s t) (law : FiguresLaw s) : FiguresLaw t :=
  (figuresLaw_iff t).mpr ⟨h.records ((figuresLaw_iff s).mp law).1, h.current law⟩

theorem FiguresKept.trans {s t u : State} (h : FiguresKept s t) (k : FiguresKept t u) : FiguresKept s u :=
  ⟨h.toRecordsKept.trans k.toRecordsKept, fun law => k.current (h.law law)⟩

/-- An evaluation makes the figures current, whatever they were (R54). -/
theorem RecordsKept.evaluated {s t : State} (h : RecordsKept s t) (source : EmgSource) :
    FiguresKept s (evaluate source t) :=
  ⟨h.and (evaluate_keeps source t), fun _ _ => (evaluate_evaluatedFor source t).1.1⟩

/-- An operation that needs no evaluation: it leaves the figures as current as they were. -/
theorem RecordsKept.unchanged {s t : State} (h : RecordsKept s t) (mode : t.mode = s.mode)
    (current : ScanLaw s → FiguresCurrent s → FiguresCurrent t) : FiguresKept s t :=
  ⟨h, fun law run => current law.1 (((figuresLaw_iff s).mp law).2 (mode ▸ run))⟩

/-- The parts that the laws of the figures speak of, the bays and the fans apart. -/
def figureParts : List Part := [.mode, .slots, .scanQueue, .scan, .supplies, .powerPolicy, .figures]

/-- An operation that touches of all these the bays and the fans alone, which count as before. -/
theorem FiguresKept.of_inputs {l : List Part} {s t : State} (h : KeepsAllBut l s t)
    (bays : ∀ b, SameShare (bayRec s b) (bayRec t b))
    (fans : ∀ f, (fanRec t f).state = .absent ↔ (fanRec s f).state = .absent)
    (hl : ∀ p ∈ figureParts, p ∉ l := by decide) : FiguresKept s t := by
  refine (RecordsKept.of_keeps h fun p hp => hl p (by revert p; decide)).unchanged (h.mode_eq (hl _ (by decide)))
    fun _ current => current.congr h ⟨bays, fun k _ => ?_, fans⟩ (okCapacities_of_keeps h (hl _ (by decide)))
      ⟨hl _ (by decide), hl _ (by decide)⟩
  rw [h.slotRec_eq k (hl _ (by decide))]
  exact .refl _

theorem FiguresKept.of_bays {l : List Part} {s t : State} (h : KeepsAllBut l s t)
    (bays : ∀ b, SameShare (bayRec s b) (bayRec t b))
    (hl : ∀ p ∈ Part.fans :: figureParts, p ∉ l := by decide) : FiguresKept s t :=
  .of_inputs h bays (fun f => by rw [h.fanRec_eq f (hl _ (by decide))])
    fun p hp => hl p (List.mem_cons_of_mem _ hp)

theorem FiguresKept.of_fans {l : List Part} {s t : State} (h : KeepsAllBut l s t)
    (fans : ∀ f, (fanRec t f).state = .absent ↔ (fanRec s f).state = .absent)
    (hl : ∀ p ∈ Part.bays :: figureParts, p ∉ l := by decide) : FiguresKept s t :=
  .of_inputs h (fun b => by rw [h.bayRec_eq b (hl _ (by decide))]; exact .refl _) fans
    fun p hp => hl p (List.mem_cons_of_mem _ hp)

theorem FiguresKept.of_keeps {l : List Part} {s t : State} (h : KeepsAllBut l s t)
    (hl : ∀ p ∈ Part.fans :: Part.bays :: figureParts, p ∉ l := by decide) : FiguresKept s t :=
  .of_bays h (fun b => by rw [h.bayRec_eq b (hl _ (by decide))]; exact .refl _)
    fun p hp => hl p (by revert p; decide)

theorem FiguresKept.refl (s : State) : FiguresKept s s := .of_keeps (KeepsAllBut.refl [] s)

theorem FiguresKept.foldl {α : Type} {f : State → α → State} (h : ∀ s a, FiguresKept s (f s a)) (as : List α)
    (s : State) : FiguresKept s (as.foldl f s) := by
  induction as generalizing s with
  | nil => exact .refl s
  | cons a rest ih => exact (h s a).trans (ih _)

theorem FiguresKept.and {l : List Part} {s t u : State} (h : FiguresKept s t) (k : KeepsAllBut l t u)
    (hl : ∀ p ∈ Part.fans :: Part.bays :: figureParts, p ∉ l := by decide) : FiguresKept s u :=
  h.trans (.of_keeps k hl)

/-- An operation of the scanning alone, after which every slot reads as before. -/
theorem FiguresKept.of_readings {s t : State} (h : KeepsAllBut [.slots, .scanQueue, .scan] s t)
    (scans : ScanLaw s → ScanLaw t) (idents : IdentsMove s t)
    (readings : ScanLaw s → ∀ k, SameReading (slotRec s k) (slotRec t k)) : FiguresKept s t := by
  have kept : RecordsKept s t :=
    ⟨scans, idents, fun law => supplyLaw_congr h (fun k _ => readings law.scans k) law.supplies⟩
  exact kept.unchanged h.mode_eq fun law current =>
    current.congr h (.of_readings h fun k _ => readings law k) (okCapacities_of_keeps h)

/-! ### Writes of a record, and events -/

theorem raise_figuresKept (c : Cause) (s : State) : FiguresKept s (raise c s) := .of_keeps (raise_keeps c s)

theorem evaluate_figuresKept (source : EmgSource) (s : State) : FiguresKept s (evaluate source s) :=
  (RecordsKept.of_keeps (KeepsAllBut.refl [] s)).evaluated source

theorem updBay_figuresKept {b : Bay} {f : BayRec → BayRec} {s : State}
    (share : SameShare (bayRec s b) (f (bayRec s b))) : FiguresKept s (updBay b f s) := by
  refine .of_bays (updBay_keeps b f s) fun c => ?_
  rw [bayRec_updBay]
  split
  · next e => subst e; exact share
  · exact .refl _

theorem updBays_figuresKept {f : Bay → BayRec → BayRec} (s : State) (share : ∀ b r, SameShare r (f b r)) :
    FiguresKept s (updBays f s) := .of_bays (updBays_keeps f s) fun c => by
  rw [bayRec_updBays]; exact share c _

/-- A bay enters a state that counts as the old one (R52). -/
theorem enterState_figuresKept {b : Bay} {st : BayState} {s : State}
    (accepts : accepting st = accepting (bayState s b)) (main : hasMain st = hasMain (bayState s b)) :
    FiguresKept s (enterState b st s) :=
  (updBay_figuresKept ⟨accepts, main, fun _ => rfl⟩).trans (raise_figuresKept _ _)

theorem updFan_figuresKept {i : Fan} {f : FanRec → FanRec} {s : State}
    (h : (f (fanRec s i)).state = .absent ↔ (fanRec s i).state = .absent) : FiguresKept s (updFan i f s) := by
  refine .of_fans (updFan_keeps i f s) fun j => ?_
  rw [fanRec_updFan]
  split
  · next e => subst e; exact h
  · exact Iff.rfl

theorem updFans_figuresKept {f : Fan → FanRec → FanRec} (s : State)
    (h : ∀ i r, (f i r).state = .absent ↔ r.state = .absent) : FiguresKept s (updFans f s) :=
  .of_fans (updFans_keeps f s) fun j => by rw [fanRec_updFans]; exact h j _

end Sys2Proof.Machine
end

section
/-! SUPPORT. The laws of scanning and of the figures through the scan engine (O58, O59). -/

namespace Sys2Proof.Machine

set_option Elab.async false

/-! ### Reports (R44, R50) -/

/-- The scanning has written slot `k`, and every other slot reads as before; the report of `k` is still to be made. -/
structure SlotWritten (k : Slot) (s u : State) : Prop where
  frame : KeepsAllBut [.slots, .scanQueue, .scan] s u
  idents : IdentsMove s u
  others : ∀ j, j ≠ k → SameReading (slotRec s j) (slotRec u j)

/-- The supplies' slots but that of slot `k` are unaffected by its report. -/
theorem SlotWritten.supplyTrue {k : Slot} {s u : State} (h : SlotWritten k s u) {p : Psu} (ne : slotOfPsu p ≠ k)
    (law : SupplyTrue s p) : SupplyTrue u p :=
  law.congr_of_eq (h.frame.supplyRec_eq p) (h.others _ ne)

/-- After its report a slot's supply is as its identity makes it, and every other supply as it was (R47, R50). -/
theorem SlotWritten.reportStatus_supplyLaw {k : Slot} {s u : State} (h : SlotWritten k s u)
    (law : ∀ p, slotOfPsu p ≠ k → SupplyTrue s p) : SupplyLaw (reportStatus k u) := by
  intro p
  have slot := (reportStatus_keeps k u).slotRec_eq (slotOfPsu p)
  by_cases own : slotOfPsu p = k
  · subst own
    have report : reportStatus (slotOfPsu p) u = supplyChanged p u := by rw [reportStatus, slotOwner_slotOfPsu]
    rw [report] at slot ⊢
    exact supplyTrue_of_now (by rw [supplyRec_supplyChanged, if_pos rfl]) slot
  · exact (h.supplyTrue own (law p own)).congr_of_eq ((reportStatus_others k u).1 p own) (by rw [slot]; exact .refl _)

/-- A supply whose input has changed is evaluated, but where it counts as before: then the figures stand (R50). -/
theorem supplyChanged_current {l : List Part} {p : Psu} {s u : State} (law : Records s) (current : FiguresCurrent s)
    (frame : KeepsAllBut l s u) (inputs : SameInputs s u) (idents : IdentsMove s u)
    (same : ∀ q, (supplyRec u q).condition = (supplyRec s q).condition
      ∧ (supplyRec u q).capacity = (supplyRec s q).capacity)
    (hl : Part.figures ∉ l ∧ Part.powerPolicy ∉ l := by decide) : FiguresCurrent (supplyChanged p u) := by
  by_cases counted : (supplyNow u p).capacity = (supplyRec u p).capacity
  · by_cases ends : endsHold p u
    · exact (supplyChanged_resolved ends).2.2.1
    · have recomputed : supplyChanged p u = recomputeSupply p u := by
        rw [supplyChanged_holds ends, supplyCounted, if_pos counted.symm]
      have records (q) : supplyRec (recomputeSupply p u) q = if q = p then supplyNow u p else supplyRec u q :=
        supplyRec_updSupply p q _ u
      have frame' := recomputeSupply_keeps p u
      have idents' : IdentsMove s (recomputeSupply p u) := idents.and frame'
      have before := SupplyTrue.counts_iff (law.supplies p) law.classes law.idents
      have after : (supplyNow u p).condition = .ok ↔ (supplyNow u p).capacity ≠ 0 := by
        have now : supplyRec (recomputeSupply p u) p = supplyNow u p := by rw [records, if_pos rfl]
        have := (supplyTrue_of_now now (frame'.slotRec_eq _)).counts_iff (idents'.classLaw law.classes)
          (idents'.identLaw law.idents)
        rwa [now] at this
      have caps : okCapacities (recomputeSupply p u) = okCapacities u := by
        have each (q) : (if (supplyRec (recomputeSupply p u) q).condition = .ok then
              some (supplyRec (recomputeSupply p u) q).capacity else none)
            = if (supplyRec u q).condition = .ok then some (supplyRec u q).capacity else none := by
          rw [records]
          by_cases hq : q = p
          · subst hq
            rw [← (same q).1, ← (same q).2] at before
            simp only [if_pos, after, before, counted]
          · rw [if_neg hq]
        simp only [okCapacities, each]
      rw [recomputed]
      exact (current.congr frame inputs (okCapacities_congr same) hl).congr frame' (.of_keeps frame') caps
  · exact (supplyChanged_evaluated p u).1 counted

/-- A report leaves the figures current (R44, R50, R53). -/
theorem SlotWritten.reportStatus_current {k : Slot} {s u : State} (h : SlotWritten k s u) (law : Records s)
    (current : FiguresCurrent s) : FiguresCurrent (reportStatus k u) := by
  rcases slotOwner_cases k with ⟨b, rfl⟩ | ⟨p, rfl⟩ | ⟨f, rfl⟩
  · rw [reportStatus_bay]
    exact (evaluate_evaluatedFor _ _).1.1
  · rw [reportStatus, slotOwner_slotOfPsu]
    refine supplyChanged_current law current h.frame (.of_readings h.frame fun j hj => ?_) h.idents fun q => ?_
    · exact h.others j fun e => hj (e ▸ slotKind_slotOfPsu p)
    · rw [h.frame.supplyRec_eq q]; exact ⟨rfl, rfl⟩
  · rw [reportStatus, slotOwner_slotOfFan]
    exact (evaluate_evaluatedFor _ _).1.1

/-- A completion's report is a status report, but that a bay takes it first (R4, R44). -/
theorem reportComplete_eq (k : Slot) (s : State) : ∃ u, KeepsAllBut (.bays :: reportParts) s u
    ∧ reportComplete k s = reportStatus k u ∧ (slotKind k = .psu → u = s) := by
  rcases slotOwner_cases k with ⟨b, rfl⟩ | ⟨p, rfl⟩ | ⟨f, rfl⟩
  · refine ⟨completeAtBay b s, completeAtBay_keeps b s, by rw [reportComplete_bay, reportStatus_bay], fun e => ?_⟩
    rw [slotKind_slotOfBay] at e
    cases e
  · exact ⟨s, KeepsAllBut.refl _ s, by rw [reportComplete_psu, reportStatus, slotOwner_slotOfPsu], fun _ => rfl⟩
  · exact ⟨s, KeepsAllBut.refl _ s, by rw [reportComplete_fan, reportStatus, slotOwner_slotOfFan], fun _ => rfl⟩

theorem SlotWritten.reportComplete_supplyLaw {k : Slot} {s u : State} (h : SlotWritten k s u) (law : SupplyLaw s) :
    SupplyLaw (reportComplete k u) := by
  obtain ⟨u', frame, eq, -⟩ := reportComplete_eq k u
  intro p
  have slot := (reportStatus_keeps k u').slotRec_eq (slotOfPsu p)
  have reading : SameReading (slotRec u (slotOfPsu p)) (slotRec (reportStatus k u') (slotOfPsu p)) := by
    rw [slot, frame.slotRec_eq]; exact .refl _
  rw [eq]
  by_cases own : slotOfPsu p = k
  · subst own
    have report : reportStatus (slotOfPsu p) u' = supplyChanged p u' := by rw [reportStatus, slotOwner_slotOfPsu]
    rw [report] at slot ⊢
    exact supplyTrue_of_now (by rw [supplyRec_supplyChanged, if_pos rfl]) slot
  · exact (h.supplyTrue own (law p)).congr_of_eq
      (((reportStatus_others k u').1 p own).trans (frame.supplyRec_eq p)) reading

theorem SlotWritten.reportComplete_current {k : Slot} {s u : State} (h : SlotWritten k s u) (law : Records s)
    (current : FiguresCurrent s) : FiguresCurrent (reportComplete k u) := by
  by_cases psu : slotKind k = .psu
  · obtain ⟨u', -, eq, same⟩ := reportComplete_eq k u
    rw [eq, same psu]
    exact h.reportStatus_current law current
  · rcases slotOwner_cases k with ⟨b, rfl⟩ | ⟨p, rfl⟩ | ⟨f, rfl⟩
    · rw [reportComplete_bay]; exact (evaluate_evaluatedFor _ _).1.1
    · exact absurd (slotKind_slotOfPsu p) psu
    · rw [reportComplete_fan]; exact (evaluate_evaluatedFor _ _).1.1

/-! ### The engine moves (R33) -/

theorem engineTakes_idents (s : State) : IdentsMove s (engineTakes s) := fun j => by
  by_cases scan : s.ise.scan = none
  · cases queue : s.ise.queue with
    | nil => rw [engineTakes_empty queue]; exact .refl j _
    | cons k rest =>
      rw [slotRec_engineTakes_head scan queue]
      split
      · next e => subst e; exact .inl ⟨rfl, fun c => by simp at c⟩
      · exact .refl j _
  · rw [engineTakes_busy scan]; exact .refl j _

/-- The slot at the head waits to be read, so that the engine's move changes no reading (R32). -/
theorem ScanOpen.engineTakes_readings {s : State} (law : ScanOpen s) (j : Slot) :
    SameReading (slotRec s j) (slotRec (Machine.engineTakes s) j) := by
  by_cases scan : s.ise.scan = none
  · cases queue : s.ise.queue with
    | nil => rw [engineTakes_empty queue]; exact .refl _
    | cons k rest =>
      rw [slotRec_engineTakes_head scan queue]
      split
      · next e =>
        subst e
        exact .inr ⟨.inl (law.queued_status (by simp [queue])), .inr rfl⟩
      · exact .refl _
  · rw [engineTakes_busy scan]; exact .refl _

/-- The engine's move leaves the supplies true and the figures current. -/
theorem ScanOpen.engineTakes_supplyLaw {s : State} (law : ScanOpen s) (supplies : SupplyLaw s) :
    SupplyLaw (Machine.engineTakes s) :=
  supplyLaw_congr (engineTakes_keeps s) (fun k _ => law.engineTakes_readings k) supplies

theorem ScanOpen.engineTakes_current {s : State} (law : ScanOpen s) (current : FiguresCurrent s) :
    FiguresCurrent (Machine.engineTakes s) :=
  current.congr (engineTakes_keeps s) (.of_readings (engineTakes_keeps s) fun k _ => law.engineTakes_readings k)
    (okCapacities_of_keeps (engineTakes_keeps s))

/-- An event leaves the figures as current as they were. -/
theorem raise_current {c : Cause} {s : State} (current : FiguresCurrent s) : FiguresCurrent (raise c s) :=
  current.congr (raise_keeps c s) (.of_keeps (raise_keeps c s)) (okCapacities_of_keeps (raise_keeps c s))

/-! ### Requests, retries and aborts (R32, R36, R40, R41) -/

theorem freshRequest_idents (k : Slot) (s : State) : IdentsMove s (freshRequest k s) := by
  have fresh : SlotMoves k (slotRec s k) (freshRecord (slotRec s k)) := by
    refine .inl ⟨rfl, fun c => ?_⟩
    by_cases h : (slotRec s k).status = .complete ∨ (slotRec s k).status = .unidentified
    · simp [freshRecord, h] at c
    · simpa [freshRecord, h] using c
  have queued (u : State) : IdentsMove u (queueSlot k u) := fun j => by
    unfold queueSlot
    split
    iterate 2
      rw [slotRec_updIse j rfl]
      exact IdentsMove.updSlot (f := fun r => { r with stage := .queued, retryTimer := none }) (.inl ⟨rfl, id⟩) j
    all_goals exact .refl j _
  exact (IdentsMove.updSlot fresh).trans (queued _)

theorem requestScan_written {k : Slot} {s : State} (law : ScanLaw s) :
    SlotWritten k s (engineTakes (freshRequest k s)) where
  frame := engineTakes_freshRequest_keeps k s
  idents := (freshRequest_idents k s).trans (engineTakes_idents _)
  others j hj := by rw [(engineTakes_freshRequest law).2.2.2 j hj]; exact .refl _

/-- A slot that was unsettled still is, and reads as before (R41). -/
theorem requestScan_reading {k : Slot} {s : State} (law : ScanLaw s)
    (off : ¬((slotRec s k).status = .complete ∨ (slotRec s k).status = .unidentified)) :
    SameReading (slotRec s k) (slotRec (engineTakes (freshRequest k s)) k) := by
  have unsettled (st : IdStatus) (h : st ≠ .complete ∧ st ≠ .unidentified) : unread st := by
    cases st <;> simp [unread] at h ⊢
  rw [not_or] at off
  exact .inr ⟨unsettled _ off, unsettled _ ((engineTakes_freshRequest law).unsettled law)⟩

/-- After a request every supply is as its inputs make it, also one whose slot was reported otherwise before. -/
theorem requestScan_supplyLaw {k : Slot} {s : State} (law : ScanLaw s)
    (others : ∀ p, slotOfPsu p ≠ k → SupplyTrue s p)
    (own : ¬((slotRec s k).status = .complete ∨ (slotRec s k).status = .unidentified) →
      ∀ p, slotOfPsu p = k → SupplyTrue s p) : SupplyLaw (requestScan k s) := by
  have written := requestScan_written (k := k) law
  by_cases settled : (slotRec s k).status = .complete ∨ (slotRec s k).status = .unidentified
  · rw [requestScan_settled settled]
    exact written.reportStatus_supplyLaw others
  · have unsettled := not_or.mp settled
    rw [requestScan_unsettled unsettled.1 unsettled.2]
    intro p
    by_cases hp : slotOfPsu p = k
    · refine (own settled p hp).congr_of_eq (written.frame.supplyRec_eq p) ?_
      rw [hp]; exact requestScan_reading law settled
    · exact written.supplyTrue hp (others p hp)

theorem requestScan_recordsKept (k : Slot) (s : State) : RecordsKept s (requestScan k s) where
  scans := requestScan_scanLaw k
  idents := by
    have requested := (freshRequest_idents k s).trans (engineTakes_idents _)
    unfold requestScan
    simp only
    split
    · exact requested.and (reportStatus_keeps k _)
    · exact requested
  supplies law := requestScan_supplyLaw law.scans (fun p _ => law.supplies p) fun _ p _ => law.supplies p

theorem requestScan_figuresKept (k : Slot) (s : State) : FiguresKept s (requestScan k s) := by
  refine ⟨requestScan_recordsKept k s, fun figures run => ?_⟩
  obtain ⟨law, current⟩ := (figuresLaw_iff s).mp figures
  have run' : s.mode = .running := (requestScan_keeps k s).mode_eq ▸ run
  by_cases settled : (slotRec s k).status = .complete ∨ (slotRec s k).status = .unidentified
  · rw [requestScan_settled settled]
    exact (requestScan_written law.scans).reportStatus_current law (current run')
  · have unsettled := not_or.mp settled
    rw [requestScan_unsettled unsettled.1 unsettled.2] at run ⊢
    have written := requestScan_written (k := k) law.scans
    have kept : FiguresKept s (engineTakes (freshRequest k s)) :=
      .of_readings written.frame (fun l => by
          have := requestScan_scanLaw k l
          rwa [requestScan_unsettled unsettled.1 unsettled.2] at this)
        written.idents fun l j => by
          by_cases hj : j = k
          · subst hj; exact requestScan_reading l settled
          · exact written.others j hj
    exact kept.current figures run

theorem retryDue_figuresKept {k : Slot} {s : State} (stage : (slotRec s k).stage = .retryWait) :
    FiguresKept s (retryDue k s) := by
  have frame : KeepsAllBut [.slots, .scanQueue, .scan] s (retryDue k s) :=
    ((queueSlot_keeps k s).within (l := [.slots, .scanQueue, .scan])).and (engineTakes_keeps _)
  have rests (law : ScanLaw s) := law.scanOpen.rests (k := k) (by simp [stage])
  have queued (j) : slotRec (queueSlot k s) j = if j = k then requeuedSlot (slotRec s k) else slotRec s j := by
    rw [queueSlot_retry stage, slotRec_updIse j rfl, slotRec_updSlot]
  refine .of_readings frame (retryDue_scanLaw stage) (IdentsMove.trans (fun j => ?_) (engineTakes_idents _))
    fun law j => ?_
  · rw [queued]
    split
    · next e => subst e; exact .inl ⟨rfl, id⟩
    · exact .refl j _
  · have fresh : SameReading (slotRec s j) (slotRec (queueSlot k s) j) := by
      rw [queued]
      split
      · next e => subst e; exact .inl ⟨rfl, rfl⟩
      · exact .refl _
    have opened : ScanOpen (queueSlot k s) := by
      rw [queueSlot_retry stage]
      exact law.scanOpen.enqueue (rests law) (requeuedSlot_waits (rests law) stage)
    exact fresh.trans (opened.engineTakes_readings j)

theorem abortScan_figuresKept (k : Slot) (s : State) : FiguresKept s (abortScan k s) := by
  have frame := abortScan_keeps k s
  have stopped (j) : slotRec (updSlot k abortedSlot (stopScanning k s)) j
      = if j = k then abortedSlot (slotRec s k) else slotRec s j := by rw [slotRec_updSlot]; rfl
  have written (j) : SlotMoves j (slotRec s j) (slotRec (updSlot k abortedSlot (stopScanning k s)) j)
      ∧ SameReading (slotRec s j) (slotRec (updSlot k abortedSlot (stopScanning k s)) j) := by
    rw [stopped]
    split
    · next e =>
      subst e
      by_cases h : (slotRec s j).status = .scanning
      · exact ⟨.inl ⟨rfl, by simp [abortedSlot, h]⟩, .inr ⟨.inr h, .inl (by simp [abortedSlot, h])⟩⟩
      · exact ⟨.inl ⟨rfl, by simp [abortedSlot, h]⟩, .inl ⟨by simp [abortedSlot, h], rfl⟩⟩
    · exact ⟨.refl j _, .refl _⟩
  refine .of_readings frame (abortScan_scanLaw k) (IdentsMove.trans (fun j => (written j).1) (engineTakes_idents _))
    fun law j => ?_
  have opened : ScanOpen (updSlot k abortedSlot (stopScanning k s)) := law.scanOpen.stop (abortedSlot_rests _)
  exact (written j).2.trans (opened.engineTakes_readings j)

theorem clearSlot_idents (k : Slot) (s : State) : IdentsMove s (clearSlot k s) := by
  refine IdentsMove.trans (fun j => ?_) (engineTakes_idents _)
  rw [slotRec_updSlot]
  split
  · exact .inr (.inl ⟨rfl, fun h => by cases h⟩)
  · exact .refl j _

/-- A slot's removal changes the reading of no other slot (R39). -/
theorem clearSlot_written {k : Slot} {s : State} (law : ScanLaw s) : SlotWritten k s (clearSlot k s) where
  frame := clearSlot_keeps k s
  idents := clearSlot_idents k s
  others j hj := by
    have opened : ScanOpen (updSlot k (fun _ => resetSlot) (stopScanning k s)) := law.scanOpen.stop resetSlot_rests
    have same : slotRec (updSlot k (fun _ => resetSlot) (stopScanning k s)) j = slotRec s j := by
      rw [slotRec_updSlot_ne _ _ hj]; rfl
    exact same ▸ opened.engineTakes_readings j

theorem clearSlot_recordsKept {k : Slot} (kind : slotKind k ≠ .psu) (s : State) : RecordsKept s (clearSlot k s) where
  scans := clearSlot_scanLaw k
  idents := clearSlot_idents k s
  supplies law p := (clearSlot_written law.scans).supplyTrue (fun e => kind (e ▸ slotKind_slotOfPsu p)) (law.supplies p)

/-! ### The ends of a scan, and announcements (R34 to R38, R43) -/

/-- An image that passes its checks holds class data of the slot's kind and range (R29). -/
theorem judgeImage_class {kind : SlotKind} {image : Image} {i : Identity} (h : judgeImage kind image = .ok i) :
    i.data.kind = kind ∧ classInRange i.data = true := by
  unfold judgeImage at h
  split at h
  · cases h
  · split at h
    · cases h
    · split at h
      · cases h
      · split at h
        · next range =>
          cases h
          exact ⟨by cases kind <;> rfl, range⟩
        · cases h

/-- A slot's scanning has ended, its record being written. -/
theorem endTransaction_written {k : Slot} {f : SlotRec → SlotRec} {s : State}
    (h : SlotMoves k (slotRec s k) (f (slotRec s k))) : SlotWritten k s (updSlot k f (endTransaction s)) where
  frame := ((endTransaction_keeps s).within (l := [.slots, .scanQueue, .scan])).and (updSlot_keeps k f _)
  idents := IdentsMove.trans (.of_keeps (endTransaction_keeps s)) (.updSlot h)
  others j hj := by
    rw [slotRec_updSlot_ne _ _ hj, (endTransaction_keeps s).slotRec_eq j]
    exact .refl _

/-- After the report the event is raised and the engine moves, which leaves the laws as the report does (R33, R45). -/
theorem moveOn_figuresKept {s v : State} {c : Cause} (opened : ScanLaw s → ScanOpen v) (idents : IdentsMove s v)
    (mode : v.mode = s.mode) (supplies : Records s → SupplyLaw v)
    (current : Records s → FiguresCurrent s → FiguresCurrent v) : FiguresKept s (engineTakes (raise c v)) := by
  have raised (scans : ScanLaw s) := (opened scans).congr (raise_keeps c v)
  refine ⟨⟨fun scans => (raised scans).engineTakes, (idents.and (raise_keeps c v)).trans (engineTakes_idents _),
    fun law => ?_⟩, fun figures run => ?_⟩
  · exact (raised law.scans).engineTakes_supplyLaw (supplyLaw_congr (raise_keeps c v)
      (fun k _ => by rw [(raise_keeps c v).slotRec_eq k]; exact .refl _) (supplies law))
  · obtain ⟨law, now⟩ := (figuresLaw_iff s).mp figures
    rw [(engineTakes_keeps _).mode_eq, (raise_keeps c v).mode_eq, mode] at run
    exact (raised law.scans).engineTakes_current (raise_current (current law (now run)))

section
variable {k : Slot} {s : State} (flight : scanning s k = true)
include flight

theorem scanComplete_figuresKept {ident : Identity}
    (valid : ident.data.kind = slotKind k ∧ classInRange ident.data = true) :
    FiguresKept s (scanComplete k ident (endTransaction s)) := by
  have written : SlotWritten k s (identityRead k ident s) :=
    endTransaction_written (.inr (.inr ⟨ident, rfl, valid⟩))
  have report := reportComplete_keeps k (identityRead k ident s)
  rw [scanComplete_eq]
  exact moveOn_figuresKept (fun law => (identityRead_scanOpen ident flight law).congr report)
    (written.idents.and report) (report.mode_eq.trans written.frame.mode_eq)
    (fun law => written.reportComplete_supplyLaw law.supplies) written.reportComplete_current

theorem scanFailed_figuresKept (failure : ScanFailure) :
    FiguresKept s (scanFailed k failure (endTransaction s)) := by
  have failed : SlotMoves k (slotRec s k) (failedSlot failure (slotRec s k)) := .inl ⟨rfl, fun h => by cases h⟩
  rw [scanFailed_eq]
  split
  · have written := endTransaction_written (f := pausedSlot ∘ failedSlot failure) (failed.trans (.inl ⟨rfl, id⟩))
    have opened (law : ScanLaw s) :
        ScanOpen (updSlot k (pausedSlot ∘ failedSlot failure) (endTransaction s)) :=
      law.endScan flight (pausedSlot_rests failure (law.flight_source flight))
    refine .of_readings (written.frame.and (engineTakes_keeps _)) (fun law => (opened law).engineTakes)
      (written.idents.trans (engineTakes_idents _)) fun law j =>
        SameReading.trans ?_ ((opened law).engineTakes_readings j)
    by_cases hj : j = k
    · subst hj
      obtain ⟨-, inFlight, status, -⟩ := law.scanOpen.slots j
      rw [slotRec_updSlot_self]
      exact .inr ⟨.inr (status.mpr (inFlight.mp flight)), .inl rfl⟩
    · exact written.others j hj
  · rw [giveUp, updSlot_updSlot]
    have lost : SlotMoves k (slotRec s k) (lostSlot k (failedSlot failure (slotRec s k))) := by
      refine failed.trans ?_
      unfold lostSlot
      split
      · exact .inl ⟨rfl, id⟩
      iterate 2 exact .inr (.inl ⟨rfl, fun h => by cases h⟩)
    have written := endTransaction_written (f := lostSlot k ∘ failedSlot failure) lost
    have report := reportStatus_keeps k (updSlot k (lostSlot k ∘ failedSlot failure) (endTransaction s))
    exact moveOn_figuresKept (fun law => (lostSlot_scanOpen failure flight law).congr report)
      (written.idents.and report) (report.mode_eq.trans written.frame.mode_eq)
      (fun law => written.reportStatus_supplyLaw fun p _ => law.supplies p) written.reportStatus_current

theorem judgeScan_figuresKept (image : Image) : FiguresKept s (judgeScan k image s) := by
  unfold judgeScan
  split
  · next i h => exact scanComplete_figuresKept flight (judgeImage_class h)
  · exact scanFailed_figuresKept flight _

end

/-- A bay's announced identity completes its slot (R43). -/
theorem acceptAnnounce_figuresKept {k : Slot} {ident : Identity} {s : State}
    (source : (slotRec s k).source = some .announce)
    (valid : ident.data.kind = slotKind k ∧ classInRange ident.data = true) :
    FiguresKept s (acceptAnnounce k ident s) := by
  have eq : acceptAnnounce k ident s
      = raise (.identity k) (reportComplete k (updSlot k (announcedSlot ident) s)) := rfl
  have written : SlotWritten k s (updSlot k (announcedSlot ident) s) :=
    ⟨(updSlot_keeps k _ s).within, .updSlot (.inr (.inr ⟨ident, rfl, valid⟩)),
      fun j hj => by rw [slotRec_updSlot_ne _ _ hj]; exact .refl _⟩
  have report := reportComplete_keeps k (updSlot k (announcedSlot ident) s)
  have scans := acceptAnnounce_scanLaw ident source
  rw [eq] at scans ⊢
  refine ⟨⟨scans, (written.idents.and report).and (raise_keeps _ _), fun law => ?_⟩, fun figures run => ?_⟩
  · exact supplyLaw_congr (raise_keeps _ _) (fun j _ => by rw [(raise_keeps _ _).slotRec_eq j]; exact .refl _)
      (written.reportComplete_supplyLaw law.supplies)
  · obtain ⟨law, now⟩ := (figuresLaw_iff s).mp figures
    rw [(raise_keeps _ _).mode_eq, report.mode_eq, written.frame.mode_eq] at run
    exact raise_current (written.reportComplete_current law (now run))

end Sys2Proof.Machine
end

section
/-! SUPPORT. The laws of scanning and of the figures through the budget, the bays, the fans and the frames (O58,
O59). -/

namespace Sys2Proof.Machine

set_option Elab.async false

/-! ### The budget -/

/-- The emergency's cause of every bay may be written (R73). -/
theorem updBays_emergencyCause_figuresKept (x : Bool) (s : State) :
    FiguresKept s (updBays (fun _ r => { r with emergencyCause := x }) s) :=
  updBays_figuresKept s fun _ _ => ⟨rfl, rfl, fun _ => rfl⟩

theorem endRun_figuresKept (s : State) : FiguresKept s (endRun s) := by
  have h := FiguresKept.of_keeps (updEmg_keeps (fun e => { e with runShed := false }) s)
  unfold endRun
  simp only
  split
  · exact h.trans (raise_figuresKept _ _)
  · exact h

theorem endEmergency_figuresKept (source : EmgSource) (s : State) : FiguresKept s (endEmergency source s) :=
  ((((FiguresKept.of_keeps (updEmg_keeps _ s)).trans (updBays_emergencyCause_figuresKept false _)).and
    (updPbu_ae_keeps _ _)).trans (endRun_figuresKept _)).trans (raise_figuresKept _ _)

theorem handShed_figuresKept (s : State) : FiguresKept s (handShed s) := by
  unfold handShed
  split
  · exact .of_keeps (updEmg_keeps _ s)
  · exact ((FiguresKept.of_keeps (updEmg_keeps _ s)).trans (endRun_figuresKept _)).trans (raise_figuresKept _ _)

theorem testHold_figuresKept (s : State) : FiguresKept s (testHold s) := by
  unfold testHold
  split
  · exact (FiguresKept.of_keeps (updPbu_hold_keeps _ _ s)).trans (evaluate_figuresKept _ _)
  · exact .refl s

theorem endHold_figuresKept (s : State) : FiguresKept s (endHold s) :=
  (FiguresKept.of_keeps (updPbu_hold_keeps _ _ s)).trans (evaluate_figuresKept _ _)

theorem endGrace_figuresKept (s : State) : FiguresKept s (endGrace s) :=
  ((FiguresKept.of_keeps (updEmg_keeps _ s)).and (updEmg_keeps _ _)).trans (handShed_figuresKept _)

theorem rampEndUnpowered_figuresKept (b : Bay) (s : State) : FiguresKept s (rampEndUnpowered b s) :=
  .of_keeps (rampEndUnpowered_keeps b s)

/-! ### The supplies (R48 to R50) -/

/-- A write of a supply's timers (R48). -/
theorem updSupply_timers_figuresKept {p : Psu} {f : SupplyRec → SupplyRec} {s : State}
    (h : ∀ r, (f r).present = r.present ∧ (f r).psuOk = r.psuOk ∧ (f r).condition = r.condition
      ∧ (f r).capacity = r.capacity) : FiguresKept s (updSupply p f s) := by
  have frame := updSupply_keeps p f s
  have inputs (q) := supplyRec_updSupply p q f s
  have kept : RecordsKept s (updSupply p f s) := by
    refine ⟨scanLaw_congr frame, .of_keeps frame, fun law q => SupplyTrue.congr (law.supplies q) ?_ (.refl _)⟩
    rw [inputs]
    split
    · next e => subst e; exact h _
    · exact ⟨rfl, rfl, rfl, rfl⟩
  refine kept.unchanged rfl fun _ current => current.congr frame (.of_keeps frame) (okCapacities_congr fun q => ?_)
  rw [inputs]
  split
  · next e => subst e; exact ⟨(h _).2.2.1, (h _).2.2.2⟩
  · exact ⟨rfl, rfl⟩

theorem psuOkChanged_figuresKept (p : Psu) (asserted : Bool) (s : State) :
    FiguresKept s (psuOkChanged p asserted s) := by
  have moved := FiguresKept.of_keeps (updPins_keeps (fun x => { x with psuOk := Bank.put x.psuOk p asserted }) s)
  have changed (t : State) :
      FiguresKept t (supplyChanged p (updSupply p (fun r => { r with psuOk := asserted }) t)) := by
    have frame := updSupply_keeps p (fun r => { r with psuOk := asserted }) t
    have record (q) := supplyRec_updSupply p q (fun r => { r with psuOk := asserted }) t
    generalize updSupply p (fun r => { r with psuOk := asserted }) t = u at *
    have report := supplyChanged_keeps p u
    refine ⟨⟨fun law => scanLaw_congr report (law := scanLaw_congr frame (law := law)),
      (IdentsMove.of_keeps frame).and report, fun law q => ?_⟩, fun figures run => ?_⟩
    · have slot := report.slotRec_eq (slotOfPsu q)
      by_cases hq : q = p
      · subst hq
        exact supplyTrue_of_now (by rw [supplyRec_supplyChanged, if_pos rfl]) slot
      · refine SupplyTrue.congr_of_eq (law.supplies q) ?_ (by rw [slot, frame.slotRec_eq]; exact .refl _)
        rw [supplyRec_supplyChanged, if_neg hq, record, if_neg hq]
    · obtain ⟨law, current⟩ := (figuresLaw_iff t).mp figures
      rw [report.mode_eq, frame.mode_eq] at run
      refine supplyChanged_current law (current run) frame (.of_keeps frame) (.of_keeps frame) fun q => ?_
      rw [record]
      split
      · next e => subst e; exact ⟨rfl, rfl⟩
      · exact ⟨rfl, rfl⟩
  unfold psuOkChanged
  simp only
  split
  · exact moved.trans (changed _)
  · exact moved

/-- An inserted supply waits to be read, as its slot then does (R48). -/
theorem insertSupply_figuresKept (p : Psu) (s : State) : FiguresKept s (insertSupply p s) := by
  have frame := updSupply_keeps p
    (fun r => { r with present := true, condition := .pending, capacity := 0, insertTimer := none }) s
  have record (q) := supplyRec_updSupply p q
    (fun r => { r with present := true, condition := .pending, capacity := 0, insertTimer := none }) s
  unfold insertSupply
  simp only
  generalize updSupply p
    (fun r => { r with present := true, condition := .pending, capacity := 0, insertTimer := none }) s = t at *
  have asked := requestScan_recordsKept (slotOfPsu p) t
  refine RecordsKept.evaluated ⟨fun law => asked.scans (scanLaw_congr frame (law := law)),
    (IdentsMove.of_keeps frame).trans asked.idents, fun law => ?_⟩ _
  refine requestScan_supplyLaw (scanLaw_congr frame (law := law.scans)) (fun q hq => ?_) fun off q hq => ?_
  · refine SupplyTrue.congr_of_eq (law.supplies q) ?_ (by rw [frame.slotRec_eq]; exact .refl _)
    rw [record, if_neg fun e => hq (by rw [e])]
  · obtain rfl := slotOfPsu_injective hq
    unfold SupplyTrue
    rw [record, if_pos rfl]
    refine ⟨?_, rfl⟩
    cases h : (slotRec t (slotOfPsu q)).status <;> simp_all [conditionOf]

/-- A removed supply is ABSENT, whatever becomes of its slot (R49). -/
theorem removeSupply_figuresKept (p : Psu) (s : State) : FiguresKept s (removeSupply p s) := by
  have frame := updSupply_keeps p
    (fun r => { r with present := false, condition := .absent, capacity := 0, removeTimer := none }) s
  have record (q) := supplyRec_updSupply p q
    (fun r => { r with present := false, condition := .absent, capacity := 0, removeTimer := none }) s
  unfold removeSupply
  simp only
  generalize updSupply p
    (fun r => { r with present := false, condition := .absent, capacity := 0, removeTimer := none }) s = t at *
  have cleared := clearSlot_keeps (slotOfPsu p) t
  refine (RecordsKept.evaluated ⟨fun law => clearSlot_scanLaw _ (scanLaw_congr frame (law := law)),
    (IdentsMove.of_keeps frame).trans (clearSlot_idents _ t), fun law q => ?_⟩ _).trans (testHold_figuresKept _)
  have written := clearSlot_written (k := slotOfPsu p) (scanLaw_congr frame (law := law.scans))
  by_cases hq : q = p
  · subst hq
    rw [cleared.supplyRec_eq q, record, if_pos rfl]
    exact ⟨rfl, rfl⟩
  · refine SupplyTrue.congr_of_eq (law.supplies q) ?_ ?_
    · rw [cleared.supplyRec_eq q, record, if_neg hq]
    · rw [← frame.slotRec_eq]
      exact written.others _ fun e => hq (slotOfPsu_injective e)

/-! ### Bays -/

/-- A bay's loss of power, its arrival and its evaluation (R9, R12 to R14). -/
theorem dropTo_figuresKept (b : Bay) (st : BayState) (s : State) : FiguresKept s (dropTo b st s) :=
  ((RecordsKept.of_keeps (updBay_keeps b _ s)).and (enterState_keeps b st _)).evaluated _

theorem leaveOn_figuresKept (b : Bay) (s : State) : FiguresKept s (leaveOn b s) := .of_keeps (leaveOn_keeps b s)

theorem queuePart_not_figures (r : Port) :
    ∀ p ∈ Part.fans :: Part.bays :: figureParts, p ∉ queuePart r :: reportParts := by
  cases r <;> simp [queuePart, figureParts, reportParts]

theorem flush_figuresKept (r : Port) (s : State) : FiguresKept s (flush r s) :=
  .of_keeps ((flush_keeps r s).within (l := queuePart r :: reportParts) (by simp [reportParts]))
    (queuePart_not_figures r)

/-- A detected bay is evaluated before its slot is asked for, and IDENTIFYING counts as DETECTED (R3, R52). -/
theorem enterDetected_figuresKept (b : Bay) (s : State) : FiguresKept s (enterDetected b s) := by
  have h := ((RecordsKept.of_keeps (enterState_keeps b .detected s)).evaluated (.bay b)).trans
    (requestScan_figuresKept (slotOfBay b) _)
  unfold enterDetected
  simp only
  split
  · next e => exact h.trans (enterState_figuresKept (by rw [e]; rfl) (by rw [e]; rfl))
  · exact h

theorem insertBay_figuresKept (b : Bay) (s : State) : FiguresKept s (insertBay b s) :=
  (updBay_figuresKept ⟨rfl, rfl, fun _ => rfl⟩).trans (enterDetected_figuresKept b _)

theorem completeRamp_figuresKept {b : Bay} {s : State} (h : bayState s b = .ramping) :
    FiguresKept s (completeRamp b s) := by
  have timer : FiguresKept s (updBay b (fun r => { r with rampTimer := none }) s) :=
    updBay_figuresKept ⟨rfl, rfl, fun _ => rfl⟩
  have state : bayState (updBay b (fun r => { r with rampTimer := none }) s) b = .ramping := by
    rw [bayState, bayRec_updBay_self]; exact h
  exact ((timer.trans (enterState_figuresKept (by rw [state]; rfl) (by rw [state]; rfl))).and
    (updThermal_keeps b _ _)).and (rampEndPowered_keeps b _)

theorem takeAdmission_figuresKept (b : Bay) (s : State) : FiguresKept s (takeAdmission b s) :=
  ((((RecordsKept.of_keeps (leaveWaitList_keeps b s)).and (updBay_keeps b _ _)).and (enterState_keeps b _ _)).and
    (updPbu_seq_keeps _ _)).evaluated _

theorem answerAdmission_figuresKept (b : Bay) (s : State) : FiguresKept s (answerAdmission b s) := by
  unfold answerAdmission
  split
  · simp only
    split
    · exact (takeAdmission_figuresKept b s).trans (completeRamp_figuresKept (takeAdmission_bayState b s))
    · exact takeAdmission_figuresKept b s
  · exact (FiguresKept.of_keeps (updPbu_seq_keeps _ s)).and (evaluateHead_keeps _)

theorem powerFault_figuresKept (b : Bay) (s : State) : FiguresKept s (powerFault b s) := by
  unfold powerFault
  split
  · exact (leaveOn_figuresKept b s).trans (dropTo_figuresKept b _ _)
  · exact (flush_figuresKept (.bay b) s).trans (dropTo_figuresKept b _ _)
  · exact .refl s

theorem accepting_standbyState (s : State) (b : Bay) : accepting (standbyState s b) = true := by
  unfold standbyState
  split <;> rfl

/-- A stop that begins keeps the bay's grant (R11, log 25). -/
theorem beginStop_figuresKept {b : Bay} {s : State} (h : bayState s b = .poweredOn) :
    FiguresKept s (beginStop b s) := by
  have state : bayState (updBay b (fun r => { r with
      sdr := true, stopTimer := some (s.pbu.policy.stopTimeout * 1000) }) (leaveOn b s)) b = .poweredOn := by
    rw [bayState, bayRec_updBay_self, (leaveOn_keeps b s).bayRec_eq]; exact h
  exact ((leaveOn_figuresKept b s).trans (updBay_figuresKept ⟨rfl, rfl, fun _ => rfl⟩)).trans
    (enterState_figuresKept (by rw [state]; rfl) (by rw [state]; rfl))

theorem cancelWait_figuresKept {b : Bay} {s : State} (h : bayState s b = .waitPower) :
    FiguresKept s (cancelWait b s) := by
  have state : bayState (updBay b (fun r => { r with adopted := false }) (leaveWaitList b s)) b = .waitPower := by
    rw [bayState, bayRec_updBay_self, (leaveWaitList_keeps b s).bayRec_eq]; exact h
  refine FiguresKept.and (((FiguresKept.of_keeps (leaveWaitList_keeps b s)).trans
    (updBay_figuresKept ⟨rfl, rfl, fun _ => rfl⟩)).trans (enterState_figuresKept ?_ ?_)) (evaluateHead_keeps _)
  · rw [state, accepting_standbyState]; rfl
  · rw [state, hasMain_standbyState]; rfl

theorem forceOff_figuresKept (b : Bay) (s : State) : FiguresKept s (forceOff b s) := by
  unfold forceOff
  split
  · exact (leaveOn_figuresKept b s).trans (dropTo_figuresKept b _ _)
  · exact dropTo_figuresKept b _ s
  · exact (dropTo_figuresKept b _ s).trans (rampEndUnpowered_figuresKept b _)
  · next h => exact cancelWait_figuresKept h
  · exact .refl s

theorem shedAnswered_figuresKept (b : Bay) (s : State) : FiguresKept s (shedAnswered b s) := by
  have shed : RecordsKept s (shedTo b s) := by
    rw [shedTo_eq]
    exact (RecordsKept.of_keeps (shedJoins_keeps b s)).and (enterState_updBay_keeps b _ _ _)
  have taken : FiguresKept s (takeShed b s) :=
    ((shed.and (updEmg_keeps _ _)).evaluated _).trans (rampEndUnpowered_figuresKept b _)
  have answer (s : State) : FiguresKept s (answerShed s) := by
    unfold answerShed
    split
    · exact handShed_figuresKept s
    · exact (endEmergency_figuresKept _ s).and (evaluateHead_keeps _)
  unfold shedAnswered
  split
  · exact taken.trans (answer _)
  · exact (evaluate_figuresKept _ s).trans (answer _)

theorem removeBay_figuresKept (b : Bay) (s : State) : FiguresKept s (removeBay b s) := by
  have bay : slotKind (slotOfBay b) ≠ .psu := by rw [slotKind_slotOfBay]; decide
  rw [removeBay_eq]
  exact (RecordsKept.evaluated (((((RecordsKept.of_keeps (leaveOn_keeps b s)).and (leaveWaitList_keeps b _)).trans
    (clearSlot_recordsKept bay _)).and (updThermal_keeps b _ _)).and (enterState_updBay_keeps b _ _ _)) _).trans
    (rampEndUnpowered_figuresKept b _)

theorem isolate_figuresKept (b : Bay) (s : State) : FiguresKept s (isolate b s) :=
  ((((leaveOn_figuresKept b s).and (leaveWaitList_keeps b _)).trans (abortScan_figuresKept _ _)).trans
    (dropTo_figuresKept b _ _)).trans (rampEndUnpowered_figuresKept b _)

theorem requestPower_figuresKept {b : Bay} {s : State} (h : bayState s b = .standby) :
    FiguresKept s (requestPower b s) := by
  have state : bayState (joinWaitList b s) b = .standby := by rw [(joinWaitList_keeps b s).bayState_eq, h]
  exact ((FiguresKept.of_keeps (joinWaitList_keeps b s)).trans
    (enterState_figuresKept (by rw [state]; rfl) (by rw [state]; rfl))).and (evaluateHead_keeps _)

theorem setBayPolicy_figuresKept (b : Bay) (priority cap : Nat) (u : Uplink) (z : Zone) (restore : Bool) (s : State) :
    FiguresKept s (setBayPolicy b priority cap u z restore s) := by
  have written : FiguresKept s (updBay b (policyRec s priority cap u z restore) s) :=
    updBay_figuresKept ⟨rfl, rfl, fun _ => rfl⟩
  have moved (s : State) : FiguresKept s (replaceInList b s) := by
    unfold replaceInList
    split
    · exact (FiguresKept.of_keeps (moveInWaitList_keeps b s)).and (evaluateHead_keeps _)
    · exact .refl s
  have granted (s : State) : FiguresKept s (recomputeGrant b s) := by
    unfold recomputeGrant
    simp only
    split
    · exact (RecordsKept.of_keeps (updBay_keeps b _ s)).evaluated _
    · exact .refl s
  exact (written.trans (moved _)).trans (granted _)

/-! ### Fans (R106, R107, R113, R118) -/

/-- A change of duty leaves an absent fan absent, and no other fan (R113). -/
theorem setDuty_absent_iff (d : Nat) (r : FanRec) : (setDuty d r).state = .absent ↔ r.state = .absent := by
  unfold setDuty
  split
  · rfl
  · simp only
    split
    · next h => rcases h.2.2 with e | e <;> simp [e]
    · rfl

/-- A judged window moves a fan between RUNNING and FAILED alone (R118). -/
theorem judgeWindow_absent_iff (low : Bool) (r : FanRec) :
    (judgeWindow low r).state = .absent ↔ r.state = .absent := by
  unfold judgeWindow
  split
  · next h => split <;> simp [h]
  · next h => simp [h]
  · next h => simp [h]
  · next h => split <;> simp [h]
  all_goals exact Iff.rfl

/-- The end of a window leaves an absent fan absent, and no other fan (R116 to R118). -/
theorem endWindow_absent_iff (ident : Option (Nat × Nat)) (r : FanRec) :
    (endWindow ident r).state = .absent ↔ r.state = .absent := by
  unfold endWindow
  simp only
  split
  · next h =>
    unfold countSpinup
    split <;> simp [h]
  iterate 2
    split
    · exact judgeWindow_absent_iff _ _
    · rfl
  · rfl

theorem tachWindow_figuresKept (f : Fan) (s : State) : FiguresKept s (tachWindow f s) := by
  have written : FiguresKept s (updFan f (fun _ => nextWindow (endWindow (fanIdentity s f) (fanRec s f))) s) :=
    updFan_figuresKept (endWindow_absent_iff _ _)
  unfold tachWindow raiseFanFault
  simp only
  split
  · exact written.trans (raise_figuresKept _ _)
  · exact written.trans (raise_figuresKept _ _)
  · exact written

theorem driveZone_figuresKept (z : Zone) (s : State) : FiguresKept s (driveZone z s) := by
  have airflow (a : Airflow) (s : State) : FiguresKept s (changeAirflow z a s) := by
    unfold changeAirflow
    split
    · exact .refl s
    · refine ((FiguresKept.of_keeps (updAir_keeps z _ s)).trans (raise_figuresKept _ _)).trans
        (updBays_figuresKept _ fun b r => ?_)
      split <;> exact ⟨rfl, rfl, fun _ => rfl⟩
  refine (((FiguresKept.of_keeps (updAir_keeps z _ s)).trans (airflow _ _)).and (updAir_keeps z _ _)).trans
    (updFans_figuresKept _ fun i r => ?_)
  split
  · exact setDuty_absent_iff _ r
  · rfl

theorem controlZones_figuresKept (s : State) : FiguresKept s (controlZones s) := by
  have restarted : KeepsAllBut [.controlTimer] s
      { s with thu := { s.thu with controlTimer := some Config.controlPeriod } } := by
    intro p hp
    cases p <;> simp [Part.same] at hp ⊢
  exact ((((FiguresKept.of_keeps restarted).and (computeZones_keeps _)).trans (driveZone_figuresKept 0 _)).trans
    (driveZone_figuresKept 1 _)).trans (driveZone_figuresKept 2 _)

theorem insertFan_figuresKept (f : Fan) (s : State) : FiguresKept s (insertFan f s) :=
  ((RecordsKept.of_keeps (updFan_keeps f _ s)).trans (requestScan_recordsKept (slotOfFan f) _)).evaluated _

theorem removeFan_figuresKept (f : Fan) (s : State) : FiguresKept s (removeFan f s) :=
  ((RecordsKept.of_keeps (updFan_keeps f _ s)).trans
    (clearSlot_recordsKept (by rw [slotKind_slotOfFan]; decide) _)).evaluated _

/-! ### Frames (R132 to R138, R150 to R161) -/

theorem countRefused_figuresKept (r : Port) (s : State) : FiguresKept s (countRefused r s) := by
  unfold countRefused
  cases r with
  | bay b => exact updBay_figuresKept ⟨rfl, rfl, fun _ => rfl⟩
  | uplink u => exact .of_keeps (updUplink_keeps u _ s)

theorem offer_figuresKept (r : Port) (c : Copy) (s : State) : FiguresKept s (offer r c s) :=
  .of_keeps (offer_keeps r c s) (queuePart_not_figures r)

theorem putQueue_figuresKept (r : Port) (q : Queue) (s : State) : FiguresKept s (putQueue r q s) :=
  .of_keeps ((putQueue_keeps r q s).within (l := queuePart r :: reportParts) (by simp)) (queuePart_not_figures r)

theorem countDropped_figuresKept (n : Nat) (r : Port) (s : State) : FiguresKept s (countDropped n r s) :=
  putQueue_figuresKept r _ s

theorem completeTransmission_figuresKept (r : Port) (s : State) : FiguresKept s (completeTransmission r s) :=
  .of_keeps ((completeTransmission_keeps r s).within (l := queuePart r :: reportParts) (by simp [reportParts]))
    (queuePart_not_figures r)

theorem flood_figuresKept (skip : Option Bay) (f : RxFrame) (c : Nat) (s : State) :
    FiguresKept s (flood skip f c s) := by
  refine FiguresKept.foldl (fun s b => ?_) _ s
  unfold floodBay
  split
  · split
    · exact offer_figuresKept _ _ s
    · exact .refl s
  · exact .refl s

theorem upstream_figuresKept (b : Bay) (f : RxFrame) (s : State) : FiguresKept s (upstream b f s) := by
  have toUplink (c : Nat) (s : State) : FiguresKept s (sendUplink b f c s) := by
    unfold sendUplink
    split
    · exact offer_figuresKept _ _ s
    · exact updBay_figuresKept ⟨rfl, rfl, fun _ => rfl⟩
  have destination (c : Nat) (s : State) : FiguresKept s (upstreamDestination b f c s) := by
    unfold upstreamDestination
    split
    · exact (toUplink c s).trans (flood_figuresKept _ _ _ _)
    · split
      · split
        · exact .refl s
        · split
          · exact offer_figuresKept _ _ s
          · exact toUplink c s
      · exact toUplink c s
  unfold upstream
  split
  · exact .refl s
  · split
    · exact (updBay_figuresKept ⟨rfl, rfl, fun _ => rfl⟩).trans (raise_figuresKept _ _)
    · exact (FiguresKept.of_keeps (learn_keeps b _ _ _ s)).trans (destination _ _)

theorem downstream_figuresKept (u : Uplink) (f : RxFrame) (s : State) : FiguresKept s (downstream u f s) := by
  unfold downstream
  split
  · exact .refl s
  · simp only
    split
    · exact flood_figuresKept _ _ _ s
    · split
      · split
        · exact flood_figuresKept _ _ _ s
        · exact offer_figuresKept _ _ s
      · exact flood_figuresKept _ _ _ s

theorem receiveFrame_figuresKept (p : Port) (f : RxFrame) (s : State) : FiguresKept s (receiveFrame p f s) := by
  have service (r : Port) : FiguresKept s (offerService r f s) := .of_keeps (offerService_keeps r f s)
  unfold receiveFrame bayFrame uplinkFrame
  split
  · split
    · split
      · split
        · exact service _
        · exact countRefused_figuresKept _ s
      · split
        · exact upstream_figuresKept _ f s
        · exact countDropped_figuresKept 1 _ s
    · exact .refl s
  · split
    · simp only
      split
      · split
        · exact service _
        · exact countRefused_figuresKept _ s
      · split
        · exact downstream_figuresKept _ f s
        · exact countDropped_figuresKept 1 _ s
    · exact .refl s

end Sys2Proof.Machine
end

section
/-! SUPPORT. The laws of scanning and of the figures at the beginning of a reset (O58, O59). -/

namespace Sys2Proof.Machine

set_option Elab.async false

theorem updSve_keeps (f : Sve → Sve) (s : State) :
    KeepsAllBut [.flags, .mask, .alertTarget, .partIdentity, .softReset] s (updSve f s) := by
  intro p hp
  cases p <;> simp [Part.same, updSve] at hp ⊢

theorem updStb_keeps (f : Stb → Stb) (s : State) :
    KeepsAllBut [.stations, .learnMiss, .agingSteps, .sweepTimer] s (updStb f s) := by
  intro p hp
  cases p <;> simp [Part.same, updStb] at hp ⊢

theorem updSve_figuresKept (f : Sve → Sve) (s : State) : FiguresKept s (updSve f s) := .of_keeps (updSve_keeps f s)

/-- With no slot queued or in flight the law asks that every slot rests. -/
theorem scanLaw_of_rests {t : State} (queue : t.ise.queue = []) (scan : t.ise.scan = none)
    (rests : ∀ k, SlotOrderly False False (slotRec t k)) : ScanLaw t := by
  refine (scanLaw_iff t).mpr ⟨⟨queue ▸ List.nodup_nil, fun k => ?_⟩, fun _ => queue⟩
  have flight : ¬scanning t k = true := by simp [scanning_iff, scan]
  simpa [queue, flight] using rests k

/-- A supply that is absent and counts nothing (R47). -/
theorem supplyTrue_absent {t : State} {p : Psu}
    (record : (supplyRec t p).present = false ∧ (supplyRec t p).condition = .absent ∧ (supplyRec t p).capacity = 0) :
    SupplyTrue t p := by
  obtain ⟨present, condition, capacity⟩ := record
  unfold SupplyTrue
  simp [present, condition, capacity, conditionOf]

/-! ### The beginning of a reset (R178) -/

theorem slotRec_beginReset (powerOn : Bool) (m : Mode) (s : State) (k : Slot) :
    slotRec (beginReset powerOn m s) k = endSlotWork (slotRec s k) := by
  rw [slotRec, beginReset, Bank.read_update, slotRec]

theorem supplyRec_beginReset (powerOn : Bool) (m : Mode) (s : State) (p : Psu) :
    supplyRec (beginReset powerOn m s) p = endSupplyWork (supplyRec s p) := by
  rw [supplyRec, beginReset, endPbuWork, Bank.read_update, supplyRec]

theorem endSlotWork_rests (r : SlotRec) : SlotOrderly False False (endSlotWork r) where
  queued := by simp [endSlotWork]
  flight := by simp [endSlotWork]
  status := by by_cases h : r.status = .scanning <;> simp [endSlotWork, h]
  retry := by simp [endSlotWork]
  waits := by simp [endSlotWork]
  announced := fun _ => rfl

theorem endSlotWork_moves (k : Slot) (r : SlotRec) : SlotMoves k r (endSlotWork r) := by
  refine .inl ⟨rfl, fun c => ?_⟩
  by_cases h : r.status = .scanning <;> simp [endSlotWork, h] at c
  exact c

theorem endSlotWork_reading (r : SlotRec) : SameReading r (endSlotWork r) := by
  by_cases h : r.status = .scanning
  · exact .inr ⟨.inr h, .inl (by simp [endSlotWork, h])⟩
  · exact .inl ⟨by simp [endSlotWork, h], rfl⟩

/-- In reset no figures are asked for. -/
theorem beginReset_figuresKept {powerOn : Bool} {m : Mode} (h : m ≠ .running) (s : State) :
    FiguresKept s (beginReset powerOn m s) := by
  refine ⟨⟨fun _ => scanLaw_of_rests rfl rfl fun k => ?_, fun k => ?_, fun law p => ?_⟩, fun _ run => absurd run h⟩
  · rw [slotRec_beginReset]; exact endSlotWork_rests _
  · rw [slotRec_beginReset]; exact endSlotWork_moves k _
  · refine SupplyTrue.congr (law.supplies p) ?_ ?_
    · rw [supplyRec_beginReset]; exact ⟨rfl, rfl, rfl, rfl⟩
    · rw [slotRec_beginReset]; exact endSlotWork_reading _

end Sys2Proof.Machine
end

section
/-! SUPPORT. The beginning of a reset (O4), and the takeover that completes a warm reset (O5). -/

namespace Sys2Proof.Machine

set_option Elab.async false

/-! ### The beginning of a reset (R178) -/

theorem beginReset_begun (powerOn : Bool) (m : Mode) (s : State) : ResetBegun powerOn s (beginReset powerOn m s) := by
  refine ⟨fun b => ?_, slotRec_beginReset powerOn m s, rfl, rfl, supplyRec_beginReset powerOn m s, rfl, rfl, rfl, rfl,
    rfl, fun f => ?_, rfl, rfl, fun p => ?_, rfl, rfl, rfl, fun part hp => ?_⟩
  · rw [bayRec, beginReset, Bank.read_update, endBayWork, Bool.and_comm (!powerOn)]
    rfl
  · rw [fanRec, beginReset, Bank.read_update]
    rfl
  · cases p <;> simp [queueOf, beginReset, endFbmWork, endQueueWork]
  · cases part <;> simp [Part.same, beginReset, endPbuWork] at hp ⊢

/-- The level of a line is no work in progress. -/
theorem ResetBegun.before {powerOn : Bool} {f : Pins → Pins} {s t : State} (h : ResetBegun powerOn (updPins f s) t) :
    ResetBegun powerOn s t := by
  obtain ⟨bays, slots, queue, scan, supplies, gap, seq, timer, hold, emg, fans, control, sweep, queues, svc, free, soft,
    frame⟩ := h
  refine ⟨bays, slots, queue, scan, supplies, gap, seq, timer, hold, emg, fans, control, sweep, fun p => ?_, svc, free,
    soft, (updPins_keeps f s).within.trans frame⟩
  cases p <;> exact queues _

/-- Settles O4: the work ends record by record, and the line moves besides. -/
theorem resetBeginningEndsAllWork : Obligations.ResetBeginningEndsAllWork := by
  refine ⟨fun s => ⟨_, rfl, rfl, rfl, beginReset_begun true _ s⟩, fun s run => ?_, fun s reset => ?_⟩
  · have result : exec .resetNAsserted s
        = .next (beginReset false .lineReset (updPins (fun p => { p with resetN := true }) s)) := by
      simp [exec, execResetNAsserted, lineAsserted, run]
    exact ⟨_, result, rfl, rfl, (beginReset_begun false _ _).before⟩
  · have line : lineAsserted s = updPins (fun p => { p with resetN := true }) s := by
      unfold lineAsserted
      cases h : s.mode <;> simp_all
    simp [exec, execResetNAsserted, line, updPins]

end Sys2Proof.Machine
end

section
/-! SUPPORT. The takeover that completes a warm reset (O5). -/

namespace Sys2Proof.Machine

set_option Elab.async false

/-! ### The tables at their reset values (R177) -/

/-- The blocks at their reset values, over the lines as they stand (R177, R178). -/
def freshPart (cause : ResetCause) (straps : BitVec 4) (s : State) : State :=
  resetBlocks cause (withStraps straps s.pins) s.pending

theorem freshPart_tablesFresh (cause : ResetCause) (straps : BitVec 4) (s : State) :
    TablesFresh s (freshPart cause straps s) := by
  refine ⟨rfl, rfl, fun b => ?_, fun b => ?_, fun z => ?_, fun z => ?_, rfl, rfl, fun u => ?_, rfl, fun b => ?_,
    fun u => ?_, rfl, rfl, rfl, rfl, rfl, rfl, fun c => ?_, rfl, rfl⟩
  · exact Bank.read_tab _ b
  · exact Bank.read_tab _ b
  · exact Bank.read_tab _ z
  · exact Bank.read_tab _ z
  · exact Bank.read_tab _ u
  · exact Bank.read_tab _ b
  · exact Bank.read_tab _ u
  · exact Bank.read_tab _ c

/-- The parts of the tables that every reset leaves alike. -/
def tableParts : List Part :=
  [.mode, .pending, .windows, .thermal, .zones, .air, .controlTimer, .stations, .learnMiss, .agingSteps, .sweepTimer,
    .uplinks, .pool, .bayQueues, .uplinkQueues, .svcQueue, .powerPolicy, .waitList, .sequencer, .mask, .alertTarget,
    .softReset]

theorem TablesFresh.after {l : List Part} {s t u : State} (h : TablesFresh s t) (k : KeepsAllBut l t u)
    (hl : ∀ p ∈ tableParts, p ∉ l := by decide) : TablesFresh s u := by
  have stb := k.stb_eq fun p hp => hl p (by revert p; decide)
  obtain ⟨mode, pending, windows, entries, zones, air, control, tables, uplinks, free, bayQ, upQ, svc, policy, list,
    stamp, seq, gap, mask, target, soft⟩ := h
  have unmasked : u.sve.unmasked = t.sve.unmasked := k .mask (hl _ (by decide))
  obtain ⟨list', stamp'⟩ := k .waitList (hl _ (by decide))
  obtain ⟨seq', gap'⟩ := k .sequencer (hl _ (by decide))
  refine ⟨(k.mode_eq (hl _ (by decide))).trans mode, Part.same_trans .pending pending (k .pending (hl _ (by decide))),
    fun b => (k.window_eq b (hl _ (by decide))).trans (windows b),
    fun b => (k.thermalEntry_eq b (hl _ (by decide))).trans (entries b),
    fun z => (k.zoneRec_eq z (hl _ (by decide))).trans (zones z),
    fun z => (k.zoneAir_eq z (hl _ (by decide))).trans (air z),
    Eq.trans (k .controlTimer (hl _ (by decide))) control, stb.trans tables,
    fun i => (k.uplinkRec_eq i (hl _ (by decide))).trans (uplinks i), Eq.trans (k .pool (hl _ (by decide))) free,
    fun b => (k.bayQueue_eq b (hl _ (by decide))).trans (bayQ b),
    fun i => (k.uplinkQueue_eq i (hl _ (by decide))).trans (upQ i), Eq.trans (k .svcQueue (hl _ (by decide))) svc,
    Eq.trans (k .powerPolicy (hl _ (by decide))) policy, list'.trans list, stamp'.trans stamp, seq'.trans seq,
    gap'.trans gap, fun c => by rw [unmasked]; exact mask c, Eq.trans (k .alertTarget (hl _ (by decide))) target,
    Eq.trans (k .softReset (hl _ (by decide))) soft⟩

/-! ### Events under the reset mask (R170, R176) -/

/-- Every event class is masked, as after a reset. -/
def AllMasked (s : State) : Prop := ∀ c, Bank.read s.sve.unmasked c = false

theorem AllMasked.after {l : List Part} {s t : State} (h : AllMasked s) (k : KeepsAllBut l s t)
    (hl : Part.mask ∉ l := by decide) : AllMasked t := fun c => by
  rw [show t.sve.unmasked = s.sve.unmasked from k .mask hl]; exact h c

theorem raise_masked {s : State} (h : AllMasked s) (c : Cause) : raise c s = setFlag c s :=
  raise_quiet (.inl (by rw [← Bool.not_eq_true, alertDue_iff, h]; simp))

/-- The BAY_CHANGE of several bays leaves the last of them in the record, and no other flag (R180). -/
theorem raiseBays_masked (l : List Bay) {s t : State} (h : AllMasked s)
    (ht : t = l.foldl (fun t b => raise (.bayChange b) t) s) :
    KeepsAllBut [.flags] s t ∧ (∀ c, c ≠ 0 → flagRec t c = flagRec s c) ∧ (l = [] → flagRec t 0 = flagRec s 0)
      ∧ (l ≠ [] → ∃ b ∈ l, Raised (.bayChange b) t) := by
  induction l generalizing s with
  | nil => subst ht; exact ⟨KeepsAllBut.refl _ _, fun c _ => rfl, fun _ => rfl, fun n => absurd rfl n⟩
  | cons b rest ih =>
    rw [List.foldl_cons, raise_masked h] at ht
    have own (c) : flagRec (setFlag (.bayChange b) s) c
        = if c = 0 then { raised := true, cause := some (.bayChange b) } else flagRec s c := flagRec_setFlag ..
    have first := setFlag_keeps (.bayChange b) s
    obtain ⟨frame, others, none_, some_⟩ := ih (h.after first) ht
    refine ⟨first.trans frame, fun c hc => ?_, fun n => by simp at n, fun _ => ?_⟩
    · rw [others c hc, own, if_neg hc]
    · by_cases empty : rest = []
      · exact ⟨b, by simp, by rw [Raised]; exact (none_ empty).trans (by rw [own, if_pos rfl])⟩
      · obtain ⟨c, hc, raised⟩ := some_ empty
        exact ⟨c, List.mem_cons_of_mem _ hc, raised⟩

/-! ### The batch of scan requests (R46) -/

/-- The record of a slot that a takeover has put on the queue. -/
def batchedSlot : SlotRec := { freshSlot with present := true, source := some .line, stage := .queued }

/-- The requests of fresh slots, while a scan is in flight, queue them in their order. -/
theorem requestBatch_busy (l : List Slot) {s t : State} (law : ScanLaw s) (nodup : l.Nodup)
    (fresh : ∀ k ∈ l, slotRec s k = freshSlot) (busy : s.ise.scan ≠ none)
    (ht : t = l.foldl (fun t k => requestScan k t) s) :
    KeepsAllBut [.slots, .scanQueue, .scan] s t ∧ t.ise.scan = s.ise.scan ∧ t.ise.queue = s.ise.queue ++ l
      ∧ ∀ k, slotRec t k = if k ∈ l then batchedSlot else slotRec s k := by
  induction l generalizing s with
  | nil => subst ht; exact ⟨KeepsAllBut.refl _ _, rfl, by simp, fun k => by simp⟩
  | cons h rest ih =>
    obtain ⟨unlisted, nodup⟩ := List.nodup_cons.mp nodup
    have record := fresh h List.mem_cons_self
    have frame : KeepsAllBut [.slots, .scanQueue, .scan] s (requestScan h s) := by
      rw [requestScan_unsettled (by simp [record, freshSlot]) (by simp [record, freshSlot])]
      exact engineTakes_freshRequest_keeps h s
    obtain ⟨-, -, queued, others⟩ := requestScan_fresh (k := h) law
    obtain ⟨own, queue, scan⟩ := queued (by simp [record, freshSlot]) busy
    have other (k) (hk : k ≠ h) : slotRec (requestScan h s) k = slotRec s k := others k hk
    obtain ⟨frame', scan', queue', slots⟩ := ih (requestScan_scanLaw h law) nodup
      (fun k hk => (other k (ne_of_mem_of_not_mem hk unlisted)).trans (fresh k (List.mem_cons_of_mem _ hk)))
      (by rwa [scan]) ht
    refine ⟨frame.trans frame', scan'.trans scan, by rw [queue', queue, List.append_assoc]; rfl, fun k => ?_⟩
    rw [slots]
    by_cases hk : k = h
    · subst hk
      rw [if_neg unlisted, if_pos List.mem_cons_self, own, record]
      rfl
    · simp [hk, other k hk]

/-- The requests of a batch of fresh slots: the first of them is in flight and the others are queued (R33, R46). -/
theorem requestBatch_taken (l : List Slot) {s t : State} (nodup : l.Nodup) (fresh : ∀ k, slotRec s k = freshSlot)
    (scan : s.ise.scan = none) (queue : s.ise.queue = []) (ht : t = l.foldl (fun t k => requestScan k t) s) :
    KeepsAllBut [.slots, .scanQueue, .scan] s t
      ∧ t.ise.scan = l.head?.map (fun k => { slot := k, timer := 20 }) ∧ t.ise.queue = l.tail
      ∧ ∀ k, slotRec t k =
        if l.head? = some k then
          { freshSlot with present := true, source := some .line, stage := .inFlight, status := .scanning }
        else if k ∈ l then { freshSlot with present := true, source := some .line, stage := .queued }
        else freshSlot := by
  cases l with
  | nil => subst ht; exact ⟨KeepsAllBut.refl _ _, scan, queue, fun k => by simpa using fresh k⟩
  | cons h rest =>
    obtain ⟨unlisted, nodup⟩ := List.nodup_cons.mp nodup
    have law : ScanLaw s := scanLaw_of_rests queue scan fun k => by rw [fresh]; exact resetSlot_rests
    have frame : KeepsAllBut [.slots, .scanQueue, .scan] s (requestScan h s) := by
      rw [requestScan_unsettled (by simp [fresh, freshSlot]) (by simp [fresh, freshSlot])]
      exact engineTakes_freshRequest_keeps h s
    obtain ⟨-, taken, -, others⟩ := requestScan_fresh (k := h) law
    obtain ⟨own, queue', scan'⟩ := taken (by simp [fresh, freshSlot]) scan
    have other (k) (hk : k ≠ h) : slotRec (requestScan h s) k = freshSlot := (others k hk).trans (fresh k)
    obtain ⟨frame', scan'', queue'', slots⟩ := requestBatch_busy rest (requestScan_scanLaw h law) nodup
      (fun k hk => other k (ne_of_mem_of_not_mem hk unlisted)) (by simp [scan']) ht
    refine ⟨frame.trans frame', scan''.trans scan', by rw [queue'', queue', queue]; rfl, fun k => ?_⟩
    rw [slots]
    by_cases hk : k = h
    · subst hk
      rw [if_neg unlisted, own, fresh, if_pos (List.head?_cons ..)]
      rfl
    · simp [hk, Ne.symm hk, other k hk, batchedSlot]

/-- No slot stands twice in the batch of a takeover. -/
theorem takeoverBatch_nodup (adopted : Bay → Bool) (pins : Pins) : (takeoverBatch adopted pins).Nodup := by
  have distinct {n : Nat} {f : Fin n → Slot} (p : Fin n → Bool) (inj : Function.Injective f) :
      (((List.finRange n).filter p).map f).Nodup := ((List.nodup_finRange n).filter _).map inj
  have fans : Function.Injective slotOfFan := fun f g h => by
    have := slotOwner_slotOfFan f
    rw [h, slotOwner_slotOfFan] at this
    exact (SlotOwner.fan.inj this).symm
  refine List.nodup_append.mpr ⟨List.nodup_append.mpr ⟨distinct _ fun _ _ => slotOfPsu_injective,
    distinct _ fun _ _ => slotOfBay_injective, fun a ha b hb => ?_⟩, distinct _ fans, fun a ha b hb => ?_⟩
  · obtain ⟨p, -, rfl⟩ := List.mem_map.mp ha
    obtain ⟨c, -, rfl⟩ := List.mem_map.mp hb
    exact fun e => by simpa using congrArg slotOwner e
  · obtain ⟨f, -, rfl⟩ := List.mem_map.mp hb
    rcases List.mem_append.mp ha with ha | ha <;> obtain ⟨x, -, rfl⟩ := List.mem_map.mp ha <;>
      exact fun e => by simpa using congrArg slotOwner e

/-! ### The hold's beginning (R85, R86) -/

/-- The part with the hold set or cleared and its figures recorded. -/
def heldAs (hold : Bool) (timer : Timer) (s : State) : State :=
  recordFigures (updPbu (fun p => { p with hold := hold, holdTimer := timer }) s)

theorem heldAs_keeps (hold : Bool) (timer : Timer) (s : State) :
    KeepsAllBut [.hold, .figures] s (heldAs hold timer s) :=
  ((updPbu_hold_keeps _ _ s).within (l := [.hold, .figures])).and (recordFigures_keeps _)

theorem heldAs_current (hold : Bool) (timer : Timer) (s : State) : FiguresCurrent (heldAs hold timer s) := rfl

theorem heldAs_hold (hold : Bool) (timer : Timer) (s : State) :
    (heldAs hold timer s).pbu.hold = hold ∧ (heldAs hold timer s).pbu.holdTimer = timer := ⟨rfl, rfl⟩

/-- While a supply is PENDING the hold stands (R86). -/
theorem startHold_stands {s : State} {p : Psu} (pending : (supplyRec s p).condition = .pending) :
    startHold s = heldAs true (some 5000) s := by
  have frame := heldAs_keeps true (some 5000) s
  have waits : anyPending (heldAs true (some 5000) s) = true := by
    rw [← Bool.not_eq_false, anyPending_iff]
    exact fun none_ => none_ p ((congrArg SupplyRec.condition (frame.supplyRec_eq p)).trans pending)
  have eq : startHold s = testHold (heldAs true (some 5000) s) := rfl
  rw [eq, testHold, if_neg (by simp [waits])]

/-- An emergency begun with its class masked (R72, R176). -/
def emergencyBegun (source : EmgSource) (s : State) : State :=
  setFlag (.emergency .began source)
    (updEmg (fun e => { e with graceTimer := some s.pbu.policy.grace, phase := .grace, shedCount := 0 })
      (updBays (fun _ r => { r with emergencyCause := true })
        (updPbu (fun p => { p with ae2 := p.ae, ae := .closed }) s)))

theorem emergencyBegun_keeps (source : EmgSource) (s : State) :
    KeepsAllBut [.gates, .bays, .emergency, .flags] s (emergencyBegun source s) :=
  ((((updPbu_gates_keeps (fun p => p.ae) (fun _ => .closed) s).within (l := [.gates, .bays, .emergency, .flags])).and
    (updBays_keeps _ _)).and (updEmg_keeps _ _)).and (setFlag_keeps _ _)

theorem bayRec_emergencyBegun (source : EmgSource) (s : State) (b : Bay) :
    bayRec (emergencyBegun source s) b = followThrottle { bayRec s b with emergencyCause := true } := by
  rw [emergencyBegun, (setFlag_keeps _ _).bayRec_eq, bayRec_updEmg, bayRec_updBays, bayRec_updPbu]

theorem flagRec_emergencyBegun (source : EmgSource) (s : State) (c : EventClass) : flagRec (emergencyBegun source s) c
    = if c = 2 then { raised := true, cause := some (.emergency .began source) } else flagRec s c := flagRec_setFlag ..

/-- No supply counts, so that the base load exceeds what is available (R51, R54). -/
theorem overBudget_unsupplied {s : State} (current : FiguresCurrent s) (off : ∀ p, (supplyRec s p).condition ≠ .ok)
    (base : s.pbu.policy.baseLoad ≠ 0) : overBudget s = true := by
  have supplies : okCapacities s = [] := by simp [okCapacities, off]
  have available : s.pbu.figures.available = 0 := by rw [current]; simp [figuresOf, supplies]
  have load : s.pbu.figures.base = s.pbu.policy.baseLoad := by rw [current]; rfl
  have allocated : s.pbu.figures.base ≤ s.pbu.figures.allocated := by simp only [Figures.allocated]; omega
  simp only [overBudget, available, decide_eq_true_eq]
  omega

/-- With no supply present the hold ends as it starts, in an emergency (R86). -/
theorem startHold_ends {s : State} (off : ∀ p, (supplyRec s p).condition = .absent) (phase : s.pbu.emg.phase = .none)
    (list : s.pbu.waitList = []) (base : s.pbu.policy.baseLoad ≠ 0) (masked : AllMasked s) :
    startHold s = emergencyBegun .hold (heldAs false none s) := by
  have started := heldAs_keeps true (some 5000) s
  have none_ : anyPending (heldAs true (some 5000) s) = false := by
    rw [anyPending_iff]
    exact fun p => by rw [started.supplyRec_eq p, off p]; simp
  have eq : startHold s = testHold (heldAs true (some 5000) s) := rfl
  have ends : testHold (heldAs true (some 5000) s) = evaluate .hold (heldAs false none s) := by
    have on : (heldAs true (some 5000) s).pbu.hold = true := rfl
    rw [testHold, if_pos (by simp [on, none_])]
    rfl
  have frame := heldAs_keeps false none s
  have current := heldAs_current false none s
  have hold := (heldAs_hold false none s).1
  rw [eq, ends]
  have exceeds : overBudget (heldAs false none s) = true :=
    overBudget_unsupplied current (fun p => by rw [frame.supplyRec_eq p, off p]; simp) base
  replace masked := masked.after frame
  replace phase : (heldAs false none s).pbu.emg.phase = .none := phase
  replace list : (heldAs false none s).pbu.waitList = [] := list
  generalize heldAs false none s = t at *
  have began : compareBudget .hold t = beginEmergency .hold t := by simp [compareBudget, phase, exceeds, hold]
  have raised : beginEmergency .hold t = emergencyBegun .hold t := by
    rw [beginEmergency, emergencyBegun]
    exact raise_masked (masked.after (((updPbu_gates_keeps (fun p => p.ae) (fun _ => .closed) t).within
      (l := [.gates, .bays, .emergency])).and (updBays_keeps _ _) |>.and (updEmg_keeps _ _))) _
  rw [evaluate, recordFigures_current current, began, raised, evaluateHead_nil]
  exact list

end Sys2Proof.Machine
end

section
/-! SUPPORT. The takeover in its parts, and O5 itself. -/

namespace Sys2Proof.Machine

set_option Elab.async false

/-- The takeover up to its scan requests (R180, R181). -/
def takenModules (cause : ResetCause) (straps : BitVec 4) (s : State) : State :=
  takeModules (raiseAdopted (adopts s) (takeBays (adopts s) (Bank.read s.pins.bayPres) (freshPart cause straps s)))

/-- The takeover up to its hold (R46). -/
def takenScans (cause : ResetCause) (straps : BitVec 4) (s : State) : State :=
  (takeoverBatch (adopts s) s.pins).foldl (fun t k => requestScan k t) (takenModules cause straps s)

/-- The takeover up to its hold, with the count of adopted bays (R174). -/
def takenCount (cause : ResetCause) (straps : BitVec 4) (s : State) : State :=
  updSve (fun v => { v with adoptedCount := countFin 16 (adopts s) }) (takenScans cause straps s)

theorem takeover_eq (cause : ResetCause) (straps : BitVec 4) (s : State) :
    takeover cause straps s = startHold (takenCount cause straps s) := rfl

/-- The record of a bay that the takeover leaves (R180). -/
def takenBay (adopted present : Bool) (b : Bay) : BayRec :=
  if adopted then { freshBay b with state := .poweredOn, adopted := true, grant := 500, pen := true }
  else { freshBay b with insertTimer := if present then some 200 else none }

/-- The record of a supply that the takeover leaves (R48, R181). -/
def takenSupply (present psuOk : Bool) : SupplyRec :=
  if present then { freshSupply psuOk with present := true, condition := .pending } else freshSupply psuOk

/-- The record of a fan that the takeover leaves (R106, R181). -/
def takenFan (present : Bool) (f : Fan) : FanRec :=
  if present then { freshFan f with state := .spinup, tachTimer := some 1000, drive := 1000 } else freshFan f

/-- The blocks that the takeover writes before the hold starts. -/
structure Taken (cause : ResetCause) (straps : BitVec 4) (s t : State) : Prop where
  pins : t.pins = withStraps straps s.pins
  tables : TablesFresh s t
  bays : ∀ b, bayRec t b = takenBay (adopts s b) (Bank.read s.pins.bayPres b) b
  supplies : ∀ p, supplyRec t p = takenSupply (Bank.read s.pins.psuPres p) (Bank.read s.pins.psuOk p)
  fans : ∀ f, fanRec t f = takenFan (Bank.read s.pins.fanPres f) f
  changed : (∃ b, adopts s b = true) → ∃ b, adopts s b = true ∧ Raised (.bayChange b) t
  unchanged : (∀ b, adopts s b = false) → flagRec t 0 = { raised := false, cause := none }
  quiet : ∀ c, c ≠ 0 → flagRec t c = { raised := false, cause := none }
  budget : t.pbu.emg = resetEmergency ∧ t.pbu.ae = .opened ∧ t.pbu.ae2 = .opened
  part : t.sve.chassisNumber = straps ∧ t.sve.resetCause = cause

theorem Taken.after {l : List Part} {cause : ResetCause} {straps : BitVec 4} {s t u : State}
    (h : Taken cause straps s t) (k : KeepsAllBut l t u) (part : u.sve.chassisNumber = t.sve.chassisNumber
      ∧ u.sve.resetCause = t.sve.resetCause)
    (hl : ∀ p ∈ .pins :: .bays :: .supplies :: .fans :: .flags :: .emergency :: .gates :: tableParts, p ∉ l := by
      decide) : Taken cause straps s u := by
  have flags (c) := k.flagRec_eq c (hl _ (by decide))
  have emg : u.pbu.emg = t.pbu.emg := k .emergency (hl _ (by decide))
  obtain ⟨ae, ae2⟩ := k .gates (hl _ (by decide))
  constructor
  case pins => exact Eq.trans (k .pins (hl _ (by decide))) h.pins
  case tables => exact h.tables.after k fun p hp => hl p (by revert p; decide)
  case bays => exact fun b => (k.bayRec_eq b (hl _ (by decide))).trans (h.bays b)
  case supplies => exact fun p => (k.supplyRec_eq p (hl _ (by decide))).trans (h.supplies p)
  case fans => exact fun f => (k.fanRec_eq f (hl _ (by decide))).trans (h.fans f)
  case changed =>
    intro some_
    obtain ⟨b, hb, raised⟩ := h.changed some_
    exact ⟨b, hb, (flags _).trans raised⟩
  case unchanged => exact fun none_ => (flags 0).trans (h.unchanged none_)
  case quiet => exact fun c hc => (flags c).trans (h.quiet c hc)
  case budget =>
    obtain ⟨emg', gate, gate'⟩ := h.budget
    exact ⟨emg.trans emg', ae.trans gate, ae2.trans gate'⟩
  case part => exact ⟨part.1.trans h.part.1, part.2.trans h.part.2⟩

theorem takeModules_keeps (s : State) : KeepsAllBut [.supplies, .fans] s (takeModules s) := by
  have supplies : KeepsAllBut [.supplies] s (updPbu (fun p => { p with
      supplies := Bank.update (fun i => takeSupply (Bank.read s.pins.psuPres i)) p.supplies }) s) := by
    intro p hp
    cases p <;> simp [Part.same] at hp ⊢
  exact (supplies.within (l := [.supplies, .fans])).and (updFans_keeps _ _)

theorem supplyRec_takeModules (s : State) (p : Psu) :
    supplyRec (takeModules s) p = takeSupply (Bank.read s.pins.psuPres p) (supplyRec s p) := by
  rw [takeModules, (updFans_keeps _ _).supplyRec_eq, supplyRec, updPbu_pbu, Bank.read_update, supplyRec]

theorem fanRec_takeModules (s : State) (f : Fan) :
    fanRec (takeModules s) f = followDrive (takeFan (Bank.read s.pins.fanPres f) (fanRec s f)) := by
  rw [takeModules, fanRec_updFans]
  rfl

section
variable (cause : ResetCause) (straps : BitVec 4) (s : State)

theorem bayRec_freshPart (b : Bay) : bayRec (freshPart cause straps s) b = resetBay b := Bank.read_tab _ b

theorem supplyRec_freshPart (p : Psu) :
    supplyRec (freshPart cause straps s) p = resetSupply (Bank.read s.pins.psuOk p) := Bank.read_tab _ p

theorem fanRec_freshPart (f : Fan) : fanRec (freshPart cause straps s) f = resetFan f := Bank.read_tab _ f

theorem flagRec_freshPart (c : EventClass) :
    flagRec (freshPart cause straps s) c = { raised := false, cause := none } := Bank.read_tab _ c

theorem freshPart_masked : AllMasked (freshPart cause straps s) := fun c => Bank.read_tab _ c

/-- The bays, the supplies and the fans as the takeover finds them, with the events of the adopted bays. -/
theorem takenModules_taken : Taken cause straps s (takenModules cause straps s) := by
  have bays : KeepsAllBut [.bays] (freshPart cause straps s)
    (takeBays (adopts s) (Bank.read s.pins.bayPres) (freshPart cause straps s)) := updBays_keeps _ _
  have records (b) : bayRec (takeBays (adopts s) (Bank.read s.pins.bayPres) (freshPart cause straps s)) b
      = takenBay (adopts s b) (Bank.read s.pins.bayPres b) b := by
    rw [takeBays, bayRec_updBays, bayRec_freshPart]
    cases adopts s b <;> cases Bank.read s.pins.bayPres b <;> rfl
  rw [takenModules]
  generalize takeBays (adopts s) (Bank.read s.pins.bayPres) (freshPart cause straps s) = t at *
  obtain ⟨raised, others, none_, some_⟩ :=
    raiseBays_masked ((List.finRange 16).filter (adopts s)) ((freshPart_masked cause straps s).after bays) rfl
  rw [raiseAdopted]
  generalize List.foldl (fun t b => raise (.bayChange b) t) t _ = u at *
  have frame := (bays.within (l := [.bays, .flags])).and raised
  have modules := takeModules_keeps u
  have whole := (frame.within (l := [.bays, .flags, .supplies, .fans])).and modules
  have pinned : u.pins = withStraps straps s.pins := frame .pins (by decide)
  obtain ⟨ae, ae2⟩ := whole .gates (by decide)
  obtain ⟨chassis, reason, -⟩ := whole .partIdentity (by decide)
  constructor
  case pins => exact Eq.trans (modules .pins (by decide)) pinned
  case tables => exact (freshPart_tablesFresh cause straps s).after whole
  case bays => exact fun b => by rw [modules.bayRec_eq, raised.bayRec_eq, records]
  case supplies =>
    intro p
    rw [supplyRec_takeModules, frame.supplyRec_eq, supplyRec_freshPart, pinned, withStraps]
    cases Bank.read s.pins.psuPres p <;> rfl
  case fans =>
    intro f
    rw [fanRec_takeModules, frame.fanRec_eq, fanRec_freshPart, pinned, withStraps]
    cases Bank.read s.pins.fanPres f <;> rfl
  case changed =>
    rintro ⟨b, hb⟩
    obtain ⟨c, hc, raised⟩ := some_ (List.ne_nil_of_mem (List.mem_filter.mpr ⟨List.mem_finRange b, hb⟩))
    exact ⟨c, (List.mem_filter.mp hc).2, (modules.flagRec_eq _).trans raised⟩
  case unchanged =>
    intro off
    have empty : (List.finRange 16).filter (adopts s) = [] := List.filter_eq_nil_iff.mpr fun b _ => by simp [off]
    rw [modules.flagRec_eq, none_ empty, bays.flagRec_eq, flagRec_freshPart]
  case quiet => exact fun c hc => by rw [modules.flagRec_eq, others c hc, bays.flagRec_eq, flagRec_freshPart]
  case budget => exact ⟨whole .emergency (by decide), ae, ae2⟩
  case part => exact ⟨chassis, reason⟩

theorem takenModules_fresh : (∀ k, slotRec (takenModules cause straps s) k = freshSlot)
    ∧ (takenModules cause straps s).ise.scan = none ∧ (takenModules cause straps s).ise.queue = [] := by
  have frame : KeepsAllBut (.supplies :: .fans :: .bays :: reportParts)
      (freshPart cause straps s) (takenModules cause straps s) :=
    (((updBays_keeps _ _).within (l := .supplies :: .fans :: .bays :: reportParts)).and
      (KeepsAllBut.foldl (fun t b => raise_keeps (.bayChange b) t) _ _)).and (takeModules_keeps _)
  exact ⟨fun k => (frame.slotRec_eq k).trans (Bank.read_tab _ k), frame .scan (by decide),
    frame .scanQueue (by decide)⟩

/-- The scan requests stand in the order of the batch (R46). -/
theorem takenScans_batched :
    KeepsAllBut [.slots, .scanQueue, .scan] (takenModules cause straps s) (takenScans cause straps s)
    ∧ (takenScans cause straps s).ise.scan
      = (takeoverBatch (adopts s) s.pins).head?.map (fun k => { slot := k, timer := 20 })
    ∧ (takenScans cause straps s).ise.queue = (takeoverBatch (adopts s) s.pins).tail
    ∧ ∀ k, slotRec (takenScans cause straps s) k =
      if (takeoverBatch (adopts s) s.pins).head? = some k then
        { freshSlot with present := true, source := some .line, stage := .inFlight, status := .scanning }
      else if k ∈ takeoverBatch (adopts s) s.pins then
        { freshSlot with present := true, source := some .line, stage := .queued }
      else freshSlot := by
  obtain ⟨fresh, scan, queue⟩ := takenModules_fresh cause straps s
  have batch := takeoverBatch_nodup (adopts s) s.pins
  have scans : takenScans cause straps s
    = (takeoverBatch (adopts s) s.pins).foldl (fun t k => requestScan k t) (takenModules cause straps s) := rfl
  generalize takenModules cause straps s = t at *
  generalize takenScans cause straps s = u at *
  exact requestBatch_taken _ batch fresh scan queue scans

/-- The count of adopted bays is written, and nothing else. -/
theorem takenCount_counts : KeepsAllBut [.partIdentity] (takenScans cause straps s) (takenCount cause straps s)
    ∧ (takenCount cause straps s).sve
      = { (takenScans cause straps s).sve with adoptedCount := countFin 16 (adopts s) } := by
  rw [takenCount]
  generalize takenScans cause straps s = t
  refine ⟨fun p hp => ?_, rfl⟩
  cases p <;> simp [Part.same, updSve] at hp ⊢

theorem takenCount_taken : Taken cause straps s (takenCount cause straps s) := by
  have batch := (takenScans_batched cause straps s).1
  obtain ⟨count, sve⟩ := takenCount_counts cause straps s
  obtain ⟨chassis, reason, -⟩ := batch .partIdentity (by decide)
  exact ((takenModules_taken cause straps s).after batch ⟨chassis, reason⟩).after count (by rw [sve]; exact ⟨rfl, rfl⟩)

/-! ### The whole takeover -/

theorem takenBay_cause (adopted present : Bool) (b : Bay) : (takenBay adopted present b).emergencyCause = false := by
  cases adopted <;> rfl

/-- With a supply present the hold is in force and nothing else has been decided (R85). -/
theorem takeover_holds {p : Psu} (present : Bank.read s.pins.psuPres p = true) :
    takeover cause straps s = heldAs true (some 5000) (takenCount cause straps s) := by
  rw [takeover_eq]
  refine startHold_stands (p := p) ?_
  rw [(takenCount_taken cause straps s).supplies, present]
  rfl

/-- With no supply present the hold ends at once, in an emergency (R86). -/
theorem takeover_ends (absent : ∀ p, Bank.read s.pins.psuPres p = false) :
    takeover cause straps s = emergencyBegun .hold (heldAs false none (takenCount cause straps s)) := by
  obtain ⟨-, tables, -, supplies, -, -, -, -, ⟨emg, -⟩, -⟩ := takenCount_taken cause straps s
  obtain ⟨-, -, -, -, -, -, -, -, -, -, -, -, -, policy, list, -, -, -, mask, -⟩ := tables
  rw [takeover_eq]
  refine startHold_ends (fun p => ?_) (by rw [emg]; rfl) list (by rw [policy]; decide) mask
  rw [supplies, absent]
  rfl

theorem emergencyBegun_started {source : EmgSource} {t : State} (hold : t.pbu.hold = false ∧ t.pbu.holdTimer = none)
    (emg : t.pbu.emg = resetEmergency) (grace : t.pbu.policy.grace = 300) (gate : t.pbu.ae = .opened) :
    StartedInEmergency source (emergencyBegun source t) := by
  have begun : (emergencyBegun source t).pbu.emg
      = { t.pbu.emg with graceTimer := some t.pbu.policy.grace, phase := .grace, shedCount := 0 } := rfl
  refine ⟨hold.1, hold.2, by rw [begun, emg, grace]; rfl, rfl, gate, fun b => ?_, ?_⟩
  · rw [bayRec_emergencyBegun]; rfl
  · rw [flagRec_emergencyBegun, if_pos rfl]

/-- The takeover as R180 and R181 have it, for any cause of reset. -/
theorem takeover_takenOver : TakenOver cause straps (fun b => (bayRec s b).pen) s (takeover cause straps s) := by
  obtain ⟨-, scan, queue, slots⟩ := takenScans_batched cause straps s
  obtain ⟨counted, sve⟩ := takenCount_counts cause straps s
  have count : (takenCount cause straps s).sve.adoptedCount = countFin 16 (adopts s) := by rw [sve]
  replace scan := Eq.trans (counted .scan (by decide)) scan
  replace queue := Eq.trans (counted .scanQueue (by decide)) queue
  replace slots (k) := (counted.slotRec_eq k).trans (slots k)
  have taken := takenCount_taken cause straps s
  by_cases present : ∃ p, Bank.read s.pins.psuPres p = true
  · obtain ⟨p, hp⟩ := present
    have supplied : (List.finRange 4).any (Bank.read s.pins.psuPres) = true :=
      List.any_eq_true.mpr ⟨p, List.mem_finRange p, hp⟩
    rw [takeover_holds cause straps s hp]
    generalize takenCount cause straps s = t at *
    have frame := heldAs_keeps true (some 5000) t
    obtain ⟨chassis, reason, adopted⟩ := frame .partIdentity (by decide)
    obtain ⟨-, tables, bays, supplies, fans, changed, unchanged, quiet, ⟨emg, ae, ae2⟩, part⟩ :=
      taken.after frame ⟨chassis, reason⟩
    refine ⟨tables, fun b => .of_eq (bays b), supplies, fans, Eq.trans (frame .scan (by decide)) scan,
      Eq.trans (frame .scanQueue (by decide)) queue, fun k => (frame.slotRec_eq k).trans (slots k),
      heldAs_current _ _ t, fun _ => ⟨rfl, rfl, emg, ae, ae2, fun b => ?_, quiet 2 (by decide)⟩, fun off => ?_, changed, unchanged,
      fun c hc _ => quiet c hc, part.1, part.2, adopted.trans count⟩
    · rw [bays, takenBay_cause]
    · exact absurd supplied (by simp [off])
  · have absent (p) : Bank.read s.pins.psuPres p = false := by simpa using fun h => present ⟨p, h⟩
    have unsupplied : (List.finRange 4).any (Bank.read s.pins.psuPres) = false := by simp [absent]
    rw [takeover_ends cause straps s absent]
    have held := heldAs_keeps false none (takenCount cause straps s)
    obtain ⟨chassis, reason, adopted⟩ := held .partIdentity (by decide)
    obtain ⟨-, tables, bays, supplies, fans, changed, unchanged, quiet, ⟨emg, ae, -⟩, part⟩ :=
      taken.after held ⟨chassis, reason⟩
    replace scan := Eq.trans (held .scan (by decide)) scan
    replace queue := Eq.trans (held .scanQueue (by decide)) queue
    replace slots (k) := (held.slotRec_eq k).trans (slots k)
    replace count := adopted.trans count
    have hold := heldAs_hold false none (takenCount cause straps s)
    have current := heldAs_current false none (takenCount cause straps s)
    generalize heldAs false none (takenCount cause straps s) = t at *
    have frame := emergencyBegun_keeps .hold t
    have flags (c) (hc : c ≠ 2) : flagRec (emergencyBegun .hold t) c = flagRec t c := by
      rw [flagRec_emergencyBegun, if_neg hc]
    obtain ⟨chassis', reason', adopted'⟩ := frame .partIdentity (by decide)
    have records (b) : sameBayRecord (bayRec t b) (bayRec (emergencyBegun .hold t) b) := by
      rw [bayRec_emergencyBegun]; rfl
    have figures : figuresOf (emergencyBegun .hold t) = figuresOf t :=
      figuresOf_congr records fun p hp => frame p (by revert p; decide)
    refine ⟨tables.after frame, fun b => (sameBayRecord.of_eq (bays b)).trans (records b),
      fun p => (frame.supplyRec_eq p).trans (supplies p), fun f => (frame.fanRec_eq f).trans (fans f),
      Eq.trans (frame .scan (by decide)) scan, Eq.trans (frame .scanQueue (by decide)) queue,
      fun k => (frame.slotRec_eq k).trans (slots k), ?_, fun on => ?_, fun _ => ?_, fun some_ => ?_, fun none_ => ?_,
      fun c hc hc' => (flags c hc').trans (quiet c hc), chassis'.trans part.1, reason'.trans part.2,
      adopted'.trans count⟩
    · rw [FiguresCurrent, figures, ← current]
      exact frame .figures (by decide)
    · exact absurd on (by simp [unsupplied])
    · obtain ⟨-, -, -, -, -, -, -, -, -, -, -, -, -, policy, -⟩ := tables
      exact emergencyBegun_started hold emg (by rw [policy]) ae
    · obtain ⟨b, hb, raised⟩ := changed some_
      exact ⟨b, hb, (flags 0 (by decide)).trans raised⟩
    · exact (flags 0 (by decide)).trans (unchanged none_)

end

theorem takeover_pins (cause : ResetCause) (straps : BitVec 4) (s : State) :
    (takeover cause straps s).pins = withStraps straps s.pins := by
  have kept : KeepsAllBut (.hold :: .figures :: budgetParts) (takenCount cause straps s) (takeover cause straps s) := by
    rw [takeover_eq]
    exact ((heldAs_keeps true (some 5000) _).within (l := .hold :: .figures :: budgetParts)).and (testHold_keeps _)
  exact Eq.trans (kept .pins (by decide)) (takenCount_taken cause straps s).pins

/-- Settles O5: the release of RESET_N moves the line and, in a reset-line reset, takes the enclosure over. -/
theorem warmResetTakesOver : Obligations.WarmResetTakesOver := by
  refine ⟨fun straps s reset => ?_, fun straps s mode => ?_⟩
  · have result : exec (.resetNReleased straps) s
        = .next (takeover .resetLine straps (updPins (fun p => { p with resetN := false }) s)) := by
      simp [exec, execResetNReleased, lineReleased, reset]
    exact ⟨_, result, takeover_pins .resetLine straps _, takeover_takenOver .resetLine straps _⟩
  · rcases mode with mode | mode <;> simp [exec, execResetNReleased, lineReleased, mode, updPins]

end Sys2Proof.Machine
end

section
/-! SUPPORT. The laws of scanning and of the figures through the completions of a reset (O58, O59). -/

namespace Sys2Proof.Machine

set_option Elab.async false

/-! ### The completions (R177, R179 to R181) -/

/-- The records at the completion of a reset: no identity is known, and no supply counts. -/
theorem RecordsKept.of_reset {t : State} (slots : ∀ k, slotRec t k = resetSlot) (queue : t.ise.queue = [])
    (scan : t.ise.scan = none) (supplies : SupplyLaw t) (s : State) : RecordsKept s t where
  scans _ := scanLaw_of_rests queue scan fun k => by rw [slots]; exact resetSlot_rests
  idents k := by rw [slots]; exact .inr (.inl ⟨rfl, fun h => by cases h⟩)
  supplies _ := supplies

theorem completePowerOn_figuresKept (straps : BitVec 4) (s : State) : FiguresKept s (completePowerOn straps s) := by
  have eq : completePowerOn straps s = evaluate .start (debouncing (withStraps straps s.pins) s.pending) := rfl
  have slots (k) : slotRec (debouncing (withStraps straps s.pins) s.pending) k = resetSlot := Bank.read_tab _ k
  have supplies : SupplyLaw (debouncing (withStraps straps s.pins) s.pending) := fun p =>
    supplyTrue_absent (by rw [supplyRec_debouncing]; exact ⟨rfl, rfl, rfl⟩)
  rw [eq]
  exact (RecordsKept.of_reset slots rfl rfl supplies s).evaluated .start

/-- The hold starts with the figures recorded (R85). -/
theorem RecordsKept.startHold {s t : State} (h : RecordsKept s t) : FiguresKept s (startHold t) :=
  FiguresKept.trans ⟨h.and (heldAs_keeps true (some 5000) t), fun _ _ => heldAs_current true (some 5000) t⟩
    (testHold_figuresKept _)

/-- The supplies that the takeover finds are PENDING, as their unread slots make them (R48, R181). -/
theorem takeover_figuresKept (cause : ResetCause) (straps : BitVec 4) (s : State) :
    FiguresKept s (takeover cause straps s) := by
  obtain ⟨fresh, scan, queue⟩ := takenModules_fresh cause straps s
  have supplies := (takenModules_taken cause straps s).supplies
  have modules : RecordsKept s (takenModules cause straps s) := .of_reset fresh queue scan (fun p => by
    rw [supplies, fresh]
    cases Bank.read s.pins.psuPres p <;> simp [takenSupply, freshSupply, freshSlot, conditionOf]) s
  have requests (l : List Slot) (t : State) : RecordsKept t (l.foldl (fun t k => requestScan k t) t) := by
    induction l generalizing t with
    | nil => exact .of_keeps (KeepsAllBut.refl [] t)
    | cons k rest ih => exact (requestScan_recordsKept k t).trans (ih _)
  rw [takeover_eq]
  exact ((modules.trans (requests _ _)).and (takenCount_counts cause straps s).1).startHold

theorem softResetNow_figuresKept (s : State) : FiguresKept s (softResetNow s) :=
  ((FiguresKept.of_keeps (updPins_keeps _ s)).trans (beginReset_figuresKept (by decide) _)).trans
    (takeover_figuresKept _ _ _)

end Sys2Proof.Machine
end

section
/-! SUPPORT. The laws of scanning and of the figures through the requests and the service engine (O58, O59). -/

namespace Sys2Proof.Machine

set_option Elab.async false

/-! ### Requests -/

/-- An answer adds nothing to the effect of its request. -/
theorem answered_figuresKept {st : Status} {s t : State} (h : FiguresKept s t) :
    FiguresKept s (answered st t).state := h

/-- A request that names something keeps the laws where it does for everything that it may name. -/
theorem named_figuresKept {α : Type} {n : Option α} {s : State} {f : α → Reply}
    (h : ∀ x, FiguresKept s (f x).state) : FiguresKept s (named n s f).state := by
  cases n with
  | none => exact .refl s
  | some x => exact h x

theorem forArrivalBay_figuresKept {e : Envelope} {s : State} {f : Bay → Reply}
    (h : ∀ b, FiguresKept s (f b).state) : FiguresKept s (forArrivalBay e s f).state := by
  unfold forArrivalBay
  split
  · exact h _
  · exact .refl s

theorem askPower_figuresKept (b : Bay) (s : State) : FiguresKept s (askPower b s).state := by
  unfold askPower
  split
  · next h =>
    split
    · exact requestPower_figuresKept h
    · exact .refl s
  · exact .refl s

theorem powerOffForced_figuresKept (b : Bay) (s : State) : FiguresKept s (powerOffForced b s).state := by
  unfold powerOffForced
  split
  iterate 4 exact forceOff_figuresKept b s
  all_goals exact .refl s

theorem powerOffGraceful_figuresKept (b : Bay) (s : State) : FiguresKept s (powerOffGraceful b s).state := by
  unfold powerOffGraceful
  split
  · next h => exact beginStop_figuresKept h
  · exact .refl s
  iterate 2 exact powerOffForced_figuresKept b s
  all_goals exact .refl s

theorem setGate_figuresKept (g : Gate) (s : State) : FiguresKept s (setGate g s) := by
  unfold setGate
  split
  · simp only
    split
    · exact (FiguresKept.of_keeps (updPbu_ae_keeps _ s)).and (evaluateHead_keeps _)
    · exact .of_keeps (updPbu_ae_keeps _ s)
  · exact .of_keeps (updPbu_ae2_keeps _ s)

theorem setZone_figuresKept (z : Zone) (m : ZoneMode) (floor forced staleLimit stepDown : Nat) (s : State) :
    FiguresKept s (setZone z m floor forced staleLimit stepDown s) := by
  have written := FiguresKept.of_keeps (updZone_keeps z (zoneSettings m floor forced staleLimit stepDown) s)
  unfold setZone
  simp only
  split
  · exact (written.and (updZone_keeps z _ _)).trans (driveZone_figuresKept z _)
  · exact written

theorem changeUplink_figuresKept (u : Uplink) (f : UplinkRec → UplinkRec) (s : State) :
    FiguresKept s (changeUplink u f s) := by
  have written := FiguresKept.of_keeps (updUplink_keeps u f s)
  unfold changeUplink
  simp only
  split
  · exact written.trans (flush_figuresKept _ _)
  · exact written

theorem setUplink_figuresKept (u : Uplink) (enabled right : Bool) (s : State) :
    FiguresKept s (setUplink u enabled right s) := by
  unfold setUplink
  simp only
  split
  · exact .refl s
  · refine FiguresKept.trans ?_ (raise_figuresKept _ _)
    split
    · exact (changeUplink_figuresKept u _ s).and (barWaiting_keeps u _)
    · exact changeUplink_figuresKept u _ s

/-- A fault is cleared into a state that counts its allowance as FAULT does (R16, R52). -/
theorem clearFault_figuresKept {b : Bay} {s : State} (h : bayState s b = .fault) :
    FiguresKept s (enterState b (standbyState s b) s) :=
  enterState_figuresKept (by rw [h, accepting_standbyState]; rfl) (by rw [h, hasMain_standbyState]; rfl)

/-- An announced image is taken as it is checked (R29, R43). -/
theorem replyAnnounce_figuresKept (e : Envelope) (image : Image) (s : State) :
    FiguresKept s (replyAnnounce e image s).state := by
  refine forArrivalBay_figuresKept fun b => ?_
  split
  · next source =>
    split
    · next h => exact acceptAnnounce_figuresKept source (by rw [slotKind_slotOfBay]; exact judgeImage_class h)
    · exact .refl s
  · exact .refl s

theorem carryOut_figuresKept (e : Envelope) (r : Request) (s : State) : FiguresKept s (carryOut e r s).state := by
  cases r with
  | readBay bay => exact named_figuresKept fun b => .refl s
  | readSlot slot => exact named_figuresKept fun k => .refl s
  | readPower => exact .refl s
  | readZone zone => exact named_figuresKept fun z => .refl s
  | readFan fan => exact named_figuresKept fun f => .refl s
  | readUplink uplink => exact named_figuresKept fun u => .refl s
  | readQueue queue => exact named_figuresKept fun q => .refl s
  | readStation first count =>
    change FiguresKept s (replyReadStation first count s).state
    unfold replyReadStation
    split
    · exact .refl s
    · exact .refl s
  | readEvents => exact .refl s
  | clearEvents classes => exact named_figuresKept fun f => updSve_figuresKept (clearFlags f) s
  | setEventMask classes => exact named_figuresKept fun f => answered_figuresKept (updSve_figuresKept _ s)
  | setAlertTarget presence uplink address =>
    change FiguresKept s (replySetAlertTarget presence uplink address s).state
    unfold replySetAlertTarget
    split
    · exact answered_figuresKept (updSve_figuresKept _ s)
    · split
      · exact named_figuresKept fun u => answered_figuresKept (updSve_figuresKept _ s)
      · exact .refl s
  | setBayPolicy bay priority cap uplink zone autoRestore =>
    exact named_figuresKept fun b => named_figuresKept fun u => named_figuresKept fun z => named_figuresKept fun a =>
      setBayPolicy_figuresKept b _ _ u z a s
  | loadWindow bay bs cs bb cb =>
    refine named_figuresKept fun b => ?_
    simp only
    split
    · exact ((FiguresKept.of_keeps (updWindow_keeps b _ s)).and (purge_keeps b _)).and (recomputeStatics_keeps b _)
    · exact .refl s
  | powerOn bay => exact named_figuresKept fun b => askPower_figuresKept b s
  | powerOff bay form =>
    refine named_figuresKept fun b => ?_
    split
    · exact powerOffGraceful_figuresKept b s
    · split
      · exact powerOffForced_figuresKept b s
      · exact .refl s
  | setMaint bay =>
    refine named_figuresKept fun b => ?_
    split
    iterate 2 exact .refl s
    all_goals exact isolate_figuresKept b s
  | clearMaint bay =>
    refine named_figuresKept fun b => ?_
    split
    · exact enterDetected_figuresKept b s
    · exact .refl s
  | clearFault bay =>
    refine named_figuresKept fun b => ?_
    split
    · next h => exact clearFault_figuresKept h
    · exact .refl s
  | rescan slot =>
    refine named_figuresKept fun k => ?_
    split
    · exact requestScan_figuresKept k s
    · exact .refl s
  | setPowerPolicy redundancy baseLoad gapSteps grace stopTimeout =>
    exact named_figuresKept fun p => (RecordsKept.of_keeps (updPbu_policy_keeps _ s)).evaluated _
  | setAdmission gate => exact named_figuresKept fun g => setGate_figuresKept g s
  | loadCurve zone points =>
    refine named_figuresKept fun z => ?_
    split
    · exact answered_figuresKept (.of_keeps (updZone_keeps z _ s))
    · exact .refl s
  | setZone zone mode floor forced staleLimit stepDown =>
    refine named_figuresKept fun z => named_figuresKept fun m => ?_
    split
    · exact .refl s
    · split
      · exact .refl s
      · exact setZone_figuresKept z m _ _ _ _ s
  | setFan fan zone minRun prescale =>
    refine named_figuresKept fun f => named_figuresKept fun z => ?_
    split
    · exact updFan_figuresKept (setDuty_absent_iff _ _)
    · exact .refl s
  | setUplink uplink enabled right =>
    refine named_figuresKept fun u => named_figuresKept fun en => named_figuresKept fun ri => ?_
    split
    · exact .refl s
    · exact setUplink_figuresKept u en ri s
  | setQuota queue quota =>
    change FiguresKept s (replySetQuota e queue quota s).state
    unfold replySetQuota
    split
    · simp only
      split
      · exact .refl s
      · exact putQueue_figuresKept _ _ s
    all_goals exact .refl s
  | addStatic address bay bladeTag =>
    refine named_figuresKept fun b => ?_
    split
    · exact .refl s
    · refine named_figuresKept fun c => ?_
      unfold addStatic
      split
      · exact .of_keeps (updPlaces_keeps _ s)
      · split
        · exact .of_keeps (updPlaces_keeps _ s)
        · exact .refl s
  | removeStatic address chassisTag =>
    change FiguresKept s (replyRemoveStatic address chassisTag s).state
    unfold replyRemoveStatic
    split
    · split
      · exact .refl s
      · exact .of_keeps (updPlaces_keeps _ s)
    · exact .refl s
  | setAging steps => exact answered_figuresKept (.of_keeps (updStb_keeps _ s))
  | softReset => exact .refl s
  | identifyPart => exact .refl s
  | announce image => exact replyAnnounce_figuresKept e image s
  | thermalReport margin critical =>
    refine forArrivalBay_figuresKept fun b => named_figuresKept fun c => ?_
    split
    · exact answered_figuresKept ((FiguresKept.of_keeps (updThermal_keeps b _ s)).trans
        (updBay_figuresKept ⟨rfl, rfl, fun _ => rfl⟩))
    · exact .refl s
  | powerRequest => exact forArrivalBay_figuresKept fun b => askPower_figuresKept b s
  | powerRelease =>
    refine forArrivalBay_figuresKept fun b => ?_
    split
    · exact forceOff_figuresKept b s
    · exact dropTo_figuresKept b _ s
    all_goals exact .refl s
  | readOwn => exact forArrivalBay_figuresKept fun b => .refl s

/-! ### The service engine -/

theorem denied_figuresKept (e : Envelope) (s : State) : FiguresKept s (denied e s).state := by
  unfold denied
  split
  · exact answered_figuresKept (countRefused_figuresKept _ s)
  · exact .refl s

theorem reply_figuresKept (e : Envelope) (r : Request) (s : State) : FiguresKept s (reply e r s).state := by
  unfold reply
  split
  · exact denied_figuresKept e s
  · split
    · exact .refl s
    · exact carryOut_figuresKept e r s

theorem respond_figuresKept (e : Envelope) (code : Nat) (r : Reply) : FiguresKept r.state (respond e code r) := by
  unfold respond
  simp only
  split
  · unfold offerAndReset
    simp only
    split
    · exact (offer_figuresKept _ _ _).trans (updSve_figuresKept _ _)
    · exact (offer_figuresKept _ _ _).trans (softResetNow_figuresKept _)
  · exact offer_figuresKept _ _ _

theorem serve_figuresKept (e : Envelope) (r : Request) (s : State) : FiguresKept s (serve e r s) := by
  unfold serve
  split
  · exact countRefused_figuresKept _ s
  · exact (reply_figuresKept e r s).trans (respond_figuresKept _ _ _)

theorem svcPop_figuresKept (s : State) : FiguresKept s (svcPop s) := .of_keeps (svcPop_keeps s)

theorem serveCommand_figuresKept (e : Envelope) (r : Request) (s : State) : FiguresKept s (serveCommand e r s) := by
  unfold serveCommand
  split
  · exact (svcPop_figuresKept s).trans (serve_figuresKept e r _)
  · unfold whenRunning
    split
    · unfold requestArrives
      simp only
      split
      · exact ((receiveFrame_figuresKept _ _ s).trans (svcPop_figuresKept _)).trans (serve_figuresKept e r _)
      · exact receiveFrame_figuresKept _ _ s
    · exact .refl s

theorem replyFrame_figuresKept (f : SvcFrame) (s : State) : FiguresKept s (replyFrame f s).state := by
  unfold replyFrame
  simp only
  split
  · exact .refl s
  · split
    · exact denied_figuresKept _ s
    · split
      · exact .refl s
      · exact reply_figuresKept _ _ s

theorem takeFrame_figuresKept (s : State) : FiguresKept s (takeFrame s) := by
  have served (f : SvcFrame) (s : State) : FiguresKept s (serveFrame f s) := by
    unfold serveFrame
    split
    · exact countRefused_figuresKept _ s
    · split
      · exact respond_figuresKept _ _ (answered .length s)
      · split
        · exact countRefused_figuresKept _ s
        · exact (replyFrame_figuresKept f s).trans (respond_figuresKept _ _ _)
  unfold takeFrame
  split
  · split
    · exact .refl s
    · exact (svcPop_figuresKept s).trans (served _ _)
  · exact .refl s

end Sys2Proof.Machine
end

section
/-! SUPPORT. The laws of scanning and of the figures through the commands and time; and O58 and O59 themselves. -/

namespace Sys2Proof.Machine

set_option Elab.async false

/-! ### Commands -/

theorem whenRunning_figuresKept {s t : State} (h : FiguresKept s t) : FiguresKept s (whenRunning s t) := by
  unfold whenRunning
  split
  · exact h
  · exact .refl s

theorem ite_figuresKept {c : Bool} {s t : State} (h : c = true → FiguresKept s t) :
    FiguresKept s (if c then t else s) := by
  split
  · next hc => exact h hc
  · exact .refl s

/-- The level of a line moves, whatever it is. -/
theorem updPins_figuresKept (f : Pins → Pins) (s : State) : FiguresKept s (updPins f s) := .of_keeps (updPins_keeps f s)

/-- A line's level moves, and in one case its block acts on that. -/
theorem lineMoved_figuresKept {c : Prop} [Decidable c] {s t u : State} (moved : FiguresKept s t)
    (acts : c → FiguresKept t u) : FiguresKept s (if c then u else t) := by
  split
  · next h => exact moved.trans (acts h)
  · exact moved

theorem linkUpReported_figuresKept (u : Uplink) (s : State) : FiguresKept s (linkUpReported u s) :=
  lineMoved_figuresKept (updPins_figuresKept _ s) fun _ =>
    (FiguresKept.of_keeps (updUplink_keeps u _ _)).trans (raise_figuresKept _ _)

theorem linkDownReported_figuresKept (u : Uplink) (s : State) : FiguresKept s (linkDownReported u s) := by
  refine lineMoved_figuresKept (updPins_figuresKept _ s) fun _ => ?_
  have raised (t : State) := (FiguresKept.of_keeps (updUplink_keeps u (fun r => { r with link := false }) t)).trans
    (raise_figuresKept (.uplinkChange u .linkDown) _)
  unfold linkGoesDown
  simp only
  split
  · exact lineMoved_figuresKept ((raised _).trans (flush_figuresKept _ _)) fun _ => softResetNow_figuresKept _
  · exact raised _

theorem endTransmission_figuresKept (p : Port) (s : State) : FiguresKept s (endTransmission p s) :=
  lineMoved_figuresKept (completeTransmission_figuresKept p s) fun _ => softResetNow_figuresKept _

theorem supplyStable_figuresKept (straps : BitVec 4) (s : State) : FiguresKept s (supplyStable straps s) := by
  unfold supplyStable
  split
  · split
    · exact ⟨⟨fun law => law, fun k => .refl k _, fun law => law.supplies⟩, fun _ run => by cases run⟩
    · exact completePowerOn_figuresKept straps s
  all_goals exact .refl s

theorem lineAsserted_figuresKept (s : State) : FiguresKept s (lineAsserted s) := by
  have moved := updPins_figuresKept (fun p => { p with resetN := true }) s
  unfold lineAsserted
  simp only
  split
  · exact moved.trans (beginReset_figuresKept (by decide) _)
  all_goals exact moved

theorem lineReleased_figuresKept (straps : BitVec 4) (s : State) : FiguresKept s (lineReleased straps s) := by
  have moved := updPins_figuresKept (fun p => { p with resetN := false }) s
  unfold lineReleased
  simp only
  split
  · exact moved.trans (takeover_figuresKept _ _ _)
  · exact moved.trans (completePowerOn_figuresKept straps _)
  all_goals exact moved

theorem bayPresence_share (present : Bool) (r : BayRec) : SameShare r (bayPresence present r) := by
  unfold bayPresence
  split <;> exact ⟨rfl, rfl, fun _ => rfl⟩

theorem bayPresChanged_figuresKept (b : Bay) (present : Bool) (s : State) :
    FiguresKept s (bayPresChanged b present s) := by
  unfold bayPresChanged
  split
  · exact .refl s
  · exact lineMoved_figuresKept (updPins_figuresKept _ s) fun _ => updBay_figuresKept (bayPresence_share present _)

theorem bayPgAsserted_figuresKept (b : Bay) (s : State) : FiguresKept s (bayPgAsserted b s) := by
  refine lineMoved_figuresKept (updPins_figuresKept _ s) fun h => ?_
  simp only [Bool.and_eq_true, beq_iff_eq] at h
  exact completeRamp_figuresKept h.2

theorem bayPgLow_figuresKept (b : Bay) (s : State) : FiguresKept s (bayPgLow b s) :=
  lineMoved_figuresKept (updPins_figuresKept _ s) fun _ => powerFault_figuresKept b _

theorem supplyPresence_aside (present : Bool) (r : SupplyRec) :
    (supplyPresence present r).present = r.present ∧ (supplyPresence present r).psuOk = r.psuOk
      ∧ (supplyPresence present r).condition = r.condition ∧ (supplyPresence present r).capacity = r.capacity := by
  unfold supplyPresence
  split <;> exact ⟨rfl, rfl, rfl, rfl⟩

theorem psuPresChanged_figuresKept (p : Psu) (present : Bool) (s : State) :
    FiguresKept s (psuPresChanged p present s) := by
  unfold psuPresChanged
  split
  · exact .refl s
  · exact lineMoved_figuresKept (updPins_figuresKept _ s) fun _ =>
      updSupply_timers_figuresKept (supplyPresence_aside present)

theorem fanPresence_state (present : Bool) (r : FanRec) : (fanPresence present r).state = r.state := by
  unfold fanPresence
  split <;> rfl

theorem fanPresChanged_figuresKept (f : Fan) (present : Bool) (s : State) :
    FiguresKept s (fanPresChanged f present s) := by
  unfold fanPresChanged
  split
  · exact .refl s
  · exact lineMoved_figuresKept (updPins_figuresKept _ s) fun _ =>
      updFan_figuresKept (by rw [fanPresence_state])

theorem countPulse_state (r : FanRec) : (countPulse r).state = r.state := by
  unfold countPulse
  split <;> rfl

theorem sweep_figuresKept (s : State) : FiguresKept s (sweep s) :=
  .of_keeps (l := [.stations, .learnMiss, .agingSteps, .sweepTimer]) fun p hp => by
    cases p <;> simp [Part.same, sweep, updStb, ageStations, updPlaces] at hp ⊢

/-! ### One step -/

theorem exec_figuresKept {c : Instr} {s t : State} (h : exec c s = .next t) : FiguresKept s t := by
  obtain rfl : t = (match exec c s with | .next u => u | _ => s) := by rw [h]
  clear h
  cases c with
  | bayPresChange b present => exact bayPresChanged_figuresKept b present s
  | bayInsertionDebounceExpiry b => exact whenRunning_figuresKept (ite_figuresKept fun _ => insertBay_figuresKept b s)
  | bayRemovalDebounceExpiry b => exact whenRunning_figuresKept (ite_figuresKept fun _ => removeBay_figuresKept b s)
  | bayPgAsserted b => exact bayPgAsserted_figuresKept b s
  | bayPgLow b => exact bayPgLow_figuresKept b s
  | rampTimerExpiry b =>
    exact whenRunning_figuresKept (ite_figuresKept fun _ =>
      (dropTo_figuresKept b _ s).trans (rampEndUnpowered_figuresKept b _))
  | stopTimerExpiry b => exact whenRunning_figuresKept (ite_figuresKept fun _ => dropTo_figuresKept b _ s)
  | admissionTaken =>
    refine whenRunning_figuresKept ?_
    unfold takeHandedAdmission
    split
    · exact answerAdmission_figuresKept _ s
    all_goals exact .refl s
  | shedTaken =>
    refine whenRunning_figuresKept ?_
    unfold takeHandedShed
    split
    · exact shedAnswered_figuresKept _ s
    · exact .refl s
  | psuPresChange p present => exact psuPresChanged_figuresKept p present s
  | psuInsertionDebounceExpiry p =>
    exact whenRunning_figuresKept (ite_figuresKept fun _ => insertSupply_figuresKept p s)
  | psuRemovalDebounceExpiry p => exact whenRunning_figuresKept (ite_figuresKept fun _ => removeSupply_figuresKept p s)
  | psuOkChange p asserted => exact psuOkChanged_figuresKept p asserted s
  | adoptionHoldTimerExpiry => exact whenRunning_figuresKept (ite_figuresKept fun _ => endHold_figuresKept s)
  | graceTimerExpiry => exact whenRunning_figuresKept (ite_figuresKept fun _ => endGrace_figuresKept s)
  | staggerGapTimerExpiry =>
    exact whenRunning_figuresKept (ite_figuresKept fun _ =>
      (FiguresKept.of_keeps (updPbu_gap_keeps _ _ s)).and (evaluateHead_keeps _))
  | sixteenthByteReceived k image =>
    exact whenRunning_figuresKept (ite_figuresKept fun h => judgeScan_figuresKept h image)
  | scanNoAnswer k | scanTimerExpiry k =>
    exact whenRunning_figuresKept (ite_figuresKept fun h => scanFailed_figuresKept h _)
  | retryTimerExpiry k =>
    refine whenRunning_figuresKept (ite_figuresKept fun h => retryDue_figuresKept ?_)
    simp only [Bool.and_eq_true, beq_iff_eq] at h
    exact h.2
  | fanPresChange f present => exact fanPresChanged_figuresKept f present s
  | fanInsertionDebounceExpiry f => exact whenRunning_figuresKept (ite_figuresKept fun _ => insertFan_figuresKept f s)
  | fanRemovalDebounceExpiry f => exact whenRunning_figuresKept (ite_figuresKept fun _ => removeFan_figuresKept f s)
  | fanTachPulse f =>
    refine whenRunning_figuresKept ?_
    split
    · exact .refl s
    · exact updFan_figuresKept (by rw [countPulse_state])
  | tachWindowExpiry f => exact whenRunning_figuresKept (ite_figuresKept fun _ => tachWindow_figuresKept f s)
  | controlTimerExpiry => exact whenRunning_figuresKept (ite_figuresKept fun _ => controlZones_figuresKept s)
  | bayPortFrame b f => exact whenRunning_figuresKept (receiveFrame_figuresKept _ f s)
  | uplinkPortFrame u f => exact whenRunning_figuresKept (receiveFrame_figuresKept _ f s)
  | transmissionComplete p => exact whenRunning_figuresKept (ite_figuresKept fun _ => endTransmission_figuresKept p s)
  | agingSweepTimerExpiry => exact whenRunning_figuresKept (ite_figuresKept fun _ => sweep_figuresKept s)
  | linkUp u => exact linkUpReported_figuresKept u s
  | linkDown u => exact linkDownReported_figuresKept u s
  | powerOnResetBegin => exact beginReset_figuresKept (by decide) s
  | powerOnResetComplete straps => exact supplyStable_figuresKept straps s
  | resetNAsserted => exact lineAsserted_figuresKept s
  | resetNReleased straps => exact lineReleased_figuresKept straps s
  | serviceFrameTaken => exact takeFrame_figuresKept s
  | _ => exact serveCommand_figuresKept _ _ s

theorem tick_reading (s : State) (k : Slot) : SameReading (slotRec s k) (slotRec (tick s) k) := by
  rw [slotRec_tick]; exact .inl ⟨rfl, rfl⟩

theorem tick_scan (s : State) : (tick s).ise.scan = s.ise.scan.map tickScan := rfl

theorem tick_scanning (s : State) (k : Slot) : scanning (tick s) k = scanning s k := by
  rw [Bool.eq_iff_iff, scanning_iff, scanning_iff, tick_scan, Option.map_map]
  exact Iff.rfl

theorem tick_scanLaw {s : State} (law : ScanLaw s) : ScanLaw (tick s) := by
  have queue : (tick s).ise.queue = s.ise.queue := tick_keeps s .scanQueue (by decide)
  obtain ⟨⟨nodup, orderly⟩, idle⟩ := (scanLaw_iff s).mp law
  refine (scanLaw_iff _).mpr ⟨⟨by rw [queue]; exact nodup, fun k => ?_⟩, fun free => ?_⟩
  · obtain ⟨queued, inFlight, status, retry, waits, announced⟩ := orderly k
    rw [slotRec_tick, queue, tick_scanning]
    exact ⟨queued, inFlight, status, (not_congr (tickTimer_eq_none _)).trans retry, waits, announced⟩
  · rw [tick_scan, Option.map_eq_none_iff] at free
    rw [queue, idle free]

/-- One ms moves timers alone (00_scope.md section 5). -/
theorem tick_figuresKept (s : State) : FiguresKept s (tick s) := by
  have kept : RecordsKept s (tick s) := by
    refine ⟨tick_scanLaw, fun k => ?_, fun law p => SupplyTrue.congr (law.supplies p) ?_ (tick_reading s _)⟩
    · rw [slotRec_tick]; exact .inl ⟨rfl, id⟩
    · rw [supplyRec_tick]; exact ⟨rfl, rfl, rfl, rfl⟩
  have inputs : SameInputs s (tick s) :=
    ⟨fun b => by rw [bayRec_tick]; exact ⟨rfl, rfl, fun _ => rfl⟩, fun k _ => tick_reading s k,
      fun f => by rw [fanRec_tick]; exact Iff.rfl⟩
  exact kept.unchanged (tick_keeps s).mode_eq fun _ current => current.congr (tick_keeps s) inputs
    (okCapacities_congr fun p => by rw [supplyRec_tick]; exact ⟨rfl, rfl⟩)

/-- The laws speak of nothing that waits to be taken. -/
theorem pending_figuresKept (l : List Instr) (s : State) : FiguresKept s { s with pending := l } :=
  .of_keeps (l := [.pending]) fun p hp => by cases p <;> simp [Part.same] at hp ⊢

theorem step_figuresKept {s t : State} (h : step s = .next t) : FiguresKept s t := by
  unfold step at h
  split at h
  · exact (pending_figuresKept _ s).trans (exec_figuresKept h)
  · injection h with h
    subst h
    unfold idle
    split
    · split
      · exact pending_figuresKept _ s
      · exact tick_figuresKept s
    · exact .refl s

/-- Settles O58: whatever a step writes of the scanning and of the identities passes the laws on. -/
theorem scanningStaysOrderly : Obligations.ScanningStaysOrderly :=
  ⟨fun _ _ law h => (step_figuresKept h).scans law, fun _ _ law h => (step_figuresKept h).idents.identLaw law⟩

/-- Settles O59: what counts otherwise after a step has been evaluated in it, by `step_figuresKept`. -/
theorem figuresStayCurrent : Obligations.FiguresStayCurrent := fun _ _ law h => (step_figuresKept h).law law

end Sys2Proof.Machine
end

section
/-! SUPPORT. The insertion and the removal of a supply's and of a fan's module (O15, O21), and the end of a retry
pause (O20). -/

namespace Sys2Proof.Machine

set_option Elab.async false

/-! ### An evaluation once made (R54) -/

theorem admissible_iff {s : State} (idle : s.pbu.seq = .idle) (b : Bay) : admissible s b = true ↔ Fits s b := by
  simp [admissible, Fits, idle, and_assoc]

/-- A head that has been evaluated is not admitted by a further evaluation (R61). -/
theorem HeadEvaluated.again {t : State} (h : HeadEvaluated t) : evaluateHead t = t := by
  rcases h with ⟨idle, off⟩ | ⟨w, -, -, seq⟩
  · cases list : t.pbu.waitList with
    | nil => exact evaluateHead_nil list
    | cons w rest =>
      have fails : admissible t w.bay ≠ true := fun a => off w (by simp [list]) ((admissible_iff idle _).mp a)
      simp [evaluateHead, list, fails]
  · exact evaluateHead_busy t (by simp [seq])

/-- A further evaluation finds nothing to do, in every phase that the first can leave (R54, R72 to R83). -/
theorem EvaluatedFor.again {source : EmgSource} {s t : State} (h : EvaluatedFor source s t)
    (hold : t.pbu.hold = s.pbu.hold) : evaluate source t = t := by
  obtain ⟨⟨current, began, none_, ended, grace, shedding, standing, sheds⟩, -, idle, busy⟩ := h
  have compared : compareBudget source t = t := by
    have phase (k : EmergencyKept s t) : t.pbu.emg.phase = s.pbu.emg.phase := congrArg Emergency.phase k.1
    cases was : s.pbu.emg.phase <;> cases exceeds : overBudget t
    case none.false => simp [compareBudget, phase (none_ was (.inr exceeds)), was, exceeds]
    case none.true =>
      cases held : s.pbu.hold
      · simp [compareBudget, (began was held exceeds).1, exceeds]
      · simp [compareBudget, phase (none_ was (.inl held)), was, exceeds, hold, held]
    case grace.false => simp [compareBudget, (ended (.inl was) exceeds).1.1, exceeds]
    case grace.true => simp [compareBudget, phase (grace was exceeds), was, exceeds]
    case shedding.false => simp [compareBudget, phase (shedding was), was]
    case shedding.true => simp [compareBudget, phase (shedding was), was]
    case exhausted.false => simp [compareBudget, (ended (.inr was) exceeds).1.1, exceeds]
    case exhausted.true =>
      cases chosen : chooseShed t with
      | none => simp [compareBudget, phase (standing was exceeds chosen), was, exceeds, chosen]
      | some b => simp [compareBudget, (sheds was exceeds b chosen).1]
  have head : evaluateHead t = t := by
    by_cases free : s.pbu.seq = .idle
    · exact (idle free).again
    · exact evaluateHead_busy t (by rwa [busy free])
  rw [evaluate, recordFigures_current current, compared, head]

/-- What an event that writes nothing of the budget's decisions comes to, ending with an evaluation. -/
structure EvaluatedAlone (source : EmgSource) (s t : State) : Prop where
  evaluated : EvaluatedFor source s t
  bays : ∀ b, sameBayRecord (bayRec s b) (bayRec t b)
  reported : Reported [2, 3, 7] s t

theorem evaluatedAlone_of_keeps {l : List Part} {s u : State} (source : EmgSource) (frame : KeepsAllBut l s u)
    (hl : ∀ p ∈ [Part.bays, .hold, .sequencer, .emergency, .gates, .flags, .uplinkQueues, .alertTarget], p ∉ l := by
      decide) : EvaluatedAlone source s (evaluate source u) where
  evaluated := (evaluate_evaluatedFor source u).before (.of_keeps frame fun p hp => hl p (by revert p; decide))
    (frame .hold (hl _ (by decide))).1 (frame .sequencer (hl _ (by decide)))
  bays b := (sameBayRecord.of_eq (frame.bayRec_eq b (hl _ (by decide)))).trans (evaluate_bays source u b)
  reported := (Reported.of_keeps frame fun p hp => hl p (by revert p; decide)).trans (evaluate_reported source u)

/-! ### Fans (R106, R107) -/

/-- An inserted fan is evaluated once its slot has been asked for: a report of a lost identity before that adds
nothing. -/
theorem insertFan_eq (f : Fan) (s : State) : insertFan f s
    = evaluate (.fan f) (engineTakes (freshRequest (slotOfFan f) (updFan f insertedFan s))) := by
  unfold insertFan
  generalize updFan f insertedFan s = u
  by_cases settled : (slotRec u (slotOfFan f)).status = .complete ∨ (slotRec u (slotOfFan f)).status = .unidentified
  · rw [requestScan_settled settled, reportStatus, slotOwner_slotOfFan]
    exact (evaluate_evaluatedFor _ _).again (evaluate_keeps _ _ .hold (by decide)).1
  · rw [not_or] at settled
    rw [requestScan_unsettled settled.1 settled.2]

/-- Settles O21: one evaluation follows the fan's record and the work on its slot. -/
theorem fansInsertedAndRemoved : Obligations.FansInsertedAndRemoved := by
  refine ⟨fun f s run law absent timer => ?_, fun f s run present timer => ?_⟩
  · have result : exec (.fanInsertionDebounceExpiry f) s = .next (insertFan f s) := by
      simp [exec, execFanInsertionDebounceExpiry, whenRunning_running run, Option.isSome_iff_ne_none.mpr timer, absent]
    rw [insertFan_eq] at result
    have written := updFan_keeps f insertedFan s
    have records (g) := fanRec_updFan f g insertedFan s
    have fresh := (engineTakes_freshRequest (k := slotOfFan f) (scanLaw_congr written (law := law))).before written
    generalize updFan f insertedFan s = u at *
    have frame := (written.within (l := [.fans, .slots, .scanQueue, .scan])).and
      (engineTakes_freshRequest_keeps (slotOfFan f) u)
    have fans (g) : fanRec (evaluate (.fan f) (engineTakes (freshRequest (slotOfFan f) u))) g
        = if g = f then followDrive (insertedFan (fanRec s f)) else fanRec s g := by
      rw [(evaluate_keeps _ _).fanRec_eq, (engineTakes_freshRequest_keeps _ u).fanRec_eq, records]
    obtain ⟨evaluated, bays, reported⟩ := evaluatedAlone_of_keeps (.fan f) frame
    refine ⟨_, result, ?_, fun g hg => ?_, fresh.after (evaluate_keeps _ _), evaluated, bays, reported.flags,
      reported.alerts, (frame.within (l := [.fans, .slots, .scanQueue, .scan] ++ budgetParts)).and (evaluate_keeps _ _)⟩
    · rw [fans, if_pos rfl]; rfl
    · rw [fans, if_neg hg]
  · have result : exec (.fanRemovalDebounceExpiry f) s = .next (removeFan f s) := by
      simp [exec, execFanRemovalDebounceExpiry, whenRunning_running run, Option.isSome_iff_ne_none.mpr timer, present]
    unfold removeFan at result
    have written := updFan_keeps f removedFan s
    have records (g) := fanRec_updFan f g removedFan s
    generalize updFan f removedFan s = u at *
    have cleared := clearSlot_keeps (slotOfFan f) u
    have stopped := ((clearSlot_stopped (slotOfFan f) u).before written).after (evaluate_keeps (.fan f) _)
    have frame := (written.within (l := [.fans, .slots, .scanQueue, .scan])).and cleared
    have fans (g) : fanRec (evaluate (.fan f) (clearSlot (slotOfFan f) u)) g
        = if g = f then followDrive (removedFan (fanRec s f)) else fanRec s g := by
      rw [(evaluate_keeps _ _).fanRec_eq, cleared.fanRec_eq, records]
    obtain ⟨evaluated, bays, reported⟩ := evaluatedAlone_of_keeps (.fan f) frame
    refine ⟨_, result, ?_, fun g hg => ?_, ⟨stopped.record, stopped.unqueued, stopped.unscanned⟩, stopped.aborted,
      evaluated, bays, reported.flags, reported.alerts,
      (frame.within (l := [.fans, .slots, .scanQueue, .scan] ++ budgetParts)).and (evaluate_keeps _ _)⟩
    · rw [fans, if_pos rfl]
      simp [followDrive, removedFan]
    · rw [fans, if_neg hg]

/-! ### Supplies (R48, R49) -/

/-- The record of a supply just inserted (R48). -/
def insertedSupply (r : SupplyRec) : SupplyRec :=
  { r with present := true, condition := .pending, capacity := 0, insertTimer := none }

/-- The record of a supply removed (R49). -/
def removedSupply (r : SupplyRec) : SupplyRec :=
  { r with present := false, condition := .absent, capacity := 0, removeTimer := none }

/-- A recomputed supply that comes out as recorded leaves the part as it was (R50). -/
theorem supplyChanged_unchanged {p : Psu} {s : State} (h : supplyNow s p = supplyRec s p) : supplyChanged p s = s := by
  rw [supplyChanged_eq, supplyCounted, h, if_pos rfl, if_pos rfl, recomputeSupply, h]
  simp [updSupply, supplyRec]

/-- An inserted supply is PENDING before its slot is asked for, so that the request reports nothing new (R47). -/
theorem requestScan_insertedSupply {p : Psu} {s : State} (law : ScanLaw s) :
    requestScan (slotOfPsu p) (updSupply p insertedSupply s)
      = engineTakes (freshRequest (slotOfPsu p) (updSupply p insertedSupply s)) := by
  have record := supplyRec_updSupply_self p insertedSupply s
  have law := scanLaw_congr (updSupply_keeps p insertedSupply s) (law := law)
  generalize updSupply p insertedSupply s = u at *
  by_cases settled : (slotRec u (slotOfPsu p)).status = .complete ∨ (slotRec u (slotOfPsu p)).status = .unidentified
  · have frame := engineTakes_freshRequest_keeps (slotOfPsu p) u
    obtain ⟨complete, unidentified⟩ := (engineTakes_freshRequest (k := slotOfPsu p) law).unsettled law
    rw [requestScan_settled settled, reportStatus, slotOwner_slotOfPsu]
    refine supplyChanged_unchanged ?_
    rw [supplyNow, frame.supplyRec_eq, record]
    cases h : (slotRec (engineTakes (freshRequest (slotOfPsu p) u)) (slotOfPsu p)).status <;>
      simp_all [conditionOf, insertedSupply]
  · rw [not_or] at settled
    rw [requestScan_unsettled settled.1 settled.2]

theorem insertSupply_eq {p : Psu} {s : State} (law : ScanLaw s) : insertSupply p s
    = evaluate (.supply p) (engineTakes (freshRequest (slotOfPsu p) (updSupply p insertedSupply s))) := by
  rw [← requestScan_insertedSupply law]; rfl

theorem removeSupply_eq (p : Psu) (s : State) : removeSupply p s
    = testHold (evaluate (.supply p) (clearSlot (slotOfPsu p) (updSupply p removedSupply s))) := rfl

/-- While the hold is in force an evaluation begins nothing and admits nothing (R61, R85). -/
theorem EvaluatedFor.held {source : EmgSource} {s t : State} (h : EvaluatedFor source s t)
    (same : t.pbu.hold = s.pbu.hold) (hold : s.pbu.hold = true) (phase : s.pbu.emg.phase = .none) :
    EmergencyKept s t ∧ (s.pbu.seq = .idle → t.pbu.seq = .idle) := by
  obtain ⟨⟨-, -, kept, -⟩, -, idle, -⟩ := h
  refine ⟨kept phase (.inl hold), fun free => ?_⟩
  rcases idle free with ⟨seq, -⟩ | ⟨w, -, ⟨-, -, off, -⟩, -⟩
  · exact seq
  · rw [same, hold] at off; cases off

/-- The end of the hold, after work that has begun nothing where no emergency was (R86). -/
theorem endHold_resolved {s t : State} (before : s.pbu.emg.phase = .none →
      EmergencyKept s t ∧ (s.pbu.seq = .idle → t.pbu.seq = .idle)) : HoldResolved s (endHold t) := by
  rw [endHold]
  have off := updPbu_hold_keeps (fun _ => false) (fun _ => none) t
  have released : (updPbu (fun q => { q with hold := false, holdTimer := none }) t).pbu.hold = false
    ∧ (updPbu (fun q => { q with hold := false, holdTimer := none }) t).pbu.holdTimer = none := ⟨rfl, rfl⟩
  generalize updPbu (fun q => { q with hold := false, holdTimer := none }) t = u at *
  have kept (phase : s.pbu.emg.phase = .none) : EmergencyKept s u := (before phase).1.trans (.of_keeps off)
  have none_ (phase : s.pbu.emg.phase = .none) : u.pbu.emg.phase = .none := by
    rw [show u.pbu.emg = s.pbu.emg from (kept phase).1, phase]
  obtain ⟨⟨figures, began, stands, -⟩, -, idle, -⟩ := evaluate_evaluatedFor .hold u
  obtain ⟨hold, timer⟩ := evaluate_keeps .hold u .hold (by decide)
  refine ⟨hold.trans released.1, timer.trans released.2, figures, fun phase exceeds => ?_, fun phase fit => ?_⟩
  · have gates : u.pbu.ae = s.pbu.ae := (kept phase).2.1.1
    have result := began (none_ phase) released.1 exceeds
    rwa [BeganEmergency, gates] at result
  · obtain ⟨emergency, gates, -⟩ := (kept phase).trans (stands (none_ phase) (.inr fit))
    exact ⟨emergency, gates, fun free => idle ((off .sequencer (by decide)).1.trans ((before phase).2 free))⟩

/-- The test of the hold after an evaluation: it ends with the last PENDING supply, and otherwise stands (R86). -/
theorem testHold_tested {source : EmgSource} {s t : State} (h : EvaluatedFor source s t) (hold : Part.hold.same s t) :
    FiguresCurrent (testHold t)
      ∧ (if s.pbu.hold = true ∧ ∀ q, (supplyRec (testHold t) q).condition ≠ .pending then HoldResolved s (testHold t)
        else Part.hold.same s (testHold t) ∧ EvaluatedFor source s (testHold t)) := by
  have same : t.pbu.hold = s.pbu.hold := hold.1
  have supplies (q) := (testHold_keeps t).supplyRec_eq q
  have ends : (t.pbu.hold && !anyPending t) = true ↔ s.pbu.hold = true ∧ ∀ q, (supplyRec t q).condition ≠ .pending := by
    rw [Bool.and_eq_true, Bool.not_eq_true', anyPending_iff, same]
  simp only [supplies]
  by_cases c : s.pbu.hold = true ∧ ∀ q, (supplyRec t q).condition ≠ .pending
  · rw [testHold, if_pos (ends.mpr c), if_pos c]
    exact ⟨(evaluate_evaluatedFor .hold _).1.1, endHold_resolved (h.held same c.1)⟩
  · rw [testHold, if_neg (mt ends.mp c), if_neg c]
    exact ⟨h.1.1, hold, h⟩

theorem testHold_bays (t : State) (b : Bay) : sameBayRecord (bayRec t b) (bayRec (testHold t) b) := by
  unfold testHold
  split
  · exact endHold_bays t b
  · exact .refl _

/-- Settles O15: one evaluation follows the supply's record and the work on its slot; a removal then tests the hold. -/
theorem suppliesInsertedAndRemoved : Obligations.SuppliesInsertedAndRemoved := by
  refine ⟨fun p s run law absent timer => ?_, fun p s run present timer => ?_⟩
  · have result : exec (.psuInsertionDebounceExpiry p) s = .next (insertSupply p s) := by
      simp [exec, execPsuInsertionDebounceExpiry, whenRunning_running run, Option.isSome_iff_ne_none.mpr timer, absent]
    rw [insertSupply_eq law] at result
    have written := updSupply_keeps p insertedSupply s
    have records (q) := supplyRec_updSupply p q insertedSupply s
    have fresh := (engineTakes_freshRequest (k := slotOfPsu p) (scanLaw_congr written (law := law))).before written
    generalize updSupply p insertedSupply s = u at *
    have frame := (written.within (l := [.slots, .scanQueue, .scan, .supplies])).and
      (engineTakes_freshRequest_keeps (slotOfPsu p) u)
    have supplies (q) : supplyRec (evaluate (.supply p) (engineTakes (freshRequest (slotOfPsu p) u))) q
        = if q = p then insertedSupply (supplyRec s p) else supplyRec s q := by
      rw [(evaluate_keeps _ _).supplyRec_eq, (engineTakes_freshRequest_keeps _ u).supplyRec_eq, records]
    obtain ⟨evaluated, bays, reported⟩ := evaluatedAlone_of_keeps (.supply p) frame
    refine ⟨_, result, ?_, fun q hq => ?_, fresh.after (evaluate_keeps _ _), evaluated, bays, reported.flags,
      reported.alerts,
      (frame.within (l := [.slots, .scanQueue, .scan, .supplies] ++ budgetParts)).and (evaluate_keeps _ _)⟩
    · rw [supplies, if_pos rfl]; rfl
    · rw [supplies, if_neg hq]
  · have result : exec (.psuRemovalDebounceExpiry p) s = .next (removeSupply p s) := by
      simp [exec, execPsuRemovalDebounceExpiry, whenRunning_running run, Option.isSome_iff_ne_none.mpr timer, present]
    rw [removeSupply_eq] at result
    have written := updSupply_keeps p removedSupply s
    have records (q) := supplyRec_updSupply p q removedSupply s
    generalize updSupply p removedSupply s = u at *
    have cleared := clearSlot_keeps (slotOfPsu p) u
    have stopped := ((clearSlot_stopped (slotOfPsu p) u).before written).after (evaluate_keeps (.supply p) _)
    have frame := (written.within (l := [.slots, .scanQueue, .scan, .supplies])).and cleared
    have supplies (q) : supplyRec (evaluate (.supply p) (clearSlot (slotOfPsu p) u)) q
        = if q = p then removedSupply (supplyRec s p) else supplyRec s q := by
      rw [(evaluate_keeps _ _).supplyRec_eq, cleared.supplyRec_eq, records]
    obtain ⟨evaluated, bays, reported⟩ := evaluatedAlone_of_keeps (.supply p) frame
    have hold := Part.same_trans .hold (frame .hold (by decide))
      (evaluate_keeps (.supply p) (clearSlot (slotOfPsu p) u) .hold (by decide))
    have whole : KeepsAllBut scanParts s (evaluate (.supply p) (clearSlot (slotOfPsu p) u)) :=
      (frame.within (l := scanParts)).and (evaluate_keeps _ _)
    generalize evaluate (.supply p) (clearSlot (slotOfPsu p) u) = v at *
    have tested := testHold_keeps v
    obtain ⟨current, ends⟩ := testHold_tested evaluated hold
    replace stopped := stopped.after tested
    replace reported := reported.trans (testHold_reported v)
    refine ⟨_, result, ?_, fun q hq => ?_, ⟨stopped.record, stopped.unqueued, stopped.unscanned⟩, stopped.aborted,
      current, ends, fun b => (bays b).trans (testHold_bays v b), reported.flags, reported.alerts, whole.and tested⟩
    · rw [tested.supplyRec_eq, supplies, if_pos rfl]; rfl
    · rw [tested.supplyRec_eq, supplies, if_neg hq]

/-! ### Retries (R36) -/

/-- Settles O20: the slot joins the queue, which is empty where the engine is free. -/
theorem retryQueuesTheSlot : Obligations.RetryQueuesTheSlot := by
  intro k s run law stage
  have timer : (slotRec s k).retryTimer ≠ none := (law.scanOpen.slots k).retry.mpr stage
  have result : exec (.retryTimerExpiry k) s = .next (retryDue k s) := by
    simp [exec, execRetryTimerExpiry, whenRunning_running run, Option.isSome_iff_ne_none.mpr timer, stage]
  have queued := queueSlot_retry stage
  have slots (j) : slotRec (queueSlot k s) j = if j = k then requeuedSlot (slotRec s k) else slotRec s j := by
    rw [queued, slotRec_updIse j rfl, slotRec_updSlot]
  have queue : (queueSlot k s).ise.queue = s.ise.queue ++ [k] := by rw [queued]; rfl
  have scan : (queueSlot k s).ise.scan = s.ise.scan := by rw [queued]; rfl
  have frame : KeepsAllBut [.slots, .scanQueue, .scan] s (retryDue k s) :=
    ((queueSlot_keeps k s).within (l := [.slots, .scanQueue, .scan])).and (engineTakes_keeps _)
  rw [retryDue] at result frame
  by_cases free : s.ise.scan = none
  · have empty : s.ise.queue = [] := ((scanLaw_iff s).mp law).2 free
    have head : (queueSlot k s).ise.queue = k :: [] := by rw [queue, empty]; rfl
    have taken := engineTakes_head (scan.trans free) head
    have records := slotRec_engineTakes_head (scan.trans free) head
    refine ⟨_, result, fun _ => ⟨?_, ?_, ?_⟩, fun n => absurd free n, fun j hj => ?_, frame⟩
    · rw [records, if_pos rfl, slots, if_pos rfl]; rfl
    · rw [taken, empty]; rfl
    · rw [taken]; rfl
    · rw [records, if_neg hj, slots, if_neg hj]
  · rw [engineTakes_busy (by rwa [scan])] at result frame
    refine ⟨_, result, fun n => absurd n free, fun _ => ⟨?_, queue, scan⟩, fun j hj => ?_, frame⟩
    · rw [slots, if_pos rfl]; rfl
    · rw [slots, if_neg hj]

end Sys2Proof.Machine
end

section
/-! SUPPORT. A scan that fails (O19). -/

namespace Sys2Proof.Machine

set_option Elab.async false

/-! ### The engine moves on after a report (R33) -/

/-- The scan in flight is over and its slot's record written; the report is still to come. -/
def scanEnded (k : Slot) (f : SlotRec → SlotRec) (s : State) : State := updSlot k f (endTransaction s)

theorem scanEnded_keeps (k : Slot) (f : SlotRec → SlotRec) (s : State) :
    KeepsAllBut [.slots, .scan] s (scanEnded k f s) :=
  ((endTransaction_keeps s).within (l := [.slots, .scan])).and (updSlot_keeps _ _ _)

theorem slotRec_scanEnded (k j : Slot) (f : SlotRec → SlotRec) (s : State) : slotRec (scanEnded k f s) j
    = if j = k then f (slotRec s k) else slotRec s j := by rw [scanEnded, slotRec_updSlot]; rfl

theorem scanEnded_scan (k : Slot) (f : SlotRec → SlotRec) (s : State) : (scanEnded k f s).ise.scan = none := rfl

section
variable {k : Slot} {f : SlotRec → SlotRec} {s v : State} (law : ScanLaw s) (flight : scanning s k = true)
  (frame : KeepsAllBut (.supplies :: .hold :: budgetParts) (scanEnded k f s) v)
include law flight frame

/-- The engine's move after a report, of which the scanning has seen nothing. -/
theorem moveOn_afterEnd : EngineMovedOn k s (engineTakes (raise (.identity k) v))
    ∧ slotRec (engineTakes (raise (.identity k) v)) k = f (slotRec s k) := by
  have raised := raise_keeps (.identity k) v
  have records (j) : slotRec (raise (.identity k) v) j = if j = k then f (slotRec s k) else slotRec s j :=
    (raised.slotRec_eq j).trans ((frame.slotRec_eq j).trans (slotRec_scanEnded k j f s))
  have scan : (raise (.identity k) v).ise.scan = none :=
    Part.same_trans .scan (frame .scan (by decide)) (raised .scan (by decide))
  have queue : (raise (.identity k) v).ise.queue = s.ise.queue :=
    Part.same_trans .scanQueue (frame .scanQueue (by decide)) (raised .scanQueue (by decide))
  obtain ⟨moved, own⟩ := engineTakes_movesOn (k := k) (s := s) scan queue (fun j hj => by rw [records, if_neg hj])
    (law.not_mem_queue flight)
  exact ⟨moved, by rw [own, records, if_pos rfl]⟩

/-- The engine takes a slot without settled identity, so that the budget stands. -/
theorem moveOn_afterEnd_budgetKept : BudgetKept v (engineTakes (raise (.identity k) v)) := by
  have raised := raise_keeps (.identity k) v
  have queue : (raise (.identity k) v).ise.queue = s.ise.queue :=
    Part.same_trans .scanQueue (frame .scanQueue (by decide)) (raised .scanQueue (by decide))
  refine (raise_budgetKept (by simp [causeClass]) v).trans (engineTakes_budgetKept fun j hj => ?_)
  rw [queue] at hj
  have other : j ≠ k := fun e => law.not_mem_queue flight (e ▸ hj)
  rw [raised.slotRec_eq j, frame.slotRec_eq j, slotRec_scanEnded, if_neg other, law.scanOpen.queued_status hj]
  simp

/-- An evaluation of the report is one of the whole event. -/
theorem EvaluatedFor.ofEnd {source : EmgSource} (h : EvaluatedFor source (scanEnded k f s) v) :
    EvaluatedFor source s (engineTakes (raise (.identity k) v)) := by
  have ended := scanEnded_keeps k f s
  have moved := moveOn_keeps k v
  exact (h.before (.of_keeps ended) (ended .hold (by decide)).1 (ended .sequencer (by decide))).after
    (moveOn_afterEnd_budgetKept law flight frame) (moved .waitList (by decide)).1 (moved .sequencer (by decide))

end

/-! ### The failure (R31, R35 to R38) -/

/-- The three commands by which a scan in flight fails. -/
theorem scanFailed_result {k : Slot} {c : Instr} {f : ScanFailure} {s : State} (run : s.mode = .running)
    (flight : scanning s k = true) (h : scanFailure k c = some f) :
    exec c s = .next (scanFailed k f (endTransaction s)) := by
  unfold scanFailure at h
  split at h
  · split at h
    · next e =>
      subst e
      cases h
      simp [exec, execScanNoAnswer, whenRunning_running run, flight]
    · cases h
  · split at h
    · next e =>
      subst e
      cases h
      simp [exec, execScanTimerExpiry, whenRunning_running run, flight]
    · cases h
  · split at h
    · next e =>
      subst e
      simp [exec, execSixteenthByteReceived, whenRunning_running run, flight, judgeScan, judgeImage_invalid h]
    · cases h
  · cases h

/-- The first three failures pause the slot (R35). -/
theorem scanFailed_pauses {k : Slot} {f : ScanFailure} {s : State} (few : (slotRec s k).failures < 3) :
    scanFailed k f (endTransaction s) = engineTakes (scanEnded k (pausedSlot ∘ failedSlot f) s) := by
  have count : (slotRec (endTransaction s) k).failures < 3 := few
  rw [scanFailed_eq, if_pos count, scanEnded]

/-- The fourth gives the slot up, with its report and IDENTITY (R37, R38). -/
theorem scanFailed_givesUp {k : Slot} {f : ScanFailure} {s : State} (last : (slotRec s k).failures = 3) :
    scanFailed k f (endTransaction s)
      = engineTakes (raise (.identity k) (reportStatus k (scanEnded k (lostSlot k ∘ failedSlot f) s))) := by
  have count : (slotRec (endTransaction s) k).failures = 3 := last
  rw [scanFailed_eq, if_neg (by omega), giveUp, updSlot_updSlot, scanEnded]

/-- What the fourth failure comes to for a slot of any kind (R37, R38, R45). -/
structure GivenUp (k : Slot) (f : ScanFailure) (s t : State) : Prop where
  record : slotRec t k = lostSlot k (failedSlot f (slotRec s k))
  raised : Raised (.identity k) t
  moved : EngineMovedOn k s t
  supplies : ∀ p, slotOfPsu p ≠ k → supplyRec t p = supplyRec s p
  bays : ∀ b, sameBayRecord (bayRec s b) (bayRec t b)
  reported : Reported [1, 2, 3, 7] s t
  frame : KeepsAllBut scanParts s t

theorem scanFailed_givenUp {k : Slot} (f : ScanFailure) {s : State} (law : ScanLaw s) (flight : scanning s k = true) :
    GivenUp k f s
      (engineTakes (raise (.identity k) (reportStatus k (scanEnded k (lostSlot k ∘ failedSlot f) s)))) := by
  have ended := scanEnded_keeps k (lostSlot k ∘ failedSlot f) s
  have report := reportStatus_keeps k (scanEnded k (lostSlot k ∘ failedSlot f) s)
  obtain ⟨supplies, bays⟩ := reportStatus_others k (scanEnded k (lostSlot k ∘ failedSlot f) s)
  have reports := (Reported.of_keeps ended).trans (reportStatus_reported k _)
  generalize reportStatus k (scanEnded k (lostSlot k ∘ failedSlot f) s) = v at *
  obtain ⟨moved, record⟩ := moveOn_afterEnd law flight report
  have move := moveOn_keeps k v
  constructor
  case record => exact record
  case raised => exact moveOn_raised k v
  case moved => exact moved
  case supplies => exact fun p hp => by rw [move.supplyRec_eq p, supplies p hp, ended.supplyRec_eq p]
  case bays =>
    exact fun b => ((sameBayRecord.of_eq (ended.bayRec_eq b)).trans (bays b)).trans (.of_eq (move.bayRec_eq b))
  case reported => exact (reports.mono (classes' := [1, 2, 3, 7])).and (moveOn_reported k v)
  case frame => exact ((ended.within (l := scanParts)).and report).and move

/-- The supply of a slot given up is UNIDENTIFIED, and may be the last that the hold waited for (R47, R50, R86). -/
theorem givenUp_supply {p : Psu} (f : ScanFailure) {s : State} (law : ScanLaw s)
    (flight : scanning s (slotOfPsu p) = true) (present : (supplyRec s p).present = true) {t : State}
    (ht : t = engineTakes (raise (.identity (slotOfPsu p))
      (reportStatus (slotOfPsu p) (scanEnded (slotOfPsu p) (lostSlot (slotOfPsu p) ∘ failedSlot f) s)))) :
    supplyRec t p = { supplyRec s p with condition := .unidentified, capacity := 0 }
      ∧ ((supplyRec s p).capacity ≠ 0 → FiguresCurrent t)
      ∧ (if (supplyRec s p).condition ≠ .unidentified ∧ s.pbu.hold = true
            ∧ ∀ q, (supplyRec t q).condition ≠ .pending then HoldResolved s t
        else Part.hold.same s t ∧ ((supplyRec s p).capacity ≠ 0 → EvaluatedFor (.supply p) s t)) := by
  have ended := scanEnded_keeps (slotOfPsu p) (lostSlot (slotOfPsu p) ∘ failedSlot f) s
  have report := reportStatus_keeps (slotOfPsu p) (scanEnded (slotOfPsu p) (lostSlot (slotOfPsu p) ∘ failedSlot f) s)
  have kept := moveOn_afterEnd_budgetKept law flight report
  have ofEnd := EvaluatedFor.ofEnd law flight report (source := .supply p)
  have status : (slotRec (scanEnded (slotOfPsu p) (lostSlot (slotOfPsu p) ∘ failedSlot f) s) (slotOfPsu p)).status
      = .unidentified := by
    rw [slotRec_scanEnded, if_pos rfl, Function.comp, lostSlot, slotKind_slotOfPsu]; rfl
  rw [reportStatus, slotOwner_slotOfPsu] at *
  generalize scanEnded (slotOfPsu p) (lostSlot (slotOfPsu p) ∘ failedSlot f) s = u at *
  have same : supplyRec u p = supplyRec s p := ended.supplyRec_eq p
  have hold : u.pbu.hold = s.pbu.hold := (ended .hold (by decide)).1
  have now : supplyNow u p = { supplyRec s p with condition := .unidentified, capacity := 0 } := by
    simp [supplyNow, same, status, conditionOf, present]
  have move := moveOn_keeps (slotOfPsu p) (supplyChanged p u)
  have supplies (q) : supplyRec t q = supplyRec (supplyCounted p u) q := by
    rw [ht, move.supplyRec_eq, supplyRec_supplyChanged, supplyRec_supplyCounted]
  obtain ⟨figures, resolved, held⟩ := supplyChanged_evaluated p u
  simp only [endsHold, ← supplies, now, same, hold, ne_comm (a := Condition.unidentified), ne_comm (a := (0 : Nat))]
    at figures resolved held
  have own : supplyRec t p = { supplyRec s p with condition := .unidentified, capacity := 0 } := by
    rw [supplies, supplyRec_supplyCounted, if_pos rfl, now]
  refine ⟨own, fun counted => ht ▸ (figures counted).after kept, ?_⟩
  split
  · next ends =>
    rw [ht]
    exact ((resolved ends).before (.of_keeps ended) (ended .sequencer (by decide)).1).after kept
      (move .hold (by decide)).2 (move .waitList (by decide)).1 (move .sequencer (by decide)).1
  · next stands =>
    obtain ⟨holds, evaluated⟩ := held stands
    rw [ht]
    exact ⟨Part.same_trans .hold (ended .hold (by decide)) (Part.same_trans .hold holds (move .hold (by decide))),
      fun counted => ofEnd (evaluated counted)⟩

theorem lostSlot_failed_bay {b : Bay} {f : ScanFailure} {r : SlotRec} (last : r.failures = 3) :
    lostSlot (slotOfBay b) (failedSlot f r) = { r with
      lastFailure := some f, failures := 4, status := .none, stage := .idle, source := some .announce } := by
  rw [lostSlot, slotKind_slotOfBay, fallenSlot, failedSlot, last]

theorem lostSlot_failed {k : Slot} {f : ScanFailure} {r : SlotRec} (last : r.failures = 3) (kind : slotKind k ≠ .bay) :
    lostSlot k (failedSlot f r) = { r with
      lastFailure := some f, failures := 4, status := .unidentified, stage := .idle, source := none
      ident := none } := by
  unfold lostSlot
  split
  · next e => exact absurd e kind
  all_goals rw [unidentifiedSlot, failedSlot, last]

/-- The report of a slot that is no supply's is an evaluation of its owner alone (R44). -/
theorem givenUp_evaluated {k : Slot} {source : EmgSource} (f : ScanFailure) {s : State} (law : ScanLaw s)
    (flight : scanning s k = true) (report : ∀ u, reportStatus k u = evaluate source u) {t : State}
    (ht : t = engineTakes (raise (.identity k) (reportStatus k (scanEnded k (lostSlot k ∘ failedSlot f) s)))) :
    EvaluatedFor source s t ∧ KeepsAllBut ([.slots, .scanQueue, .scan] ++ budgetParts) s t := by
  have ended := scanEnded_keeps k (lostSlot k ∘ failedSlot f) s
  rw [report] at ht
  subst ht
  have evaluated := evaluate_evaluatedFor source (scanEnded k (lostSlot k ∘ failedSlot f) s)
  have frame := evaluate_keeps source (scanEnded k (lostSlot k ∘ failedSlot f) s)
  exact ⟨evaluated.ofEnd law flight frame.within,
    ((ended.within (l := [.slots, .scanQueue, .scan] ++ budgetParts)).and frame).and (moveOn_keeps k _)⟩

theorem reportStatus_fan (i : Fan) (s : State) : reportStatus (slotOfFan i) s = evaluate (.fan i) s := by
  rw [reportStatus, slotOwner_slotOfFan]

/-- Settles O19: three pauses, and then the slot given up, its owner's report standing before the engine's move. -/
theorem scanFails : Obligations.ScanFails := by
  refine ⟨fun k c f s run law flight fails few => ?_, fun b c f s run law flight fails last => ?_,
    fun k c f s run law flight fails last kind => ?_, fun k image s off => ?_⟩
  · have result := scanFailed_result run flight fails
    rw [scanFailed_pauses few] at result
    have ended := scanEnded_keeps k (pausedSlot ∘ failedSlot f) s
    have records (j) := slotRec_scanEnded k j (pausedSlot ∘ failedSlot f) s
    obtain ⟨moved, own⟩ := engineTakes_movesOn (k := k) (s := s) (scanEnded_scan k _ s)
      (ended .scanQueue (by decide)) (fun j hj => by rw [records, if_neg hj]) (law.not_mem_queue flight)
    refine ⟨_, result, ?_, moved, (ended.within (l := [.slots, .scanQueue, .scan])).and (engineTakes_keeps _)⟩
    rw [own, records, if_pos rfl]
    rfl
  · have result := scanFailed_result run flight fails
    rw [scanFailed_givesUp last] at result
    obtain ⟨record, raised, moved, -, bays, reported, -⟩ := scanFailed_givenUp f law flight
    obtain ⟨evaluated, frame⟩ := givenUp_evaluated f law flight (reportStatus_bay b) rfl
    exact ⟨_, result, record.trans (lostSlot_failed_bay last), raised, moved, evaluated, bays, reported.flags,
      reported.alerts, frame⟩
  · have result := scanFailed_result run flight fails
    rw [scanFailed_givesUp last] at result
    obtain ⟨record, raised, moved, supplies, bays, reported, frame⟩ := scanFailed_givenUp f law flight
    have fan (i : Fan) (owner : slotOfFan i = k) :=
      givenUp_evaluated f law flight (owner ▸ reportStatus_fan i) rfl
    refine ⟨_, result, record.trans (lostSlot_failed last kind), raised, moved, fun i owner => (fan i owner).1,
      fun p owner present => ?_, fun isFan => ?_, supplies, bays, reported.flags, reported.alerts, frame⟩
    · subst owner
      exact givenUp_supply f law flight present rfl
    · rcases slotOwner_cases k with ⟨b, rfl⟩ | ⟨p, rfl⟩ | ⟨i, owner⟩
      · exact absurd (slotKind_slotOfBay b) kind
      · rw [slotKind_slotOfPsu] at isFan; cases isFan
      · exact (fan i owner.symm).2 .hold (by decide)
  · have idle (t : State) : whenRunning s (if scanning s k then t else s) = s := by simp [off, whenRunning]
    exact ⟨congrArg _ (idle _), congrArg _ (idle _), congrArg _ (idle _)⟩

end Sys2Proof.Machine
end

section
/-! SUPPORT. Commands that find nothing to act on (O2). -/

namespace Sys2Proof.Machine

set_option Elab.async false

/-! ### In reset (R177) -/

theorem serviceReady_reset {s : State} (reset : s.mode ≠ .running) : serviceReady s = false := by
  simp [serviceReady, isRunning, reset]

theorem serveCommand_reset {s : State} (reset : s.mode ≠ .running) (e : Envelope) (r : Request) :
    serveCommand e r s = s := by
  rw [serveCommand, serviceReady_reset reset, whenRunning_reset reset]
  rfl

theorem takeFrame_idle {s : State} (h : serviceReady s = false ∨ s.fbm.svc.frames = []) : takeFrame s = s := by
  unfold takeFrame
  rcases h with h | h
  · simp [h]
  · rw [h, ite_self]

/-- In reset only the lines and the resets themselves move anything. -/
theorem exec_reset {c : Instr} {s : State} (reset : s.mode ≠ .running) (still : movesInReset c = false) :
    exec c s = .next s := by
  cases c with
  | bayPresChange | bayPgAsserted | bayPgLow | psuPresChange | psuOkChange | fanPresChange | linkUp | linkDown
  | powerOnResetBegin | powerOnResetComplete | resetNAsserted | resetNReleased => cases still
  | serviceFrameTaken => exact congrArg _ (takeFrame_idle (.inl (serviceReady_reset reset)))
  | bayInsertionDebounceExpiry | bayRemovalDebounceExpiry | rampTimerExpiry | stopTimerExpiry | admissionTaken
  | shedTaken | psuInsertionDebounceExpiry | psuRemovalDebounceExpiry | adoptionHoldTimerExpiry | graceTimerExpiry
  | staggerGapTimerExpiry | sixteenthByteReceived | scanNoAnswer | scanTimerExpiry | retryTimerExpiry
  | fanInsertionDebounceExpiry | fanRemovalDebounceExpiry | fanTachPulse | tachWindowExpiry | controlTimerExpiry
  | bayPortFrame | uplinkPortFrame | transmissionComplete | agingSweepTimerExpiry =>
    exact congrArg _ (whenRunning_reset reset)
  | _ => exact congrArg _ (serveCommand_reset reset _ _)

/-! ### With nothing to act on (logs 3, 4 and 22) -/

theorem whenRunning_self (s : State) : whenRunning s s = s := by simp [whenRunning]

theorem whenRunning_off {c : Bool} {s t : State} (off : c = false) : whenRunning s (if c then t else s) = s := by
  rw [off]; exact whenRunning_self s

/-- A timer that does not run, or that runs in another state. -/
theorem expiry_off {timer : Timer} {c : Bool} (h : timer = none ∨ c = false) : (timer.isSome && c) = false := by
  rcases h with h | h <;> simp [h]

theorem takeHandedAdmission_idle {s : State} (h : ¬Admitting s) : takeHandedAdmission s = s := by
  unfold takeHandedAdmission
  split
  · next b seq => exact absurd ⟨b, seq⟩ h
  all_goals rfl

theorem takeHandedShed_idle {s : State} (h : s.pbu.emg.phase ≠ .shedding ∨ s.pbu.emg.shedBay = none) :
    takeHandedShed s = s := by
  unfold takeHandedShed
  split
  · next b phase bay => simp [phase, bay] at h
  · rfl

theorem inGap_eq_false {s : State} (h : ∀ b, s.pbu.seq ≠ .gap b) : inGap s = false := by
  unfold inGap
  split
  · next b seq => exact absurd seq (h b)
  all_goals rfl

theorem scanning_eq_false {s : State} {k : Slot} (h : s.ise.scan.map (·.slot) ≠ some k) : scanning s k = false := by
  rwa [Bool.eq_false_iff, ne_eq, scanning_iff]

/-- A frame that fails its checks is lost, and so is one over a link that is DOWN (R132, R151). -/
theorem receiveFrame_lost {p : Port} {f : RxFrame} {s : State}
    (h : frameSound f = false ∨ ∃ u, p = .uplink u ∧ (uplinkRec s u).link = false) : receiveFrame p f s = s := by
  rcases h with h | ⟨u, rfl, h⟩
  · cases p <;> simp [receiveFrame, h]
  · simp [receiveFrame, h]

/-- A request whose frame is lost and which does not wait at the head of the queue (log 4). -/
theorem serveCommand_lost {e : Envelope} {r : Request} {s : State} (away : NotAtHead e r s)
    (lost : ∃ u, e.arrival = .uplink u ∧ (uplinkRec s u).link = false) : serveCommand e r s = s := by
  by_cases run : s.mode = .running
  · rw [serveCommand_arrives run away, requestArrives, receiveFrame_lost (.inr lost)]
    cases s.fbm.svc.frames.isEmpty <;> simp
  · exact serveCommand_reset run e r

theorem exec_nothingToDo {c : Instr} {s : State} (h : nothingToDo s c) : exec c s = .next s := by
  cases c with
  | bayPresChange | psuPresChange | fanPresChange => exact congrArg _ (if_pos h)
  | bayInsertionDebounceExpiry | rampTimerExpiry | stopTimerExpiry | fanInsertionDebounceExpiry | graceTimerExpiry
  | retryTimerExpiry => exact congrArg _ (whenRunning_off (expiry_off (h.imp_right beq_eq_false_iff_ne.mpr)))
  | bayRemovalDebounceExpiry | fanRemovalDebounceExpiry =>
    exact congrArg _ (whenRunning_off (expiry_off (h.imp_right bne_eq_false_iff_eq.mpr)))
  | psuInsertionDebounceExpiry => exact congrArg _ (whenRunning_off (expiry_off (h.imp_right fun p => by rw [p]; rfl)))
  | psuRemovalDebounceExpiry => exact congrArg _ (whenRunning_off (expiry_off h))
  | admissionTaken => exact congrArg _ ((congrArg _ (takeHandedAdmission_idle h)).trans (whenRunning_self s))
  | shedTaken => exact congrArg _ ((congrArg _ (takeHandedShed_idle h)).trans (whenRunning_self s))
  | adoptionHoldTimerExpiry =>
    exact congrArg _ (whenRunning_off ((Bool.and_comm _ _).trans (expiry_off h)))
  | staggerGapTimerExpiry => exact congrArg _ (whenRunning_off (expiry_off (h.imp_right inGap_eq_false)))
  | sixteenthByteReceived | scanNoAnswer | scanTimerExpiry =>
    exact congrArg _ (whenRunning_off (scanning_eq_false h))
  | fanTachPulse => exact congrArg _ ((congrArg _ (if_pos h)).trans (whenRunning_self s))
  | tachWindowExpiry | controlTimerExpiry | agingSweepTimerExpiry =>
    exact congrArg _ (whenRunning_off (Option.isSome_eq_false_iff.mpr (Option.isNone_iff_eq_none.mpr h)))
  | bayPortFrame => exact congrArg _ ((congrArg _ (receiveFrame_lost (.inl h))).trans (whenRunning_self s))
  | uplinkPortFrame u =>
    exact congrArg _ ((congrArg _ (receiveFrame_lost (h.imp_right fun down => ⟨u, rfl, down⟩))).trans
      (whenRunning_self s))
  | transmissionComplete => exact congrArg _ (whenRunning_off h)
  | powerOnResetComplete => rcases h with h | h <;> simp [exec, execPowerOnResetComplete, supplyStable, h]
  | serviceFrameTaken =>
    refine congrArg _ (takeFrame_idle (h.imp_left fun pending => ?_))
    simp [serviceReady, Option.isSome_iff_ne_none.mpr pending]
  | bayPgAsserted | bayPgLow | psuOkChange | linkUp | linkDown | powerOnResetBegin | resetNAsserted
  | resetNReleased => exact h.elim
  | _ =>
    obtain ⟨⟨e, r⟩, request, away, lost⟩ := h
    rw [exec_request request, serveCommand_lost away lost]

/-- Settles O2: every row of the commands answers a next state, and those without effect the state itself. -/
theorem everyCommandAnswersNext : Obligations.EveryCommandAnswersNext := by
  refine ⟨fun c s => ?_, fun c s without => ?_⟩
  · cases c with
    | _ => exact ⟨_, rfl⟩
  · rcases without with ⟨reset, still⟩ | nothing
    · exact exec_reset reset still
    · exact exec_nothingToDo nothing

end Sys2Proof.Machine
end

section
/-! SUPPORT. What a step can do, said once: every step is a chain of acts of the part's blocks. A law that each act
keeps is kept by every step (O55, O56, O60). -/

namespace Sys2Proof.Machine

/-! ### The acts -/

/-- The record differs in the debounce timers and the port's counters alone (R2, R25). -/
def BayNoted (r r' : BayRec) : Prop :=
  r' = { r with insertTimer := r'.insertTimer, removeTimer := r'.removeTimer, overflows := r'.overflows
                noUplink := r'.noUplink, refused := r'.refused }

/-- The acts of which a step is made, block by block, each where the part can make it. -/
inductive Act : State → State → Prop where
  | waits (l : List Instr) (s : State) : Act s { s with pending := l }
  | ticks (s : State) : Act s (tick s)
  | lines (f : Pins → Pins) (s : State) : Act s (updPins f s)
  | raises (c : Cause) (s : State) : Act s (raise c s)
  | service (f : Sve → Sve) (s : State) : Act s (updSve f s)
  | beginsReset {m : Mode} (powerOn : Bool) (s : State) (off : m ≠ .running) : Act s (beginReset powerOn m s)
  | staysReset {m : Mode} {s : State} (was : s.mode ≠ .running) (off : m ≠ .running) : Act s { s with mode := m }
  | powersOn (straps : BitVec 4) (s : State) : Act s (completePowerOn straps s)
  | takesOver (cause : ResetCause) (straps : BitVec 4) (s : State) : Act s (takeover cause straps s)
  | offers (p : Port) (c : Copy) (s : State) : Act s (offer p c s)
  | offersService (p : Port) (f : RxFrame) (s : State) : Act s (offerService p f s)
  | drops (p : Port) (s : State) : Act s (countDropped 1 p s)
  | sends (p : Port) (s : State) : Act s (completeTransmission p s)
  | pops (s : State) : Act s (svcPop s)
  | flushes (u : Uplink) (s : State) : Act s (flush (.uplink u) s)
  | bars (u : Uplink) (s : State) : Act s (barWaiting u s)
  | quota (p : Port) (n : Nat) (s : State) : Act s (setQuota p n s)
  | uplink (u : Uplink) (f : UplinkRec → UplinkRec) (s : State) : Act s (updUplink u f s)
  | learns (b : Bay) (a : Addr) (t c : Nat) (s : State) : Act s (learn b a t c s)
  | stations (f : Stb → Stb) (s : State) : Act s (updStb f s)
  | loadsWindow (b : Bay) (w : Window) (s : State) : Act s (loadWindow b w s)
  | fan (i : Fan) (f : FanRec → FanRec) (s : State) : Act s (updFan i f s)
  | endsWindow (i : Fan) (s : State) : Act s (tachWindow i s)
  | insertsFan (i : Fan) (s : State) : Act s (insertFan i s)
  | removesFan (i : Fan) (s : State) : Act s (removeFan i s)
  | zone (z : Zone) (f : ZoneRec → ZoneRec) (s : State) : Act s (updZone z f s)
  | setsZone (z : Zone) (m : ZoneMode) (floor forced staleLimit stepDown : Nat) (s : State) :
      Act s (setZone z m floor forced staleLimit stepDown s)
  | controls (s : State) : Act s (controlZones s)
  | reports (b : Bay) (margin : Nat) (critical : Bool) (s : State) : Act s (acceptReport b margin critical s)
  | rescans (k : Slot) (s : State) : Act s (requestScan k s)
  | retries (k : Slot) (s : State) : Act s (retryDue k s)
  | judges (k : Slot) (image : Image) (s : State) : Act s (judgeScan k image s)
  | fails (k : Slot) (failure : ScanFailure) (s : State) : Act s (scanFailed k failure (endTransaction s))
  | announces (b : Bay) (ident : Identity) (s : State) : Act s (acceptAnnounce (slotOfBay b) ident s)
  | supplyTimers (p : Psu) (present : Bool) (s : State) : Act s (updSupply p (supplyPresence present) s)
  | supplyOk (p : Psu) (asserted : Bool) (s : State) :
      Act s (supplyChanged p (updSupply p (fun r => { r with psuOk := asserted }) s))
  | insertsSupply (p : Psu) (s : State) : Act s (insertSupply p s)
  | removesSupply (p : Psu) (s : State) : Act s (removeSupply p s)
  | powerPolicy (policy : PowerPolicy) (s : State) :
      Act s (evaluate .policy (updPbu (fun p => { p with policy := policy }) s))
  | gate (g : Gate) (s : State) : Act s (setGate g s)
  | endsHold (s : State) : Act s (endHold s)
  | endsGrace {s : State} (phase : s.pbu.emg.phase = .grace) : Act s (endGrace s)
  | endsGap {b : Bay} {s : State} (seq : s.pbu.seq = .gap b) : Act s (endGap s)
  | admission {b : Bay} {s : State} (seq : s.pbu.seq = .admitting b) : Act s (answerAdmission b s)
  | shed {b : Bay} {s : State} (phase : s.pbu.emg.phase = .shedding) (bay : s.pbu.emg.shedBay = some b) :
      Act s (shedAnswered b s)
  | notes {f : BayRec → BayRec} (b : Bay) (s : State) (noted : BayNoted (bayRec s b) (f (bayRec s b))) :
      Act s (updBay b f s)
  | inserts {b : Bay} {s : State} (state : bayState s b = .empty) : Act s (insertBay b s)
  | detects {b : Bay} {s : State} (state : bayState s b = .maint) : Act s (enterDetected b s)
  | removes (b : Bay) (s : State) : Act s (removeBay b s)
  | isolates (b : Bay) (s : State) : Act s (isolate b s)
  | ramps {b : Bay} {s : State} (state : bayState s b = .ramping) : Act s (completeRamp b s)
  | rampFaults {b : Bay} {s : State} (state : bayState s b = .ramping) : Act s (rampFault b s)
  | powerFaults (b : Bay) (s : State) : Act s (powerFault b s)
  | stops {b : Bay} {s : State} (state : bayState s b = .poweredOn) : Act s (beginStop b s)
  | stopEnds {b : Bay} {s : State} (state : bayState s b = .stopping) : Act s (endStop b s)
  | forcedOff (b : Bay) (s : State) : Act s (forceOff b s)
  | clearsFault {b : Bay} {s : State} (state : bayState s b = .fault) : Act s (enterState b (standbyState s b) s)
  | asks {b : Bay} {s : State} (state : bayState s b = .standby) : Act s (requestPower b s)
  | bayPolicy (b : Bay) (priority cap : Nat) (u : Uplink) (z : Zone) (restore : Bool) (s : State) :
      Act s (setBayPolicy b priority cap u z restore s)

/-- A chain of acts. -/
def Acts : State → State → Prop := Relation.ReflTransGen Act

theorem Acts.refl (s : State) : Acts s s := Relation.ReflTransGen.refl

theorem Acts.trans {s t u : State} (h : Acts s t) (k : Acts t u) : Acts s u := Relation.ReflTransGen.trans h k

theorem Acts.and {s t u : State} (h : Acts s t) (k : Act t u) : Acts s u := Relation.ReflTransGen.tail h k

theorem Act.acts {s t : State} (h : Act s t) : Acts s t := Relation.ReflTransGen.single h

/-- What each act does to a relation between states, every chain of acts does. -/
theorem Acts.induct {R : State → State → Prop} (refl : ∀ s, R s s) (trans : ∀ {s t u}, R s t → R t u → R s u)
    (act : ∀ {s t}, Act s t → R s t) {s t : State} (h : Acts s t) : R s t := by
  induction h with
  | refl => exact refl s
  | tail _ last ih => exact trans ih (act last)

theorem Acts.foldl {α : Type} {f : State → α → State} (h : ∀ s a, Acts s (f s a)) (as : List α) (s : State) :
    Acts s (as.foldl f s) := by
  induction as generalizing s with
  | nil => exact .refl s
  | cons a rest ih => exact (h s a).trans (ih _)

/-- What is done where a condition holds, and nothing otherwise. -/
theorem Acts.ite {c : Prop} [Decidable c] {s t : State} (h : c → Acts s t) : Acts s (if c then t else s) := by
  split
  · next hc => exact h hc
  · exact .refl s

/-- Something is done, and more where a condition holds. -/
theorem Acts.andIf {c : Prop} [Decidable c] {s t u : State} (h : Acts s t) (more : c → Acts t u) :
    Acts s (if c then u else t) := h.trans (.ite more)

/-! ### Frames (R132 to R138, R151) -/

theorem countRefused_acts (p : Port) (s : State) : Acts s (countRefused p s) := by
  cases p with
  | bay b => exact (Act.notes (f := fun r => { r with refused := satAdd r.refused 1 Config.top16 }) b s rfl).acts
  | uplink u => exact (Act.uplink u (fun r => { r with refused := satAdd r.refused 1 Config.top16 }) s).acts

theorem flood_acts (skip : Option Bay) (f : RxFrame) (c : Nat) (s : State) : Acts s (flood skip f c s) := by
  refine Acts.foldl (fun s b => .ite fun _ => ?_) _ s
  split
  · exact (Act.offers _ _ s).acts
  · exact .refl s

theorem sendUplink_acts (b : Bay) (f : RxFrame) (c : Nat) (s : State) : Acts s (sendUplink b f c s) := by
  unfold sendUplink
  split
  · exact (Act.offers _ _ s).acts
  · exact (Act.notes b s (by rfl)).acts

theorem upstreamDestination_acts (b : Bay) (f : RxFrame) (c : Nat) (s : State) :
    Acts s (upstreamDestination b f c s) := by
  unfold upstreamDestination
  split
  · exact (sendUplink_acts b f c s).trans (flood_acts _ _ _ _)
  · split
    · split
      · exact .refl s
      · split
        · exact (Act.offers _ _ s).acts
        · exact sendUplink_acts b f c s
    · exact sendUplink_acts b f c s

theorem upstream_acts (b : Bay) (f : RxFrame) (s : State) : Acts s (upstream b f s) := by
  unfold upstream
  split
  · exact .refl s
  · split
    · exact (Act.notes b s (by rfl)).acts.and (.raises _ _)
    · exact (Act.learns b _ _ _ s).acts.trans (upstreamDestination_acts b f _ _)

theorem downstream_acts (u : Uplink) (f : RxFrame) (s : State) : Acts s (downstream u f s) := by
  unfold downstream
  split
  · exact .refl s
  · simp only
    split
    · exact flood_acts _ _ _ s
    · split
      · split
        · exact flood_acts _ _ _ s
        · exact (Act.offers _ _ s).acts
      · exact flood_acts _ _ _ s

theorem receiveFrame_acts (p : Port) (f : RxFrame) (s : State) : Acts s (receiveFrame p f s) := by
  have service (accepted : Bool) : Acts s (if accepted then offerService p f s else countRefused p s) := by
    split
    · exact (Act.offersService p f s).acts
    · exact countRefused_acts p s
  cases p with
  | bay b =>
    refine .ite fun _ => ?_
    unfold bayFrame
    split
    · exact service _
    · split
      · exact upstream_acts b f s
      · exact (Act.drops _ s).acts
  | uplink u =>
    refine .ite fun _ => ?_
    unfold uplinkFrame
    simp only
    split
    · exact service _
    · split
      · exact downstream_acts u f s
      · exact (Act.drops _ s).acts

/-! ### Resets and links (R148, R150, R175) -/

theorem softResetNow_acts (s : State) : Acts s (softResetNow s) :=
  ((Act.lines _ s).acts.and (.beginsReset false _ (by decide))).and (.takesOver _ _ _)

theorem changeUplink_acts (u : Uplink) (f : UplinkRec → UplinkRec) (s : State) : Acts s (changeUplink u f s) :=
  (Act.uplink u f s).acts.andIf fun _ => (Act.flushes u _).acts

theorem setUplink_acts (u : Uplink) (enabled right : Bool) (s : State) : Acts s (setUplink u enabled right s) := by
  unfold setUplink
  simp only
  split
  · exact .refl s
  · exact ((changeUplink_acts u _ s).andIf fun _ => (Act.bars u _).acts).and (.raises _ _)

theorem linkGoesDown_acts (u : Uplink) (s : State) : Acts s (linkGoesDown u s) := by
  have raised : Acts s (raise (.uplinkChange u .linkDown) (updUplink u (fun r => { r with link := false }) s)) :=
    (Act.uplink u _ s).acts.and (.raises _ _)
  unfold linkGoesDown
  simp only
  split
  · exact (raised.and (.flushes u _)).andIf fun _ => softResetNow_acts _
  · exact raised

/-! ### Requests (R165 to R167) -/

/-- A request that names something is made of acts where it is for everything that it may name. -/
theorem named_acts {α : Type} {n : Option α} {s : State} {f : α → Reply} (h : ∀ x, Acts s (f x).state) :
    Acts s (named n s f).state := by
  cases n with
  | none => exact .refl s
  | some x => exact h x

theorem forArrivalBay_acts {e : Envelope} {s : State} {f : Bay → Reply} (h : ∀ b, Acts s (f b).state) :
    Acts s (forArrivalBay e s f).state := by
  unfold forArrivalBay
  split
  · exact h _
  · exact .refl s

/-- An answer adds nothing to the effect of its request. -/
theorem answered_acts {st : Status} {s t : State} (h : Acts s t) : Acts s (answered st t).state := h

/-- A request is answered with an effect where a condition holds, and refused otherwise. -/
theorem reply_ite_acts {c : Prop} [Decidable c] {s : State} {r : Reply} {st : Status} (h : c → Acts s r.state) :
    Acts s (if c then r else answered st s).state := by
  split
  · next hc => exact h hc
  · exact .refl s

theorem askPower_acts (b : Bay) (s : State) : Acts s (askPower b s).state :=
  reply_ite_acts fun h => reply_ite_acts fun _ => (Act.asks h).acts

theorem powerOffForced_acts (b : Bay) (s : State) : Acts s (powerOffForced b s).state := by
  unfold powerOffForced
  split
  iterate 4 exact (Act.forcedOff b s).acts
  all_goals exact .refl s

theorem powerOffGraceful_acts (b : Bay) (s : State) : Acts s (powerOffGraceful b s).state := by
  unfold powerOffGraceful
  split
  · next h => exact (Act.stops h).acts
  · exact .refl s
  iterate 2 exact powerOffForced_acts b s
  all_goals exact .refl s

theorem updPlaces_acts (f : List Place → List Place) (s : State) : Acts s (updPlaces f s) := (Act.stations _ s).acts

theorem addStatic_acts (a : Addr) (b : Bay) (t c : Nat) (s : State) : Acts s (addStatic a b t c s).state := by
  unfold addStatic
  split
  · exact updPlaces_acts _ s
  · split
    · exact updPlaces_acts _ s
    · exact .refl s

theorem carryOut_acts (e : Envelope) (r : Request) (s : State) : Acts s (carryOut e r s).state := by
  cases r with
  | readBay | readSlot | readZone | readFan | readUplink | readQueue => exact named_acts fun _ => .refl s
  | readPower | readEvents | softReset | identifyPart => exact .refl s
  | readStation first count =>
    change Acts s (replyReadStation first count s).state
    unfold replyReadStation
    split <;> exact .refl s
  | clearEvents classes => exact named_acts fun _ => (Act.service _ s).acts
  | setEventMask classes => exact named_acts fun _ => answered_acts (Act.service _ s).acts
  | setAlertTarget presence uplink address =>
    change Acts s (replySetAlertTarget presence uplink address s).state
    unfold replySetAlertTarget
    split
    · exact answered_acts (Act.service _ s).acts
    · exact reply_ite_acts fun _ => named_acts fun _ => answered_acts (Act.service _ s).acts
  | setBayPolicy bay priority cap uplink zone autoRestore =>
    exact named_acts fun b => named_acts fun u => named_acts fun z => named_acts fun a =>
      (Act.bayPolicy b _ _ u z a s).acts
  | loadWindow bay bs cs bb cb => exact named_acts fun b => reply_ite_acts fun _ => (Act.loadsWindow b _ s).acts
  | powerOn bay => exact named_acts fun b => askPower_acts b s
  | powerOff bay form =>
    refine named_acts fun b => ?_
    split
    · exact powerOffGraceful_acts b s
    · exact reply_ite_acts fun _ => powerOffForced_acts b s
  | setMaint bay =>
    refine named_acts fun b => ?_
    split
    iterate 2 exact .refl s
    all_goals exact (Act.isolates b s).acts
  | clearMaint bay => exact named_acts fun b => reply_ite_acts fun h => (Act.detects h).acts
  | clearFault bay => exact named_acts fun b => reply_ite_acts fun h => (Act.clearsFault h).acts
  | rescan slot => exact named_acts fun k => reply_ite_acts fun _ => (Act.rescans k s).acts
  | setPowerPolicy redundancy baseLoad gapSteps grace stopTimeout =>
    exact named_acts fun _ => (Act.powerPolicy _ s).acts
  | setAdmission gate => exact named_acts fun g => (Act.gate g s).acts
  | loadCurve zone points => exact named_acts fun z => reply_ite_acts fun _ => answered_acts (Act.zone z _ s).acts
  | setZone zone mode floor forced staleLimit stepDown =>
    refine named_acts fun z => named_acts fun m => ?_
    split
    · exact .refl s
    · split
      · exact .refl s
      · exact (Act.setsZone z m _ _ _ _ s).acts
  | setFan fan zone minRun prescale =>
    exact named_acts fun i => named_acts fun z => reply_ite_acts fun _ => (Act.fan i _ s).acts
  | setUplink uplink enabled right =>
    refine named_acts fun u => named_acts fun en => named_acts fun ri => ?_
    split
    · exact .refl s
    · exact setUplink_acts u en ri s
  | setQuota queue quota =>
    change Acts s (replySetQuota e queue quota s).state
    unfold replySetQuota
    split
    · simp only
      split
      · exact .refl s
      · exact (Act.quota _ _ s).acts
    all_goals exact .refl s
  | addStatic address bay bladeTag =>
    refine named_acts fun b => ?_
    split
    · exact .refl s
    · exact named_acts fun c => addStatic_acts _ b _ c s
  | removeStatic address chassisTag =>
    change Acts s (replyRemoveStatic address chassisTag s).state
    unfold replyRemoveStatic
    split
    · split
      · exact .refl s
      · exact answered_acts (updPlaces_acts _ s)
    · exact .refl s
  | setAging steps => exact answered_acts (Act.stations _ s).acts
  | announce image =>
    refine forArrivalBay_acts fun b => reply_ite_acts fun _ => ?_
    split
    · exact (Act.announces b _ s).acts
    · exact .refl s
  | thermalReport margin critical =>
    exact forArrivalBay_acts fun b => named_acts fun c => reply_ite_acts fun _ => (Act.reports b _ c s).acts
  | powerRequest => exact forArrivalBay_acts fun b => askPower_acts b s
  | powerRelease =>
    refine forArrivalBay_acts fun b => ?_
    split
    · exact (Act.forcedOff b s).acts
    · next h => exact (Act.stopEnds h).acts
    all_goals exact .refl s
  | readOwn => exact forArrivalBay_acts fun _ => .refl s

/-! ### The service engine (R157, R164) -/

theorem denied_acts (e : Envelope) (s : State) : Acts s (denied e s).state := by
  unfold denied
  split
  · exact answered_acts (countRefused_acts _ s)
  · exact .refl s

theorem reply_acts (e : Envelope) (r : Request) (s : State) : Acts s (reply e r s).state := by
  unfold reply
  split
  · exact denied_acts e s
  · split
    · exact .refl s
    · exact carryOut_acts e r s

theorem respond_acts (e : Envelope) (code : Nat) (r : Reply) : Acts r.state (respond e code r) := by
  unfold respond
  simp only
  split
  · unfold offerAndReset
    simp only
    split
    · exact (Act.offers _ _ _).acts.and (.service _ _)
    · exact (Act.offers _ _ _).acts.trans (softResetNow_acts _)
  · exact (Act.offers _ _ _).acts

theorem serve_acts (e : Envelope) (r : Request) (s : State) : Acts s (serve e r s) := by
  unfold serve
  split
  · exact countRefused_acts _ s
  · exact (reply_acts e r s).trans (respond_acts _ _ _)

theorem serveCommand_acts (e : Envelope) (r : Request) (s : State) : Acts s (serveCommand e r s) := by
  unfold serveCommand
  split
  · exact (Act.pops s).acts.trans (serve_acts e r _)
  · exact .ite fun _ => (receiveFrame_acts _ _ s).andIf fun _ => (Act.pops _).acts.trans (serve_acts e r _)

theorem replyFrame_acts (f : SvcFrame) (s : State) : Acts s (replyFrame f s).state := by
  unfold replyFrame
  simp only
  split
  · exact .refl s
  · split
    · exact denied_acts _ s
    · split
      · exact .refl s
      · exact reply_acts _ _ s

theorem serveFrame_acts (f : SvcFrame) (s : State) : Acts s (serveFrame f s) := by
  unfold serveFrame
  split
  · exact countRefused_acts _ s
  · split
    · exact respond_acts _ _ (answered .length s)
    · split
      · exact countRefused_acts _ s
      · exact (replyFrame_acts f s).trans (respond_acts _ _ _)

theorem takeFrame_acts (s : State) : Acts s (takeFrame s) := by
  refine .ite fun _ => ?_
  split
  · exact .refl s
  · exact (Act.pops s).acts.trans (serveFrame_acts _ _)

/-! ### Commands -/

theorem whenRunning_acts {s t : State} (h : Acts s t) : Acts s (whenRunning s t) := .ite fun _ => h

theorem supplyStable_acts (straps : BitVec 4) (s : State) : Acts s (supplyStable straps s) := by
  unfold supplyStable
  split
  · next mode =>
    split
    · exact (Act.staysReset (by simp [mode]) (by simp)).acts
    · exact (Act.powersOn straps s).acts
  all_goals exact .refl s

theorem lineAsserted_acts (s : State) : Acts s (lineAsserted s) := by
  have moved := (Act.lines (fun p => { p with resetN := true }) s).acts
  unfold lineAsserted
  simp only
  split
  · exact moved.and (.beginsReset false _ (by decide))
  all_goals exact moved

theorem lineReleased_acts (straps : BitVec 4) (s : State) : Acts s (lineReleased straps s) := by
  have moved := (Act.lines (fun p => { p with resetN := false }) s).acts
  unfold lineReleased
  simp only
  split
  · exact moved.and (.takesOver _ _ _)
  · exact moved.and (.powersOn straps _)
  all_goals exact moved

theorem bayPresence_noted (present : Bool) (r : BayRec) : BayNoted r (bayPresence present r) := by
  unfold bayPresence
  split <;> rfl

/-- A presence line that moves is noted by its block, out of reset (R2, R48, R106). -/
theorem presence_acts {same run : Prop} [Decidable same] [Decidable run] {f : Pins → Pins} {s u : State}
    (noted : Acts (updPins f s) u) : Acts s (if same then s else if run then u else updPins f s) := by
  split
  · exact .refl s
  · exact (Act.lines f s).acts.andIf fun _ => noted

theorem exec_acts {c : Instr} {s t : State} (h : exec c s = .next t) : Acts s t := by
  obtain rfl : t = (match exec c s with | .next u => u | _ => s) := by rw [h]
  clear h
  cases c with
  | bayPresChange b present => exact presence_acts (Act.notes b _ (bayPresence_noted present _)).acts
  | psuPresChange p present => exact presence_acts (Act.supplyTimers p present _).acts
  | fanPresChange f present => exact presence_acts (Act.fan f _ _).acts
  | bayInsertionDebounceExpiry b =>
    refine whenRunning_acts (.ite fun h => ?_)
    simp only [Bool.and_eq_true, beq_iff_eq] at h
    exact (Act.inserts h.2).acts
  | bayRemovalDebounceExpiry b => exact whenRunning_acts (.ite fun _ => (Act.removes b s).acts)
  | bayPgAsserted b =>
    refine (Act.lines _ s).acts.andIf fun h => ?_
    simp only [Bool.and_eq_true, beq_iff_eq] at h
    refine (Act.ramps ?_).acts
    exact h.2
  | bayPgLow b => exact (Act.lines _ s).acts.andIf fun _ => (Act.powerFaults b _).acts
  | rampTimerExpiry b =>
    refine whenRunning_acts (.ite fun h => ?_)
    simp only [Bool.and_eq_true, beq_iff_eq] at h
    exact (Act.rampFaults h.2).acts
  | stopTimerExpiry b =>
    refine whenRunning_acts (.ite fun h => ?_)
    simp only [Bool.and_eq_true, beq_iff_eq] at h
    exact (Act.stopEnds h.2).acts
  | admissionTaken =>
    refine whenRunning_acts ?_
    unfold takeHandedAdmission
    split
    · next seq => exact (Act.admission seq).acts
    all_goals exact .refl s
  | shedTaken =>
    refine whenRunning_acts ?_
    unfold takeHandedShed
    split
    · next phase bay => exact (Act.shed phase bay).acts
    · exact .refl s
  | psuInsertionDebounceExpiry p => exact whenRunning_acts (.ite fun _ => (Act.insertsSupply p s).acts)
  | psuRemovalDebounceExpiry p => exact whenRunning_acts (.ite fun _ => (Act.removesSupply p s).acts)
  | psuOkChange p asserted => exact (Act.lines _ s).acts.andIf fun _ => (Act.supplyOk p asserted _).acts
  | adoptionHoldTimerExpiry => exact whenRunning_acts (.ite fun _ => (Act.endsHold s).acts)
  | graceTimerExpiry =>
    refine whenRunning_acts (.ite fun h => ?_)
    simp only [Bool.and_eq_true, beq_iff_eq] at h
    exact (Act.endsGrace h.2).acts
  | staggerGapTimerExpiry =>
    refine whenRunning_acts (.ite fun h => ?_)
    simp only [Bool.and_eq_true, inGap] at h
    cases seq : s.pbu.seq with
    | gap b => exact (Act.endsGap seq).acts
    | idle | admitting | ramp => simp [seq] at h
  | sixteenthByteReceived k image => exact whenRunning_acts (.ite fun _ => (Act.judges k image s).acts)
  | scanNoAnswer k | scanTimerExpiry k => exact whenRunning_acts (.ite fun _ => (Act.fails k _ s).acts)
  | retryTimerExpiry k => exact whenRunning_acts (.ite fun _ => (Act.retries k s).acts)
  | fanInsertionDebounceExpiry f => exact whenRunning_acts (.ite fun _ => (Act.insertsFan f s).acts)
  | fanRemovalDebounceExpiry f => exact whenRunning_acts (.ite fun _ => (Act.removesFan f s).acts)
  | fanTachPulse f =>
    refine whenRunning_acts ?_
    split
    · exact .refl s
    · exact (Act.fan f _ s).acts
  | tachWindowExpiry f => exact whenRunning_acts (.ite fun _ => (Act.endsWindow f s).acts)
  | controlTimerExpiry => exact whenRunning_acts (.ite fun _ => (Act.controls s).acts)
  | bayPortFrame b f => exact whenRunning_acts (receiveFrame_acts _ f s)
  | uplinkPortFrame u f => exact whenRunning_acts (receiveFrame_acts _ f s)
  | transmissionComplete p =>
    exact whenRunning_acts (.ite fun _ => (Act.sends p s).acts.andIf fun _ => softResetNow_acts _)
  | agingSweepTimerExpiry =>
    exact whenRunning_acts (.ite fun _ => (updPlaces_acts _ s).and (.stations _ _))
  | linkUp u =>
    exact (Act.lines _ s).acts.andIf fun _ => (Act.uplink u _ _).acts.and (.raises _ _)
  | linkDown u => exact (Act.lines _ s).acts.andIf fun _ => linkGoesDown_acts u _
  | powerOnResetBegin => exact (Act.beginsReset true s (by decide)).acts
  | powerOnResetComplete straps => exact supplyStable_acts straps s
  | resetNAsserted => exact lineAsserted_acts s
  | resetNReleased straps => exact lineReleased_acts straps s
  | serviceFrameTaken => exact takeFrame_acts s
  | _ => exact serveCommand_acts _ _ s

/-- Every step is a chain of acts. -/
theorem step_acts {s t : State} (h : step s = .next t) : Acts s t := by
  unfold step at h
  split at h
  · exact (Act.waits _ s).acts.trans (exec_acts h)
  · injection h with h
    subst h
    refine .ite fun _ => ?_
    split
    · exact (Act.waits _ s).acts
    · exact (Act.ticks s).acts

end Sys2Proof.Machine
end

section
/-! SUPPORT. The laws of the power work through the operations of the blocks: the wait list, the ramp, the emergency, the
budget and the waiting head (O55, O56, O60). -/

namespace Sys2Proof.Machine

/-! ### The relations -/

/-- The wait list, the ramp and the emergency stay lawful (R58, R63, R71 to R73, R85). -/
structure StandingKept (s t : State) : Prop where
  wait : WaitListLaw s → WaitListLaw t
  ramp : RampLaw s → RampLaw t
  emergency : EmergencyLaw s → EmergencyLaw t

/-- With them the budget stays in its bound, and the head waits only where it does not fit (R54, R61). -/
structure PowerKept (s t : State) : Prop extends StandingKept s t where
  budget : BudgetLaw s → BudgetLaw t
  head : WaitListLaw s → HeadLaw s → HeadLaw t

theorem StandingKept.refl (s : State) : StandingKept s s := ⟨id, id, id⟩

theorem StandingKept.trans {s t u : State} (h : StandingKept s t) (k : StandingKept t u) : StandingKept s u :=
  ⟨k.wait ∘ h.wait, k.ramp ∘ h.ramp, k.emergency ∘ h.emergency⟩

theorem PowerKept.refl (s : State) : PowerKept s s := ⟨.refl s, id, fun _ => id⟩

theorem PowerKept.trans {s t u : State} (h : PowerKept s t) (k : PowerKept t u) : PowerKept s u :=
  ⟨h.toStandingKept.trans k.toStandingKept, k.budget ∘ h.budget, fun wait law => k.head (h.wait wait) (h.head wait law)⟩

theorem PowerKept.ite {c : Prop} [Decidable c] {s t : State} (h : c → PowerKept s t) :
    PowerKept s (if c then t else s) := by
  split
  · next hc => exact h hc
  · exact .refl s

/-! ### What the laws read -/

/-- The bay's place in the power work: whether it waits or ramps, its priority and its cap. -/
structure SamePlace (r r' : BayRec) : Prop where
  waiting : r'.state = .waitPower ↔ r.state = .waitPower
  ramping : r'.state = .ramping ↔ r.state = .ramping
  priority : r'.priority = r.priority
  cap : r'.cap = r.cap

theorem SamePlace.refl (r : BayRec) : SamePlace r r := ⟨.rfl, .rfl, rfl, rfl⟩

theorem SamePlace.of_eq {r r' : BayRec} (state : r'.state = r.state) (priority : r'.priority = r.priority)
    (cap : r'.cap = r.cap) : SamePlace r r' := ⟨by rw [state], by rw [state], priority, cap⟩

/-- A bay that neither waits nor ramps, before and after. -/
theorem SamePlace.elsewhere {r r' : BayRec} (old : r.state ≠ .waitPower ∧ r.state ≠ .ramping)
    (new : r'.state ≠ .waitPower ∧ r'.state ≠ .ramping) (priority : r'.priority = r.priority) (cap : r'.cap = r.cap) :
    SamePlace r r' := ⟨iff_of_false new.1 old.1, iff_of_false new.2 old.2, priority, cap⟩

/-- The list, the sequencer's ramp and the bays' places are the same. -/
structure SamePlaces (s t : State) : Prop where
  bays : ∀ b, SamePlace (bayRec s b) (bayRec t b)
  list : Part.waitList.same s t
  seq : ∀ b, t.pbu.seq = .ramp b ↔ s.pbu.seq = .ramp b

theorem waitListLaw_of_places {s t : State} (waiting : ∀ b, bayState t b = .waitPower ↔ bayState s b = .waitPower)
    (priority : ∀ b, priorityOf t b = priorityOf s b) (list : Part.waitList.same s t) (law : WaitListLaw s) :
    WaitListLaw t := by
  obtain ⟨list, stamp⟩ : t.pbu.waitList = s.pbu.waitList ∧ t.pbu.nextStamp = s.pbu.nextStamp := list
  unfold WaitListLaw before at *
  simpa only [list, stamp, waiting, priority] using law

theorem SamePlaces.wait {s t : State} (h : SamePlaces s t) : WaitListLaw s → WaitListLaw t :=
  waitListLaw_of_places (fun b => (h.bays b).waiting) (fun b => (h.bays b).priority) h.list

theorem SamePlaces.ramp {s t : State} (h : SamePlaces s t) (law : RampLaw s) : RampLaw t := fun b =>
  ((h.bays b).ramping.trans (law b)).trans (h.seq b).symm

/-- What the law of an emergency reads is the same; out of reset it was so before. -/
structure SameEmergency (s t : State) : Prop where
  mode : t.mode = .running → s.mode = .running
  phase : t.pbu.emg.phase = s.pbu.emg.phase
  timer : t.pbu.emg.graceTimer = none ↔ s.pbu.emg.graceTimer = none
  bay : t.pbu.emg.shedBay = s.pbu.emg.shedBay
  gate : t.pbu.ae = s.pbu.ae
  hold : t.pbu.hold = s.pbu.hold
  cause : ∀ b, (bayRec t b).emergencyCause = (bayRec s b).emergencyCause

theorem SameEmergency.law {s t : State} (h : SameEmergency s t) (law : EmergencyLaw s) : EmergencyLaw t := fun run => by
  have law := law (h.mode run)
  simpa only [h.phase, ne_eq, h.timer, h.bay, h.gate, h.hold, h.cause] using law

theorem SameEmergency.of_keeps {l : List Part} {s t : State} (h : KeepsAllBut l s t)
    (cause : ∀ b, (bayRec t b).emergencyCause = (bayRec s b).emergencyCause)
    (hl : ∀ p ∈ [Part.mode, .emergency, .gates, .hold], p ∉ l := by decide) : SameEmergency s t := by
  have emg : t.pbu.emg = s.pbu.emg := h .emergency (hl _ (by decide))
  exact ⟨fun run => h.mode_eq (hl _ (by decide)) ▸ run, by rw [emg], by rw [emg], by rw [emg],
    (h .gates (hl _ (by decide))).1, (h .hold (hl _ (by decide))).1, cause⟩

theorem StandingKept.of_same {s t : State} (places : SamePlaces s t) (emergency : SameEmergency s t) :
    StandingKept s t := ⟨places.wait, places.ramp, emergency.law⟩

/-- A slot that is settled was so before, with the same identity. -/
def Fades (r r' : SlotRec) : Prop := r'.status = .complete → r.status = .complete ∧ r'.ident = r.ident

theorem Fades.refl (r : SlotRec) : Fades r r := fun h => ⟨h, rfl⟩

theorem Fades.trans {r r' r'' : SlotRec} (h : Fades r r') (k : Fades r' r'') : Fades r r'' := fun c =>
  ⟨(h (k c).1).1, (k c).2.trans (h (k c).1).2⟩

/-- A head that fits fitted before (R61). -/
theorem Fits.of_fades {s t : State} {b : Bay} (emergency : SameEmergency s t) (cap : (bayRec t b).cap = (bayRec s b).cap)
    (slot : Fades (slotRec s (slotOfBay b)) (slotRec t (slotOfBay b))) (figures : t.pbu.figures = s.pbu.figures)
    (h : Fits t b) : Fits s b := by
  obtain ⟨gate, phase, hold, complete, room⟩ := h
  obtain ⟨was, ident⟩ := slot (by simpa [isComplete] using complete)
  have grant : classGrant t b = classGrant s b := by simp only [classGrant, classMax, cap, ident]
  exact ⟨emergency.gate ▸ gate, emergency.phase ▸ phase, emergency.hold ▸ hold, by simp [isComplete, was],
    by rwa [← grant, ← figures]⟩

theorem budgetLaw_of_same {s t : State} (emergency : SameEmergency s t) (figures : t.pbu.figures = s.pbu.figures)
    (law : BudgetLaw s) : BudgetLaw t := fun run phase hold => by
  rw [figures]
  exact law (emergency.mode run) (emergency.phase ▸ phase) (emergency.hold ▸ hold)

theorem headLaw_of_same {s t : State} (emergency : SameEmergency s t) (idle : t.pbu.seq = .idle → s.pbu.seq = .idle)
    (figures : t.pbu.figures = s.pbu.figures) (list : t.pbu.waitList = s.pbu.waitList)
    (cap : ∀ w ∈ s.pbu.waitList, (bayRec t w.bay).cap = (bayRec s w.bay).cap)
    (slots : ∀ b, Fades (slotRec s (slotOfBay b)) (slotRec t (slotOfBay b))) (law : HeadLaw s) : HeadLaw t :=
  fun run seq w hw fits => by
    rw [list] at hw
    exact law (emergency.mode run) (idle seq) w hw
      (fits.of_fades emergency (cap w (List.mem_of_head? hw)) (slots w.bay) figures)

/-- Nothing that any of the laws reads becomes other than a slot's identity fades. -/
theorem PowerKept.of_same {s t : State} (places : SamePlaces s t) (emergency : SameEmergency s t)
    (idle : t.pbu.seq = .idle → s.pbu.seq = .idle) (figures : t.pbu.figures = s.pbu.figures)
    (slots : ∀ b, Fades (slotRec s (slotOfBay b)) (slotRec t (slotOfBay b))) : PowerKept s t where
  toStandingKept := .of_same places emergency
  budget := budgetLaw_of_same emergency figures
  head _ := headLaw_of_same emergency idle figures places.list.1 (fun w _ => (places.bays w.bay).cap) slots

/-- The parts that the laws read beside the bays and the slots. -/
def powerParts : List Part := [.mode, .gates, .waitList, .sequencer, .emergency, .hold, .figures]

theorem SamePlaces.of_bays {l : List Part} {s t : State} (h : KeepsAllBut l s t)
    (bays : ∀ b, SamePlace (bayRec s b) (bayRec t b))
    (hl : Part.waitList ∉ l ∧ Part.sequencer ∉ l := by decide) : SamePlaces s t where
  bays := bays
  list := h .waitList hl.1
  seq b := by rw [(h .sequencer hl.2).1]

theorem PowerKept.of_records {l : List Part} {s t : State} (h : KeepsAllBut l s t)
    (bays : ∀ b, SamePlace (bayRec s b) (bayRec t b) ∧ (bayRec t b).emergencyCause = (bayRec s b).emergencyCause)
    (slots : ∀ b, Fades (slotRec s (slotOfBay b)) (slotRec t (slotOfBay b)))
    (hl : ∀ p ∈ powerParts, p ∉ l := by decide) : PowerKept s t :=
  .of_same (.of_bays h (fun b => (bays b).1) ⟨hl _ (by decide), hl _ (by decide)⟩)
    (.of_keeps h (fun b => (bays b).2) fun p hp => hl p (by revert p; decide))
    (fun idle => (h .sequencer (hl _ (by decide))).1 ▸ idle) (h .figures (hl _ (by decide))) slots

theorem PowerKept.of_bays {l : List Part} {s t : State} (h : KeepsAllBut l s t)
    (bays : ∀ b, SamePlace (bayRec s b) (bayRec t b) ∧ (bayRec t b).emergencyCause = (bayRec s b).emergencyCause)
    (hl : ∀ p ∈ Part.slots :: powerParts, p ∉ l := by decide) : PowerKept s t :=
  .of_records h bays (fun b => by rw [h.slotRec_eq _ (hl _ (by decide))]; exact .refl _)
    fun p hp => hl p (List.mem_cons_of_mem _ hp)

theorem PowerKept.of_slots {l : List Part} {s t : State} (h : KeepsAllBut l s t)
    (slots : ∀ b, Fades (slotRec s (slotOfBay b)) (slotRec t (slotOfBay b)))
    (hl : ∀ p ∈ Part.bays :: powerParts, p ∉ l := by decide) : PowerKept s t :=
  .of_records h (fun b => by rw [h.bayRec_eq _ (hl _ (by decide))]; exact ⟨.refl _, rfl⟩) slots
    fun p hp => hl p (List.mem_cons_of_mem _ hp)

theorem PowerKept.of_keeps {l : List Part} {s t : State} (h : KeepsAllBut l s t)
    (hl : ∀ p ∈ Part.bays :: Part.slots :: powerParts, p ∉ l := by decide) : PowerKept s t :=
  .of_slots h (fun b => by rw [h.slotRec_eq _ (hl _ (by decide))]; exact .refl _) fun p hp => hl p (by
    revert p; decide)

theorem PowerKept.and {l : List Part} {s t u : State} (h : PowerKept s t) (k : KeepsAllBut l t u)
    (hl : ∀ p ∈ Part.bays :: Part.slots :: powerParts, p ∉ l := by decide) : PowerKept s u := h.trans (.of_keeps k hl)

/-- A queue of a port is no part of the power work. -/
theorem PowerKept.of_queue {r : Port} {l : List Part} {s t : State} (h : KeepsAllBut (queuePart r :: l) s t)
    (hl : ∀ p ∈ Part.bays :: Part.slots :: powerParts, p ∉ l := by decide) : PowerKept s t :=
  .of_keeps h fun p hp => by
    have apart : p ≠ queuePart r := by
      cases r <;> revert p <;> simp [queuePart, powerParts]
    simp [apart, hl p hp]

theorem raise_powerKept (c : Cause) (s : State) : PowerKept s (raise c s) := .of_keeps (raise_keeps c s)

/-- A bay is written in nothing that its place is. -/
theorem updBay_powerKept {b : Bay} {f : BayRec → BayRec} (s : State) (place : SamePlace (bayRec s b) (f (bayRec s b)))
    (cause : (f (bayRec s b)).emergencyCause = (bayRec s b).emergencyCause) : PowerKept s (updBay b f s) := by
  refine .of_bays (updBay_keeps b f s) fun c => ?_
  rw [bayRec_updBay]
  split
  · next e => subst e; exact ⟨⟨place.waiting, place.ramping, place.priority, place.cap⟩, cause⟩
  · exact ⟨.refl _, rfl⟩

theorem bayRec_enterState_place {b : Bay} {st : BayState} {f : BayRec → BayRec} {s : State}
    (place : SamePlace (bayRec s b) { f (bayRec s b) with state := st }) (c : Bay) :
    SamePlace (bayRec s c) (bayRec (enterState b st (updBay b f s)) c) := by
  rw [bayRec_enterState_updBay]
  split
  · next e => subst e; exact ⟨place.waiting, place.ramping, place.priority, place.cap⟩
  · exact .refl _

/-- A bay that neither waits nor ramps enters a state in which it does neither (R26). -/
theorem enterState_updBay_powerKept {b : Bay} {st : BayState} {f : BayRec → BayRec} {s : State}
    (place : SamePlace (bayRec s b) { f (bayRec s b) with state := st })
    (cause : (f (bayRec s b)).emergencyCause = (bayRec s b).emergencyCause) :
    PowerKept s (enterState b st (updBay b f s)) :=
  .of_bays (enterState_updBay_keeps b st f s) fun c =>
    ⟨bayRec_enterState_place place c, (enterState_updBay_emergencyKept cause).2.2.1 c⟩

theorem enterState_powerKept {b : Bay} {st : BayState} {s : State}
    (old : bayState s b ≠ .waitPower ∧ bayState s b ≠ .ramping) (new : st ≠ .waitPower ∧ st ≠ .ramping) :
    PowerKept s (enterState b st s) :=
  .of_bays (enterState_keeps b st s) fun c => by
    refine ⟨?_, (enterState_emergencyKept b st s).2.2.1 c⟩
    rw [bayRec_enterState]
    split
    · next e => subst e; exact .elsewhere old new rfl rfl
    · exact .refl _

end Sys2Proof.Machine
end

section
/-! SUPPORT. The laws of the power work through a budget evaluation, a head evaluation and the run of an emergency (O55,
O56, O60). -/

namespace Sys2Proof.Machine

/-! ### The head evaluation (R61) -/

theorem evaluateHead_ramp (s : State) (b : Bay) : (evaluateHead s).pbu.seq = .ramp b ↔ s.pbu.seq = .ramp b := by
  by_cases idle : s.pbu.seq = .idle
  · rcases evaluateHead_evaluates s idle with ⟨seq, -⟩ | ⟨w, -, -, seq⟩ <;> simp [seq, idle]
  · rw [evaluateHead_busy s idle]

theorem evaluateHead_places (s : State) : SamePlaces s (evaluateHead s) where
  bays b := by rw [(evaluateHead_keeps s).bayRec_eq b]; exact .refl _
  list := evaluateHead_keeps s .waitList (by decide)
  seq := evaluateHead_ramp s

theorem evaluateHead_emergency (s : State) : SameEmergency s (evaluateHead s) :=
  .of_keeps (evaluateHead_keeps s) fun b => by rw [(evaluateHead_keeps s).bayRec_eq b]

theorem evaluateHead_headLaw (s : State) : HeadLaw (evaluateHead s) := fun _ seq w hw => by
  by_cases idle : s.pbu.seq = .idle
  · rcases evaluateHead_evaluates s idle with ⟨-, none_⟩ | ⟨w, -, -, busy⟩
    · exact none_ w hw
    · simp [busy] at seq
  · rw [evaluateHead_busy s idle] at seq
    exact absurd seq idle

/-- The head is evaluated after an operation that leaves the standing laws and the budget. -/
theorem StandingKept.headEvaluated {s u : State} (h : StandingKept s u) (budget : BudgetLaw s → BudgetLaw u) :
    PowerKept s (evaluateHead u) where
  toStandingKept := h.trans (.of_same (evaluateHead_places u) (evaluateHead_emergency u))
  budget law := budgetLaw_of_same (evaluateHead_emergency u) (evaluateHead_keeps u .figures (by decide)) (budget law)
  head _ _ := evaluateHead_headLaw u

theorem evaluateHead_powerKept (s : State) : PowerKept s (evaluateHead s) := (StandingKept.refl s).headEvaluated id

/-! ### The run of an emergency (R72 to R83) -/

/-- An emergency is in progress whose grace is over (R71, R73, R85). -/
structure Shedding (s : State) : Prop where
  gate : s.pbu.ae = .closed
  hold : s.pbu.hold = false
  cause : ∀ b, (bayRec s b).emergencyCause = true
  timer : s.pbu.emg.graceTimer = none

/-- The next bay to shed is named, or none can be shed and the phase is EXHAUSTED (R76, R82). -/
theorem handShed_phase (s : State) : (handShed s).pbu.emg.phase = .shedding ∨ (handShed s).pbu.emg.phase = .exhausted := by
  unfold handShed
  split
  · exact .inl rfl
  · rw [enterExhausted_pbu]; exact .inr rfl

theorem handShed_emergencyLaw {s : State} (h : s.mode = .running → Shedding s) : EmergencyLaw (handShed s) := fun run => by
  obtain ⟨gate, hold, cause, timer⟩ := h ((handShed_keeps s).mode_eq ▸ run)
  unfold handShed
  split
  · exact ⟨fun _ => ⟨gate, hold⟩, fun b => iff_of_true (cause b) (by simp), by simp [timer], by simp⟩
  · simp [enterExhausted_pbu, enterExhausted_bayRec, gate, hold, timer, cause]

theorem handShed_places (s : State) : SamePlaces s (handShed s) := by
  have pbu : (handShed s).pbu = { s.pbu with emg := (handShed s).pbu.emg } ∧ ∀ b, bayRec (handShed s) b = bayRec s b := by
    unfold handShed
    split
    · exact ⟨rfl, fun _ => rfl⟩
    · exact ⟨by rw [enterExhausted_pbu], enterExhausted_bayRec s⟩
  exact ⟨fun b => by rw [pbu.2]; exact .refl _, ⟨by rw [pbu.1], by rw [pbu.1]⟩, fun b => by rw [pbu.1]⟩

/-- While an emergency is in progress neither the budget nor the head is bound (R54, R61). -/
theorem StandingKept.declared {s t : State} (h : StandingKept s t) (phase : t.pbu.emg.phase ≠ .none) : PowerKept s t where
  toStandingKept := h
  budget _ _ none_ := absurd none_ phase
  head _ _ _ _ w _ := not_fits_of_phase phase w.bay

theorem StandingKept.handShed {s u : State} (wait : WaitListLaw s → WaitListLaw u) (ramp : RampLaw s → RampLaw u)
    (emergency : EmergencyLaw s → u.mode = .running → Shedding u) : PowerKept s (handShed u) :=
  StandingKept.declared
    ⟨(handShed_places u).wait ∘ wait, (handShed_places u).ramp ∘ ramp, fun law => handShed_emergencyLaw (emergency law)⟩
    (by rcases handShed_phase u with h | h <;> simp [h])

theorem beginEmergency_emergencyLaw {source : EmgSource} {s : State} (phase : s.pbu.emg.phase = .none)
    (hold : s.pbu.hold = false) (law : EmergencyLaw s) : EmergencyLaw (beginEmergency source s) := fun run => by
  have bay : s.pbu.emg.shedBay = none := by
    obtain ⟨-, -, -, bay⟩ := law ((beginEmergency_keeps source s).mode_eq ▸ run)
    simpa [phase] using bay
  unfold beginEmergency
  simp [hold, bay, followThrottle]

theorem endEmergency_emergencyLaw (source : EmgSource) (s : State) : EmergencyLaw (endEmergency source s) := fun _ => by
  obtain ⟨phase, timer, bay, -, -, cause, -⟩ := (endEmergency_ended source s).1
  simp [phase, timer, bay, cause]

theorem endEmergency_places (source : EmgSource) (s : State) : SamePlaces s (endEmergency source s) where
  bays b := by rw [endEmergency_bays source s b]; exact .of_eq rfl rfl rfl
  list := by rw [Part.same, endEmergency_pbu]; exact ⟨rfl, rfl⟩
  seq b := by rw [endEmergency_pbu]

/-- A run begins or stands only while the grace timer does not run (R71, R76). -/
theorem EmergencyLaw.shedding {s : State} (law : EmergencyLaw s) (run : s.mode = .running)
    (phase : s.pbu.emg.phase ≠ .none) (grace : s.pbu.emg.phase ≠ .grace) : Shedding s := by
  obtain ⟨declared, cause, timer, -⟩ := law run
  obtain ⟨gate, hold⟩ := declared phase
  exact ⟨gate, hold, fun b => (cause b).mpr phase, by simpa [grace] using timer⟩

/-! ### The budget evaluation (R54) -/

theorem compareBudget_emergencyLaw (source : EmgSource) {s : State} (law : EmergencyLaw s) :
    EmergencyLaw (compareBudget source s) := by
  unfold compareBudget
  split
  · next phase _ =>
    split
    · exact law
    · next hold => exact beginEmergency_emergencyLaw phase (by simpa using hold) law
  · exact endEmergency_emergencyLaw source s
  · exact endEmergency_emergencyLaw source s
  · next phase _ =>
    split
    · refine handShed_emergencyLaw fun run => ?_
      obtain ⟨gate, hold, cause, timer⟩ := law.shedding run (by simp [phase]) (by simp [phase])
      exact ⟨gate, hold, cause, timer⟩
    · exact law
  all_goals exact law

theorem evaluate_standingKept (source : EmgSource) (s : State) : StandingKept s (evaluate source s) := by
  have compared := compareBudget_keeps source (recordFigures s)
  have places : SamePlaces s (compareBudget source (recordFigures s)) :=
    ⟨fun b => by rw [(compareBudget_inputs source (recordFigures s)).1 b]; exact .of_eq rfl rfl rfl,
      compared .waitList (by decide), fun b => by rw [(compareBudget_sequencer source (recordFigures s)).1]; rfl⟩
  have kept : StandingKept s (compareBudget source (recordFigures s)) :=
    ⟨places.wait, places.ramp, fun law => compareBudget_emergencyLaw source (s := recordFigures s) law⟩
  exact kept.trans (evaluateHead_powerKept _).toStandingKept

/-- An evaluation leaves a budget that fits, or an emergency, or the hold (R54, R85). -/
theorem evaluate_budgetLaw (source : EmgSource) (s : State) : BudgetLaw (evaluate source s) := fun _ phase hold => by
  obtain ⟨⟨-, began, -, -, grace, shedding, standing, again⟩, -⟩ := evaluate_evaluatedFor source s
  have held : s.pbu.hold = false := (evaluate_keeps source s .hold (by decide)).1 ▸ hold
  have kept (k : EmergencyKept s (evaluate source s)) : s.pbu.emg.phase = .none := k.1 ▸ phase
  have fits : overBudget (evaluate source s) = false := by
    refine Bool.eq_false_iff.mpr fun exceeds => ?_
    cases was : s.pbu.emg.phase with
    | none => simp [(began was held exceeds).1] at phase
    | grace => simp [was] at kept; exact kept (grace was exceeds)
    | shedding => simp [was] at kept; exact kept (shedding was)
    | exhausted =>
      simp only [was, reduceCtorEq, imp_false] at kept
      cases chosen : chooseShed (evaluate source s) with
      | none => exact kept (standing was exceeds chosen)
      | some b => simp [(again was exceeds b chosen).1] at phase
  simpa [overBudget] using fits

/-- An evaluation settles the budget and the head, whatever stood before. -/
theorem StandingKept.evaluated {s u : State} (h : StandingKept s u) (source : EmgSource) :
    PowerKept s (evaluate source u) where
  toStandingKept := h.trans (evaluate_standingKept source u)
  budget _ := evaluate_budgetLaw source u
  head _ _ := evaluateHead_headLaw _

theorem evaluate_powerKept (source : EmgSource) (s : State) : PowerKept s (evaluate source s) :=
  (StandingKept.refl s).evaluated source

/-! ### The hold (R86) and the supplies (R50) -/

theorem endHold_powerKept (s : State) : PowerKept s (endHold s) := by
  have frame := updPbu_hold_keeps (fun _ => false) (fun _ => none) s
  have places : SamePlaces s (updPbu (fun p => { p with hold := false, holdTimer := none }) s) :=
    .of_bays frame fun _ => .refl _
  refine StandingKept.evaluated ⟨places.wait, places.ramp, fun law run => ?_⟩ .hold
  obtain ⟨declared, cause, timer, bay⟩ := law run
  exact ⟨fun phase => ⟨(declared phase).1, rfl⟩, cause, timer, bay⟩

theorem testHold_powerKept (s : State) : PowerKept s (testHold s) := .ite fun _ => endHold_powerKept s

theorem supplyChanged_powerKept (p : Psu) (s : State) : PowerKept s (supplyChanged p s) := by
  have recomputed := PowerKept.of_keeps (recomputeSupply_keeps p s)
  have counted : PowerKept s (supplyCounted p s) := by
    unfold supplyCounted
    split
    · exact recomputed
    · exact recomputed.trans (evaluate_powerKept _ _)
  rw [supplyChanged_eq]
  split
  · exact counted
  · exact counted.trans (testHold_powerKept _)

/-! ### Identity scanning (R30 to R45) -/

/-- No slot becomes settled, or its identity another. -/
def SlotsFade (s t : State) : Prop := ∀ k, Fades (slotRec s k) (slotRec t k)

theorem SlotsFade.of_keeps {l : List Part} {s t : State} (h : KeepsAllBut l s t) (hl : Part.slots ∉ l := by decide) :
    SlotsFade s t := fun k => by rw [h.slotRec_eq k hl]; exact .refl _

theorem SlotsFade.trans {s t u : State} (h : SlotsFade s t) (k : SlotsFade t u) : SlotsFade s u :=
  fun j => (h j).trans (k j)

theorem updSlot_fades {k : Slot} {f : SlotRec → SlotRec} {s : State} (h : Fades (slotRec s k) (f (slotRec s k))) :
    SlotsFade s (updSlot k f s) := fun j => by
  rw [slotRec_updSlot]
  split
  · next e => subst e; exact h
  · exact .refl _

theorem engineTakes_fades (s : State) : SlotsFade s (engineTakes s) := fun j => by
  by_cases scan : s.ise.scan = none
  · cases queue : s.ise.queue with
    | nil => rw [engineTakes_empty queue]; exact .refl _
    | cons k rest =>
      rw [slotRec_engineTakes_head scan queue]
      split
      · intro complete; cases complete
      · exact .refl _
  · rw [engineTakes_busy scan]; exact .refl _

theorem queueSlot_fades (k : Slot) (s : State) : SlotsFade s (queueSlot k s) := by
  unfold queueSlot
  split
  iterate 2
    exact SlotsFade.trans (updSlot_fades fun complete => ⟨complete, rfl⟩) fun j => by
      rw [slotRec_updIse j rfl]; exact .refl _
  all_goals exact fun j => .refl _

theorem freshRequest_fades (k : Slot) (s : State) : SlotsFade s (freshRequest k s) := by
  refine SlotsFade.trans (updSlot_fades fun complete => ?_) (queueSlot_fades k _)
  by_cases settled : (slotRec s k).status = .complete ∨ (slotRec s k).status = .unidentified
  · simp [freshRecord, settled] at complete
  · exact ⟨by simpa [freshRecord, settled] using complete, rfl⟩

theorem PowerKept.of_fades {l : List Part} {s t : State} (h : KeepsAllBut l s t) (fades : SlotsFade s t)
    (hl : ∀ p ∈ Part.bays :: powerParts, p ∉ l := by decide) : PowerKept s t := .of_slots h (fun _ => fades _) hl

theorem updSlot_powerKept {k : Slot} {f : SlotRec → SlotRec} {s : State} (h : Fades (slotRec s k) (f (slotRec s k))) :
    PowerKept s (updSlot k f s) := .of_fades (updSlot_keeps k f s) (updSlot_fades h)

theorem engineTakes_powerKept (s : State) : PowerKept s (engineTakes s) :=
  .of_fades (engineTakes_keeps s) (engineTakes_fades s)

theorem stopScanning_fades (k : Slot) (s : State) : SlotsFade s (stopScanning k s) := .of_keeps (stopScanning_keeps k s)

theorem clearSlot_powerKept (k : Slot) (s : State) : PowerKept s (clearSlot k s) :=
  .of_fades (clearSlot_keeps k s)
    (((stopScanning_fades k s).trans (updSlot_fades fun complete => by cases complete)).trans (engineTakes_fades _))

theorem reportStatus_powerKept (k : Slot) (s : State) : PowerKept s (reportStatus k s) := by
  unfold reportStatus
  split
  · exact evaluate_powerKept _ s
  · exact supplyChanged_powerKept _ s
  · exact evaluate_powerKept _ s

theorem requestScan_powerKept (k : Slot) (s : State) : PowerKept s (requestScan k s) := by
  have requested : PowerKept s (engineTakes (freshRequest k s)) :=
    (PowerKept.of_fades (freshRequest_keeps k s) (freshRequest_fades k s)).trans (engineTakes_powerKept _)
  unfold requestScan
  simp only
  split
  · exact requested.trans (reportStatus_powerKept k _)
  · exact requested

theorem retryDue_powerKept (k : Slot) (s : State) : PowerKept s (retryDue k s) :=
  (PowerKept.of_fades (queueSlot_keeps k s) (queueSlot_fades k s)).trans (engineTakes_powerKept _)

theorem afterFailure_powerKept (k : Slot) (s : State) : PowerKept s (afterFailure k s) := by
  unfold afterFailure
  split
  · exact updSlot_powerKept fun complete => ⟨complete, rfl⟩
  · split
    · exact ((updSlot_powerKept fun complete => ⟨complete, rfl⟩).trans (reportStatus_powerKept k _)).trans
        (raise_powerKept _ _)
    all_goals
      exact ((updSlot_powerKept fun complete => by cases complete).trans (reportStatus_powerKept k _)).trans
        (raise_powerKept _ _)

theorem scanFailed_powerKept (k : Slot) (failure : ScanFailure) (s : State) : PowerKept s (scanFailed k failure s) :=
  ((updSlot_powerKept fun complete => by cases complete).trans (afterFailure_powerKept k _)).trans
    (engineTakes_powerKept _)

/-- A waiting or powered bay stays so, and one that is read leaves IDENTIFYING for STANDBY (R4). -/
theorem completeAtBay_powerKept (b : Bay) (s : State) : PowerKept s (completeAtBay b s) := by
  unfold completeAtBay
  split
  · next state => exact enterState_powerKept (by simp [state]) (by simp)
  iterate 5 exact updBay_powerKept s (.of_eq rfl rfl rfl) rfl
  exact .refl s

/-- A slot has been settled, and its completion is reported, which evaluates a head that it lets fit (R44, R61). -/
theorem reportComplete_powerKept {k : Slot} {f : SlotRec → SlotRec} {s : State} :
    PowerKept s (reportComplete k (updSlot k f s)) := by
  have frame := updSlot_keeps k f s
  have settled : StandingKept s (updSlot k f s) :=
    .of_same (.of_bays frame fun _ => .refl _) (.of_keeps frame fun _ => rfl)
  rcases slotOwner_cases k with ⟨b, rfl⟩ | ⟨p, rfl⟩ | ⟨i, rfl⟩
  · rw [reportComplete_bay]
    exact (settled.trans (completeAtBay_powerKept b _).toStandingKept).evaluated _
  · rw [reportComplete_psu]
    refine (PowerKept.of_slots frame fun b => ?_).trans (supplyChanged_powerKept p _)
    have other : slotOfBay b ≠ slotOfPsu p := fun e => by
      have := slotOwner_slotOfBay b
      rw [e, slotOwner_slotOfPsu] at this
      cases this
    rw [slotRec_updSlot_ne f s other]
    exact .refl _
  · rw [reportComplete_fan]
    exact settled.evaluated _

theorem judgeScan_powerKept (k : Slot) (image : Image) (s : State) : PowerKept s (judgeScan k image s) := by
  have ended := PowerKept.of_keeps (endTransaction_keeps s)
  unfold judgeScan
  split
  · exact ((ended.trans reportComplete_powerKept).trans (raise_powerKept _ _)).trans (engineTakes_powerKept _)
  · exact ended.trans (scanFailed_powerKept k _ _)

theorem acceptAnnounce_powerKept (k : Slot) (ident : Identity) (s : State) : PowerKept s (acceptAnnounce k ident s) :=
  reportComplete_powerKept.trans (raise_powerKept _ _)

end Sys2Proof.Machine
end

section
/-! SUPPORT. The laws of the power work through the operations of a bay: the ramp and its end, the ways out of main power,
the wait list, shedding and policy (O55, O56, O60). -/

namespace Sys2Proof.Machine

/-! ### A bay that no longer ramps (R63 to R67) -/

/-- The bay does not ramp, though the sequencer may still name it. -/
def RampLost (b : Bay) (s : State) : Prop :=
  bayState s b ≠ .ramping ∧ ∀ c, c ≠ b → (bayState s c = .ramping ↔ s.pbu.seq = .ramp c)

theorem RampLost.rampLaw {b : Bay} {s t : State} (lost : RampLost b s) (state : ∀ c, bayState t c = bayState s c)
    (named : s.pbu.seq = .ramp b → ∀ c, t.pbu.seq ≠ .ramp c)
    (other : s.pbu.seq ≠ .ramp b → ∀ c, t.pbu.seq = .ramp c ↔ s.pbu.seq = .ramp c) : RampLaw t := fun c => by
  obtain ⟨own, others⟩ := lost
  rw [state]
  by_cases seq : s.pbu.seq = .ramp b
  · refine iff_of_false (fun ramping => ?_) (named seq c)
    by_cases hc : c = b
    · exact own (hc ▸ ramping)
    · rw [others c hc, seq] at ramping
      exact hc (Sequencer.ramp.inj ramping).symm
  · rw [other seq]
    by_cases hc : c = b
    · exact hc ▸ iff_of_false own seq
    · exact others c hc

theorem rampEndUnpowered_rampLaw {b : Bay} {s : State} (lost : RampLost b s) : RampLaw (rampEndUnpowered b s) := by
  refine lost.rampLaw (fun c => (rampEndUnpowered_keeps b s).bayState_eq c) (fun seq c => ?_) fun seq c => ?_
  · rw [rampEndUnpowered, if_pos seq, ne_eq, evaluateHead_ramp]
    simp
  · rw [rampEndUnpowered, if_neg seq]

theorem rampEndPowered_rampLaw {b : Bay} {s : State} (lost : RampLost b s) : RampLaw (rampEndPowered b s) := by
  refine lost.rampLaw (fun c => (rampEndPowered_keeps b s).bayState_eq c) (fun seq c => ?_) fun seq c => ?_
  · rw [rampEndPowered, if_pos seq]
    split
    · rw [ne_eq, evaluateHead_ramp]
      simp
    · simp
  · rw [rampEndPowered, if_neg seq]

theorem rampEndUnpowered_headLaw {b : Bay} {s : State} (law : HeadLaw s) : HeadLaw (rampEndUnpowered b s) := by
  unfold rampEndUnpowered
  split
  · exact evaluateHead_headLaw _
  · exact law

theorem rampEndPowered_headLaw {b : Bay} {s : State} (law : HeadLaw s) : HeadLaw (rampEndPowered b s) := by
  unfold rampEndPowered
  split
  · split
    · exact evaluateHead_headLaw _
    · intro _ seq; cases seq
  · exact law

/-- The standing laws hold but for a ramp of the bay that has ended. -/
structure StandingLost (b : Bay) (s t : State) : Prop where
  wait : WaitListLaw s → WaitListLaw t
  ramp : RampLaw s → RampLost b t
  emergency : EmergencyLaw s → EmergencyLaw t

/-- The sequencer's end of the ramp, after the operation that ends it. -/
theorem StandingLost.ended {b : Bay} {s u v : State} (h : StandingLost b s u) (frame : KeepsAllBut [.sequencer] u v)
    (ramp : RampLost b u → RampLaw v) : StandingKept s v :=
  ⟨fun law => waitListLaw_congr frame (h.wait law), fun law => ramp (h.ramp law),
    fun law => (SameEmergency.of_keeps frame fun b => by rw [frame.bayRec_eq b]).law (h.emergency law)⟩

/-- A loss of power is evaluated, and then the sequencer is freed (R9, R13, R16 to R18, R66). -/
theorem StandingLost.freed {b : Bay} {s u : State} (h : StandingLost b s u) (source : EmgSource) :
    PowerKept s (rampEndUnpowered b (evaluate source u)) where
  toStandingKept := by
    have kept := evaluate_standingKept source u
    refine StandingLost.ended ⟨kept.wait ∘ h.wait, fun law => ?_, kept.emergency ∘ h.emergency⟩
      (rampEndUnpowered_keeps b _) rampEndUnpowered_rampLaw
    obtain ⟨own, others⟩ := h.ramp law
    obtain ⟨-, -, idle, busy⟩ := evaluate_evaluatedFor source u
    have seq (c) : (evaluate source u).pbu.seq = .ramp c ↔ u.pbu.seq = .ramp c := by
      by_cases hi : u.pbu.seq = .idle
      · rcases idle hi with ⟨seq, -⟩ | ⟨w, -, -, seq⟩ <;> simp [seq, hi]
      · rw [busy hi]
    exact ⟨by rwa [evaluate_bayState], fun c hc => by rw [evaluate_bayState, seq]; exact others c hc⟩
  budget _ := by
    have frame := rampEndUnpowered_keeps b (evaluate source u)
    exact budgetLaw_of_same (.of_keeps frame fun c => by rw [frame.bayRec_eq c]) (frame .figures (by decide))
      (evaluate_budgetLaw source u)
  head _ _ := rampEndUnpowered_headLaw (evaluateHead_headLaw _)

/-- With a bay that did not ramp nothing of the ramp was lost. -/
theorem StandingLost.unramped {b : Bay} {s u : State} (h : StandingLost b s u) (off : bayState s b ≠ .ramping)
    (seq : u.pbu.seq = s.pbu.seq) : StandingKept s u := by
  refine ⟨h.wait, fun law => ?_, h.emergency⟩
  refine (h.ramp law).rampLaw (fun _ => rfl) (fun named => absurd ((law b).mpr (seq ▸ named)) off) fun _ _ => .rfl

/-! ### The wait list (R58 to R60) -/

section
variable {b : Bay} {s t : State} (law : WaitListLaw s)
include law

theorem WaitListLaw.left (list : t.pbu.waitList = s.pbu.waitList.filter fun w => w.bay ≠ b)
    (stamp : t.pbu.nextStamp = s.pbu.nextStamp) (own : bayState t b ≠ .waitPower)
    (others : ∀ c, c ≠ b → bayState t c = bayState s c ∧ priorityOf t c = priorityOf s c) : WaitListLaw t := by
  obtain ⟨listed, bays, sorted, stamps, older⟩ := law
  have sub : t.pbu.waitList.Sublist s.pbu.waitList := list ▸ List.filter_sublist
  have mem (w) : w ∈ t.pbu.waitList ↔ w ∈ s.pbu.waitList ∧ w.bay ≠ b := by simp [list]
  refine ⟨fun c => ?_, bays.sublist (sub.map _), ?_, stamps.sublist (sub.map _),
    fun w hw => stamp ▸ older w (sub.subset hw)⟩
  · by_cases hc : c = b
    · subst hc
      exact iff_of_false (fun ⟨w, hw, e⟩ => ((mem w).mp hw).2 e) own
    · rw [(others c hc).1, ← listed c]
      exact ⟨fun ⟨w, hw, e⟩ => ⟨w, ((mem w).mp hw).1, e⟩, fun ⟨w, hw, e⟩ => ⟨w, (mem w).mpr ⟨hw, e ▸ hc⟩, e⟩⟩
  · refine (sorted.sublist sub).imp_of_mem fun {x y} hx hy h => ?_
    rwa [before, (others _ ((mem x).mp hx).2).2, (others _ ((mem y).mp hy).2).2]

theorem WaitListLaw.joined
    (list : t.pbu.waitList = insertWaiting (priorityOf s) { bay := b, stamp := s.pbu.nextStamp } s.pbu.waitList)
    (stamp : t.pbu.nextStamp = s.pbu.nextStamp + 1) (was : bayState s b ≠ .waitPower) (own : bayState t b = .waitPower)
    (others : ∀ c, c ≠ b → bayState t c = bayState s c) (priority : ∀ c, priorityOf t c = priorityOf s c) :
    WaitListLaw t := by
  obtain ⟨listed, bays, sorted, stamps, older⟩ := law
  have perm := list ▸ insertWaiting_perm (priorityOf s) { bay := b, stamp := s.pbu.nextStamp } s.pbu.waitList
  refine ⟨fun c => ?_, (perm.map _).nodup_iff.mpr ?_, ?_, (perm.map _).nodup_iff.mpr ?_, fun w hw => ?_⟩
  · simp only [perm.mem_iff, List.mem_cons]
    by_cases hc : c = b
    · subst hc
      exact iff_of_true ⟨_, .inl rfl, rfl⟩ own
    · rw [others c hc, ← listed c]
      exact ⟨fun ⟨w, hw, e⟩ => ⟨w, hw.resolve_left fun h => hc (by rw [← e, h]), e⟩, fun ⟨w, hw, e⟩ => ⟨w, .inr hw, e⟩⟩
  · exact List.nodup_cons.mpr ⟨fun hb => was ((listed b).mp (by simpa using hb)), bays⟩
  · have order (x y) : before t x y ↔ before s x y := by simp only [before, priority]
    simp only [funext fun x => funext fun y => propext (order x y), list]
    exact insertWaiting_sorted sorted fun x hx => (older x hx).ne
  · exact List.nodup_cons.mpr ⟨fun hb => by
      obtain ⟨w, hw, e⟩ := List.mem_map.mp hb
      exact (older w hw).ne e, stamps⟩
  · rw [stamp]
    rcases List.mem_cons.mp (perm.mem_iff.mp hw) with rfl | hw
    · exact Nat.lt_succ_self _
    · exact Nat.lt_succ_of_lt (older w hw)

end

/-! ### A bay that leaves the list, or the ramp, for another state (R9, R13, R17, R18) -/

section
variable {l : List Part} {b : Bay} {st : BayState} {f : BayRec → BayRec} {s p : State}

theorem entered_others (h : KeepsAllBut l s p) (hl : Part.bays ∉ l := by decide) (c : Bay) (hc : c ≠ b) :
    bayRec (enterState b st (updBay b f p)) c = bayRec s c := by
  rw [bayRec_enterState_updBay, if_neg hc, h.bayRec_eq c hl]

theorem entered_state (b : Bay) (st : BayState) (f : BayRec → BayRec) (p : State) :
    bayState (enterState b st (updBay b f p)) b = st := by
  rw [bayState, bayRec_enterState_updBay, if_pos rfl, followThrottle_state]

theorem entered_priority (h : KeepsAllBut l s p) (same : ∀ r, (f r).priority = r.priority)
    (hl : Part.bays ∉ l := by decide) (c : Bay) :
    priorityOf (enterState b st (updBay b f p)) c = priorityOf s c := by
  rw [priorityOf, bayRec_enterState_updBay]
  split
  · next e => subst e; rw [h.bayRec_eq _ hl]; exact same _
  · rw [h.bayRec_eq _ hl, priorityOf]

theorem entered_emergency (h : KeepsAllBut l s p) (same : ∀ r, (f r).emergencyCause = r.emergencyCause)
    (hl : ∀ x ∈ [Part.mode, .emergency, .gates, .hold, .bays], x ∉ l := by decide) :
    SameEmergency s (enterState b st (updBay b f p)) := by
  have entered := enterState_updBay_keeps b st f p
  have emg : (enterState b st (updBay b f p)).pbu.emg = s.pbu.emg :=
    Eq.trans (entered .emergency (by decide)) (h .emergency (hl _ (by decide)))
  have cause := (enterState_updBay_emergencyKept (st := st) (same (bayRec p b))).2.2.1
  refine ⟨fun run => ?_, by rw [emg], by rw [emg], by rw [emg], ?_, ?_, fun c => ?_⟩
  · rwa [← h.mode_eq (hl _ (by decide)), ← entered.mode_eq]
  · exact (entered .gates (by decide)).1.trans (h .gates (hl _ (by decide))).1
  · exact (entered .hold (by decide)).1.trans (h .hold (hl _ (by decide))).1
  · rw [cause, h.bayRec_eq c (hl _ (by decide))]

theorem entered_rampLost (h : KeepsAllBut l s p) (new : st ≠ .ramping)
    (hl : Part.bays ∉ l ∧ Part.sequencer ∉ l := by decide) (law : RampLaw s) :
    RampLost b (enterState b st (updBay b f p)) := by
  refine ⟨by rwa [entered_state], fun c hc => ?_⟩
  rw [bayState, entered_others h hl.1 c hc, (enterState_updBay_keeps b st f p .sequencer (by decide)).1,
    (h .sequencer hl.2).1]
  exact law c

/-- The bay leaves the list, where it stood in it, and loses its power. -/
theorem left_standingLost (h : KeepsAllBut l s p)
    (list : p.pbu.waitList = s.pbu.waitList.filter (fun w => w.bay ≠ b) ∧ p.pbu.nextStamp = s.pbu.nextStamp)
    (new : st ≠ .waitPower ∧ st ≠ .ramping) (same : ∀ r, (f r).priority = r.priority)
    (cause : ∀ r, (f r).emergencyCause = r.emergencyCause)
    (hl : ∀ x ∈ [Part.mode, .emergency, .gates, .hold, .bays, .sequencer], x ∉ l := by decide) :
    StandingLost b s (enterState b st (updBay b f p)) where
  wait law := by
    obtain ⟨list', stamp'⟩ := enterState_updBay_keeps b st f p .waitList (by decide)
    refine law.left (list'.trans list.1) (stamp'.trans list.2) (by rw [entered_state]; exact new.1) fun c hc => ?_
    exact ⟨by rw [bayState, entered_others h (hl _ (by decide)) c hc, bayState],
      entered_priority h same (hl _ (by decide)) c⟩
  ramp := entered_rampLost h new.2 ⟨hl _ (by decide), hl _ (by decide)⟩
  emergency := (entered_emergency h cause fun x hx => hl x (by revert x; decide)).law

/-- A bay that did not wait loses its power. -/
theorem dropped_standingLost (h : KeepsAllBut l s p) (was : bayState s b ≠ .waitPower)
    (new : st ≠ .waitPower ∧ st ≠ .ramping) (same : ∀ r, (f r).priority = r.priority)
    (cause : ∀ r, (f r).emergencyCause = r.emergencyCause)
    (hl : ∀ x ∈ [Part.mode, .emergency, .gates, .hold, .bays, .sequencer, .waitList], x ∉ l := by decide) :
    StandingLost b s (enterState b st (updBay b f p)) where
  wait := by
    have list := enterState_updBay_keeps b st f p .waitList (by decide)
    refine waitListLaw_of_places (fun c => ?_) (entered_priority h same (hl _ (by decide)))
      (Part.same_trans .waitList (h .waitList (hl _ (by decide))) list)
    by_cases hc : c = b
    · subst hc; rw [entered_state]; exact iff_of_false new.1 was
    · rw [bayState, entered_others h (hl _ (by decide)) c hc, bayState]
  ramp := entered_rampLost h new.2 ⟨hl _ (by decide), hl _ (by decide)⟩
  emergency := (entered_emergency h cause fun x hx => hl x (by revert x; decide)).law

end

theorem standbyState_elsewhere (s : State) (b : Bay) :
    standbyState s b ≠ .waitPower ∧ standbyState s b ≠ .ramping := by
  unfold standbyState
  split <;> simp

/-- A bay in ON or STOPPING loses its power, with no ramp to end. -/
theorem dropTo_powerKept {b : Bay} {st : BayState} {s : State} (up : isUp (bayState s b) = true)
    (new : st ≠ .waitPower ∧ st ≠ .ramping) : PowerKept s (dropTo b st s) :=
  (enterState_updBay_powerKept
    (.elsewhere (by constructor <;> intro h <;> rw [bayState] at up <;> simp [h, isUp] at up) new rfl rfl) rfl).trans
    (evaluate_powerKept _ _)

theorem leaveOn_powerKept (b : Bay) (s : State) : PowerKept s (leaveOn b s) := .of_keeps (leaveOn_keeps b s)

theorem leaveOn_bayState (b c : Bay) (s : State) : bayState (leaveOn b s) c = bayState s c :=
  (leaveOn_keeps b s).bayState_eq c

theorem flush_powerKept (p : Port) (s : State) : PowerKept s (flush p s) :=
  .of_queue (flush_keeps p s)

theorem powerFault_powerKept (b : Bay) (s : State) : PowerKept s (powerFault b s) := by
  unfold powerFault
  split
  · next on => exact (leaveOn_powerKept b s).trans (dropTo_powerKept (by rw [leaveOn_bayState, on]; rfl) (by simp))
  · next stopping =>
    have state := (flush_keeps (.bay b) s).bayState_eq b (by simp [queuePart])
    exact (flush_powerKept _ s).trans (dropTo_powerKept (by rw [state, stopping]; rfl) (by simp))
  · exact .refl s

theorem beginStop_powerKept {b : Bay} {s : State} (on : bayState s b = .poweredOn) : PowerKept s (beginStop b s) := by
  refine (leaveOn_powerKept b s).trans (enterState_updBay_powerKept (.elsewhere ?_ (by simp) rfl rfl) rfl)
  rw [← bayState, leaveOn_bayState, on]
  simp

theorem endStop_powerKept {b : Bay} {s : State} (stopping : bayState s b = .stopping) : PowerKept s (endStop b s) :=
  dropTo_powerKept (by rw [stopping]; rfl) (standbyState_elsewhere s b)

theorem ramping_dropped {b : Bay} {st : BayState} {s : State} (ramping : bayState s b = .ramping)
    (new : st ≠ .waitPower ∧ st ≠ .ramping) : PowerKept s (rampEndUnpowered b (dropTo b st s)) := by
  have lost : StandingLost b s (enterState b st (updBay b unpowered s)) :=
    dropped_standingLost (KeepsAllBut.refl [] s) (by simp [ramping]) new (fun _ => rfl) fun _ => rfl
  exact lost.freed (.bay b)

theorem cancelWait_powerKept {b : Bay} {s : State} (waits : bayState s b = .waitPower) :
    PowerKept s (cancelWait b s) := by
  have frame := leaveWaitList_keeps b s
  have lost := left_standingLost (st := standbyState s b) (f := fun r => { r with adopted := false }) frame ⟨rfl, rfl⟩
    (standbyState_elsewhere s b) (fun _ => rfl) fun _ => rfl
  have entered := enterState_updBay_keeps b (standbyState s b) (fun r => { r with adopted := false }) (leaveWaitList b s)
  refine (lost.unramped (by simp [waits]) (entered .sequencer (by decide)).1).headEvaluated ?_
  exact budgetLaw_of_same (entered_emergency frame fun _ => rfl) (entered .figures (by decide))

theorem forceOff_powerKept (b : Bay) (s : State) : PowerKept s (forceOff b s) := by
  unfold forceOff
  split
  · next on =>
    exact (leaveOn_powerKept b s).trans
      (dropTo_powerKept (by rw [leaveOn_bayState, on]; rfl) (standbyState_elsewhere s b))
  · next stopping => exact dropTo_powerKept (by rw [stopping]; rfl) (standbyState_elsewhere s b)
  · next ramping => exact ramping_dropped ramping (standbyState_elsewhere s b)
  · next waits => exact cancelWait_powerKept waits
  · exact .refl s

theorem removeBay_powerKept (b : Bay) (s : State) : PowerKept s (removeBay b s) := by
  have frame := removeBay_before b s
  have pbu : (updThermal b (fun _ => resetThermal) (clearSlot (slotOfBay b) (leaveWaitList b (leaveOn b s)))).pbu
      = (leaveWaitList b s).pbu := by
    rw [updThermal_pbu, (clearSlot_keeps (slotOfBay b) _).pbu_eq, leaveWaitList, updPbu_pbu, (leaveOn_keeps b s).pbu_eq]
    rfl
  rw [removeBay_eq]
  generalize updThermal b (fun _ => resetThermal) (clearSlot (slotOfBay b) (leaveWaitList b (leaveOn b s))) = p at *
  have lost : StandingLost b s (enterState b .empty (updBay b removedRec p)) :=
    left_standingLost frame (by rw [pbu]; exact ⟨rfl, rfl⟩) (by simp) (fun _ => rfl) fun _ => rfl
  exact lost.freed (.bay b)

theorem isolate_powerKept (b : Bay) (s : State) : PowerKept s (isolate b s) := by
  have frame : KeepsAllBut [.slots, .scanQueue, .scan, .waitList, .bayQueues, .pool, .stations] s
      (abortScan (slotOfBay b) (leaveWaitList b (leaveOn b s))) :=
    (((leaveOn_keeps b s).within
      (l := [.slots, .scanQueue, .scan, .waitList, .bayQueues, .pool, .stations])).and (leaveWaitList_keeps b _)).and
      (abortScan_keeps _ _)
  have pbu : (abortScan (slotOfBay b) (leaveWaitList b (leaveOn b s))).pbu = (leaveWaitList b s).pbu := by
    rw [(abortScan_keeps _ _).pbu_eq, leaveWaitList, updPbu_pbu, (leaveOn_keeps b s).pbu_eq]
    rfl
  have eq : isolate b s = rampEndUnpowered b (evaluate (.bay b) (enterState b .maint
      (updBay b unpowered (abortScan (slotOfBay b) (leaveWaitList b (leaveOn b s)))))) := rfl
  rw [eq]
  generalize abortScan (slotOfBay b) (leaveWaitList b (leaveOn b s)) = p at *
  have lost : StandingLost b s (enterState b .maint (updBay b unpowered p)) :=
    left_standingLost frame (by rw [pbu]; exact ⟨rfl, rfl⟩) (by simp) (fun _ => rfl) fun _ => rfl
  exact lost.freed (.bay b)

/-! ### Detection and requests for power (R3, R6, R15, R19) -/

theorem enterDetected_powerKept {b : Bay} {s : State} (old : bayState s b = .empty ∨ bayState s b = .maint) :
    PowerKept s (enterDetected b s) := by
  have detected : PowerKept s (enterState b .detected s) :=
    enterState_powerKept (by rcases old with h | h <;> simp [h]) (by simp)
  have requested := (detected.trans (evaluate_powerKept (.bay b) _)).trans (requestScan_powerKept (slotOfBay b) _)
  unfold enterDetected
  simp only
  split
  · next h => exact requested.trans (enterState_powerKept (by simp [h]) (by simp))
  · exact requested

theorem insertBay_powerKept {b : Bay} {s : State} (empty : bayState s b = .empty) : PowerKept s (insertBay b s) :=
  (updBay_powerKept s (.of_eq rfl rfl rfl) rfl).trans
    (enterDetected_powerKept (.inl (by rw [bayState, bayRec_updBay, if_pos rfl]; exact empty)))

theorem requestPower_powerKept {b : Bay} {s : State} (standby : bayState s b = .standby) :
    PowerKept s (requestPower b s) := by
  have frame := joinWaitList_keeps b s
  have entered := enterState_keeps b .waitPower (joinWaitList b s)
  have record (c) : bayRec (enterState b .waitPower (joinWaitList b s)) c
      = if c = b then followThrottle { bayRec s b with state := .waitPower } else bayRec s c := by
    rw [bayRec_enterState, frame.bayRec_eq, frame.bayRec_eq]
  have other (c) (hc : c ≠ b) : bayState (enterState b .waitPower (joinWaitList b s)) c = bayState s c := by
    rw [bayState, record, if_neg hc, bayState]
  have own : bayState (enterState b .waitPower (joinWaitList b s)) b = .waitPower := by
    rw [bayState, record, if_pos rfl, followThrottle_state]
  have list := entered .waitList (by decide)
  have emergency : SameEmergency s (enterState b .waitPower (joinWaitList b s)) := by
    refine .of_keeps ((frame.within (l := .waitList :: .bays :: reportParts)).and entered) fun c => ?_
    rw [record]
    split
    · next e => subst e; rfl
    · rfl
  refine StandingKept.headEvaluated ⟨fun law => ?_, fun law c => ?_, emergency.law⟩
    (budgetLaw_of_same emergency (entered .figures (by decide)))
  · refine law.joined list.1 list.2 (by simp [standby]) own other fun c => ?_
    rw [priorityOf, record]
    split
    · next e => subst e; rfl
    · rfl
  · rw [(entered .sequencer (by decide)).1]
    by_cases hc : c = b
    · subst hc
      rw [own]
      exact iff_of_false (by simp) fun ramp => by
        have := (law c).mpr ramp
        simp [standby] at this
    · rw [other c hc]
      exact law c

/-! ### The ramp (R7, R8, R63 to R67) -/

theorem takeAdmission_powerKept {b : Bay} {s : State} (seq : s.pbu.seq = .admitting b) : PowerKept s (takeAdmission b s) := by
  have state (c) : bayState (rampBegun b s) c = if c = b then .ramping else bayState s c := by
    rw [bayState, bayRec_rampBegun]
    split <;> rfl
  rw [takeAdmission_eq]
  refine StandingKept.evaluated ⟨fun law => ?_, fun law c => ?_, ?_⟩ _
  · refine law.left (by rw [rampBegun_pbu]) (by rw [rampBegun_pbu]) (by simp [state]) fun c hc => ?_
    rw [state, if_neg hc, priorityOf, bayRec_rampBegun, if_neg hc, priorityOf]
    exact ⟨rfl, rfl⟩
  · rw [state, rampBegun_pbu]
    split
    · next hc => simp [hc]
    · next hc =>
      rw [law c, seq]
      exact iff_of_false (by simp) fun ramp => hc (Sequencer.ramp.inj ramp).symm
  · have same : SameEmergency s (rampBegun b s) :=
      .of_keeps (rampBegun_keeps b s) (rampBegun_emergencyKept b s).2.2.1
    exact same.law

theorem completeRamp_powerKept {b : Bay} {s : State} (ramping : bayState s b = .ramping) :
    PowerKept s (completeRamp b s) := by
  unfold completeRamp
  simp only
  have entered := enterState_updBay_keeps b .poweredOn (fun r => { r with rampTimer := none }) s
  have lost : StandingLost b s (enterState b .poweredOn (updBay b (fun r => { r with rampTimer := none }) s)) :=
    dropped_standingLost (KeepsAllBut.refl [] s) (by simp [ramping]) (by simp) (fun _ => rfl) fun _ => rfl
  have emergency : SameEmergency s (enterState b .poweredOn (updBay b (fun r => { r with rampTimer := none }) s)) :=
    entered_emergency (KeepsAllBut.refl [] s) fun _ => rfl
  have cap (c) : (bayRec (enterState b .poweredOn (updBay b (fun r => { r with rampTimer := none }) s)) c).cap
      = (bayRec s c).cap := by
    rw [bayRec_enterState_updBay]
    split
    · next e => subst e; rfl
    · rfl
  have head : HeadLaw s → HeadLaw _ := headLaw_of_same emergency (fun idle => (entered .sequencer (by decide)).1 ▸ idle)
    (entered .figures (by decide)) (entered .waitList (by decide)).1 (fun w _ => cap w.bay)
    fun c => by rw [entered.slotRec_eq]; exact .refl _
  have budget : BudgetLaw s → BudgetLaw _ := budgetLaw_of_same emergency (entered .figures (by decide))
  generalize enterState b .poweredOn (updBay b (fun r => { r with rampTimer := none }) s) = t at *
  have thermal : PowerKept t (updThermal b (fun e => { e with current := false, age := 0 }) t) :=
    .of_keeps (updThermal_keeps b _ t)
  have frame := rampEndPowered_keeps b (updThermal b (fun e => { e with current := false, age := 0 }) t)
  have same : SameEmergency _ _ := .of_keeps frame fun c => by rw [frame.bayRec_eq c]
  refine ⟨StandingLost.ended ⟨fun law => thermal.wait (lost.wait law), lost.ramp, fun law => lost.emergency law⟩ frame
      rampEndPowered_rampLaw, fun law => ?_, fun _ law => rampEndPowered_headLaw (head law)⟩
  exact budgetLaw_of_same same (frame .figures (by decide)) (budget law)

/-- A sequencer that named no ramp becomes IDLE, and the head is evaluated (R64, R67). -/
theorem idled_powerKept {s u : State} (frame : KeepsAllBut [.sequencer] s u) (was : ∀ b, s.pbu.seq ≠ .ramp b)
    (idle : u.pbu.seq = .idle) : PowerKept s (evaluateHead u) := by
  have bays (b) := frame.bayRec_eq b
  have same : SameEmergency s u := .of_keeps frame fun b => by rw [bays]
  have places : SamePlaces s u :=
    ⟨fun b => by rw [bays]; exact .refl _, frame .waitList (by decide), fun b => by simp [idle, was]⟩
  exact (StandingKept.of_same places same).headEvaluated (budgetLaw_of_same same (frame .figures (by decide)))

theorem answerAdmission_powerKept {b : Bay} {s : State} (seq : s.pbu.seq = .admitting b) :
    PowerKept s (answerAdmission b s) := by
  unfold answerAdmission
  split
  · have taken := takeAdmission_powerKept seq
    simp only
    split
    · exact taken.trans (completeRamp_powerKept (takeAdmission_bayState b s))
    · exact taken
  · exact idled_powerKept (updPbu_seq_keeps (fun _ => .idle) s) (by simp [seq]) rfl

theorem endGap_powerKept {b : Bay} {s : State} (seq : s.pbu.seq = .gap b) : PowerKept s (endGap s) :=
  idled_powerKept (updPbu_gap_keeps (fun _ => .idle) (fun _ => none) s) (by simp [seq]) rfl

/-! ### Shedding (R16, R76 to R83) -/

theorem endGrace_powerKept {s : State} (phase : s.pbu.emg.phase = .grace) : PowerKept s (endGrace s) := by
  have frame : KeepsAllBut [.emergency] s
      (updEmg (fun e => { e with runShed := false }) (updEmg (fun e => { e with graceTimer := none }) s)) :=
    (updEmg_keeps _ s).trans (updEmg_keeps _ _)
  have places : SamePlaces s _ := .of_bays frame fun _ => .refl _
  refine StandingKept.handShed places.wait places.ramp fun law run => ?_
  obtain ⟨declared, cause, -, -⟩ := law run
  obtain ⟨gate, hold⟩ := declared (by simp [phase])
  exact ⟨gate, hold, fun b => (cause b).mpr (by simp [phase]), rfl⟩

theorem takeShed_powerKept {b : Bay} {s : State} (main : hasMain (bayState s b) = true) :
    PowerKept s (takeShed b s) := by
  have off : bayState s b ≠ .waitPower := fun h => by simp [h, hasMain] at main
  have record := bayRec_shedDone b (s := s)
  have frame := shedDone_keeps b s
  have state (c) : bayState (shedDone b s) c = if c = b then shedState s b else bayState s c := by
    rw [bayState, record]
    split <;> rfl
  have priority (c) : priorityOf (shedDone b s) c = priorityOf s c := by
    rw [priorityOf, record]
    split
    · next e => subst e; rfl
    · rfl
  have new : shedState s b ≠ .ramping := by
    rw [shedState_eq]
    repeat' split
    all_goals simp
  rw [takeShed_eq]
  refine StandingLost.freed ⟨fun law => ?_, fun law => ⟨by simpa [state] using new, fun c hc => ?_⟩, fun law => ?_⟩ _
  · have list := shedJoins_waitList b s
    obtain ⟨list', stamp'⟩ := shedDone_waitList b s
    split at list
    · next restored =>
      refine law.joined (list'.trans list.1) (stamp'.trans list.2) off ?_ (fun c hc => by rw [state, if_neg hc]) priority
      rw [state, if_pos rfl, shedState, if_pos restored]
    · next lost =>
      refine waitListLaw_of_places (fun c => ?_) priority ⟨list'.trans list.1, stamp'.trans list.2⟩ law
      rw [state]
      split
      · next hc =>
        subst hc
        rw [shedState, if_neg lost]
        exact iff_of_false (standbyState_elsewhere s _).1 off
      · exact .rfl
  · rw [state, if_neg hc, (frame .sequencer (by decide)).1]
    exact law c
  · have emg := shedDone_emg b s
    have same : SameEmergency s (shedDone b s) := by
      refine ⟨fun run => frame.mode_eq ▸ run, by rw [emg]; rfl, by rw [emg]; rfl, by rw [emg]; rfl,
        (frame .gates (by decide)).1, (frame .hold (by decide)).1, fun c => ?_⟩
      rw [record]
      split
      · next e => subst e; rfl
      · rfl
    exact same.law law

/-- On the answer to a shed request the next is named, or the emergency is over one way or the other (R78). -/
theorem answerShed_powerKept {s v : State} (h : StandingKept s v) (phase : v.pbu.emg.phase = .shedding) :
    PowerKept s (answerShed v) := by
  unfold answerShed
  split
  · exact StandingKept.handShed h.wait h.ramp fun law run =>
      (h.emergency law).shedding run (by simp [phase]) (by simp [phase])
  · next fits =>
    have places := endEmergency_places (lastShedSource v) v
    refine StandingKept.headEvaluated
      ⟨places.wait ∘ h.wait, places.ramp ∘ h.ramp, fun _ => endEmergency_emergencyLaw _ v⟩ fun _ _ _ _ => ?_
    rw [endEmergency_pbu]
    simpa [overBudget] using fits

theorem shedAnswered_powerKept {b : Bay} {s : State} (phase : s.pbu.emg.phase = .shedding) :
    PowerKept s (shedAnswered b s) := by
  unfold shedAnswered
  split
  · next main =>
    refine answerShed_powerKept (takeShed_powerKept main).toStandingKept ?_
    rw [(takeShed_shed phase).emg]
    exact phase
  · refine answerShed_powerKept (evaluate_standingKept _ s) ?_
    have emg : (evaluate (.bay b) s).pbu.emg = s.pbu.emg := evaluate_shedding_keeps phase .emergency (by decide)
    rw [emg, phase]

/-! ### Policy and the gate (R23, R57, R84) -/

theorem recomputeGrant_powerKept (b : Bay) (s : State) : PowerKept s (recomputeGrant b s) := by
  unfold recomputeGrant
  simp only
  split
  · exact (updBay_powerKept s (.of_eq rfl rfl rfl) rfl).trans (evaluate_powerKept _ _)
  · exact .refl s

theorem setBayPolicy_powerKept (b : Bay) (priority cap : Nat) (u : Uplink) (z : Zone) (restore : Bool) (s : State) :
    PowerKept s (setBayPolicy b priority cap u z restore s) := by
  refine PowerKept.trans ?_ (recomputeGrant_powerKept b _)
  have frame := updBay_keeps b (policyRec s priority cap u z restore) s
  have record (c) : bayRec (updBay b (policyRec s priority cap u z restore) s) c
      = if c = b then followThrottle (policyRec s priority cap u z restore (bayRec s b)) else bayRec s c :=
    bayRec_updBay b c _ s
  generalize updBay b (policyRec s priority cap u z restore) s = v at *
  have state (c) : bayState v c = bayState s c := by
    rw [bayState, record]
    split
    · next e => subst e; rfl
    · rfl
  have cause (c) : (bayRec v c).emergencyCause = (bayRec s c).emergencyCause := by
    rw [record]
    split
    · next e => subst e; rfl
    · rfl
  have other (c) (hc : c ≠ b) : priorityOf v c = priorityOf s c ∧ (bayRec v c).cap = (bayRec s c).cap := by
    rw [priorityOf, record, if_neg hc, priorityOf]
    exact ⟨rfl, rfl⟩
  have same : SameEmergency s v := .of_keeps frame cause
  have budget : BudgetLaw s → BudgetLaw v := budgetLaw_of_same same (frame .figures (by decide))
  have ramp (law : RampLaw s) : RampLaw v := fun c => by
    rw [state, (frame .sequencer (by decide)).1]
    exact law c
  have list := frame .waitList (by decide)
  unfold replaceInList
  rw [state]
  split
  · next waits =>
    have moved := moveInWaitList_keeps b v
    have bays (c) := moved.bayRec_eq c
    have same' : SameEmergency v (moveInWaitList b v) := .of_keeps moved fun c => by rw [bays]
    refine StandingKept.headEvaluated ⟨fun law => ?_, fun law c => ?_, same'.law ∘ same.law⟩
      (budgetLaw_of_same same' (moved .figures (by decide)) ∘ budget)
    · exact (moveInWaitList_law law waits list state fun c hc => (other c hc).1).1
    · rw [moved.bayState_eq, (moved .sequencer (by decide)).1]
      exact ramp law c
  · next off =>
    have unlisted (law : WaitListLaw s) (w) (hw : w ∈ s.pbu.waitList) : w.bay ≠ b := fun e =>
      off ((law.1 b).mp ⟨w, hw, e⟩)
    refine ⟨⟨fun law => ?_, ramp, same.law⟩, budget, fun wait law => ?_⟩
    · have apart := unlisted law
      obtain ⟨listed, bays, sorted, stamps, older⟩ := law
      refine ⟨fun c => by rw [list.1, state]; exact listed c, by rwa [list.1], ?_, by rwa [list.1],
        by rwa [list.1, list.2]⟩
      rw [list.1]
      refine sorted.imp_of_mem fun {x y} hx hy h => ?_
      rwa [before, (other _ (apart x hx)).1, (other _ (apart y hy)).1]
    · exact headLaw_of_same same (fun idle => (frame .sequencer (by decide)).1 ▸ idle) (frame .figures (by decide)) list.1
        (fun w hw => (other _ (unlisted wait w hw)).2) (fun c => by rw [frame.slotRec_eq]; exact .refl _) law

theorem setGate_powerKept (g : Gate) (s : State) : PowerKept s (setGate g s) := by
  unfold setGate
  split
  · next phase =>
    have frame := updPbu_ae_keeps (fun _ => g) s
    have places : SamePlaces s (updPbu (fun p => { p with ae := g }) s) := .of_bays frame fun _ => .refl _
    have kept : StandingKept s (updPbu (fun p => { p with ae := g }) s) :=
      ⟨places.wait, places.ramp, fun law run => ⟨fun none_ => absurd phase none_, (law run).2⟩⟩
    simp only
    split
    · exact kept.headEvaluated id
    · next shut =>
      refine ⟨kept, id, fun _ law run seq w hw ⟨gate, fits⟩ => law run seq w hw ⟨?_, fits⟩⟩
      cases was : s.pbu.ae with
      | opened => rfl
      | closed => exact absurd ⟨was, gate⟩ shut
  · have frame := updPbu_ae2_keeps (fun _ => g) s
    exact .of_same (.of_bays frame fun _ => .refl _) ⟨id, rfl, .rfl, rfl, rfl, rfl, fun _ => rfl⟩ id rfl fun _ => .refl _

end Sys2Proof.Machine
end

section
/-! SUPPORT. The laws of the power work through time, resets, cooling and the queues, and so through every act and every
step (O55, O56, O60). -/

namespace Sys2Proof.Machine

/-! ### Time and resets (R177 to R181) -/

theorem tick_powerKept (s : State) : PowerKept s (tick s) := by
  have record := bayRec_tick s
  refine .of_same ⟨fun b => by rw [record]; exact .of_eq rfl rfl rfl, tick_keeps s .waitList (by decide), fun _ => .rfl⟩
    ⟨id, rfl, tickTimer_eq_none _, rfl, rfl, rfl, fun b => by rw [record]; rfl⟩ id rfl fun b => ?_
  rw [slotRec_tick]
  exact fun complete => ⟨complete, rfl⟩

/-- In reset only the places are bound. -/
theorem PowerKept.stopped {s t : State} (places : SamePlaces s t) (off : t.mode ≠ .running) : PowerKept s t where
  wait := places.wait
  ramp := places.ramp
  emergency _ run := absurd run off
  budget _ run := absurd run off
  head _ _ run := absurd run off

theorem beginReset_powerKept {powerOn : Bool} {m : Mode} (off : m ≠ .running) (s : State) :
    PowerKept s (beginReset powerOn m s) := by
  obtain ⟨bays, -⟩ := beginReset_begun powerOn m s
  exact .stopped ⟨fun b => by rw [bays]; exact .of_eq rfl rfl rfl, ⟨rfl, rfl⟩, fun _ => .rfl⟩ off

/-- The part after a reset: no bay waits or ramps, and the hold or an emergency is in force (R85, R86, R179). -/
theorem PowerKept.started {s t : State} (list : t.pbu.waitList = []) (seq : t.pbu.seq = .idle)
    (bays : ∀ b, bayState t b = .empty ∨ bayState t b = .poweredOn) (emergency : EmergencyLaw t)
    (excused : t.pbu.emg.phase ≠ .none ∨ t.pbu.hold = true) : PowerKept s t where
  wait _ := by
    refine ⟨fun b => ?_, by simp [list], by simp [list], by simp [list], by simp [list]⟩
    rcases bays b with h | h <;> simp [list, h]
  ramp _ b := by rcases bays b with h | h <;> simp [seq, h]
  emergency _ := emergency
  budget _ _ phase hold := by simp [phase, hold] at excused
  head _ _ _ _ w hw := by simp [list] at hw

theorem StartedInEmergency.emergencyLaw {source : EmgSource} {t : State} (h : StartedInEmergency source t) :
    EmergencyLaw t := fun _ => by
  obtain ⟨hold, -, emg, gate, -, cause, -⟩ := h
  simp [hold, emg, gate, cause]

theorem completePowerOn_powerKept (straps : BitVec 4) (s : State) : PowerKept s (completePowerOn straps s) := by
  have started := emergencyAtStart_started (withStraps straps s.pins) s.pending
  rw [completePowerOn_eq]
  refine .started rfl rfl (fun b => .inl ?_) started.emergencyLaw (.inl ?_)
  · rw [bayState, bayRec_emergencyAtStart, bayRec_debouncing]; rfl
  · rw [started.2.2.1]; simp

theorem takeover_powerKept (cause : ResetCause) (straps : BitVec 4) (s : State) :
    PowerKept s (takeover cause straps s) := by
  obtain ⟨tables, bays, -, -, -, -, -, -, held, unheld, -⟩ := takeover_takenOver cause straps s
  obtain ⟨-, -, -, -, -, -, -, -, -, -, -, -, -, -, list, -, seq, -⟩ := tables
  have state (b) : bayState (takeover cause straps s) b = .empty ∨ bayState (takeover cause straps s) b = .poweredOn := by
    rw [bayState, (bays b).state_eq]
    split
    · exact .inr rfl
    · exact .inl rfl
  cases supplied : (List.finRange 4).any (Bank.read s.pins.psuPres) with
  | true =>
    obtain ⟨hold, -, emg, -, -, causes, -⟩ := held supplied
    exact .started list seq state (fun _ => by simp [emg, causes]) (.inr hold)
  | false =>
    have started := unheld supplied
    exact .started list seq state started.emergencyLaw (.inl (by rw [started.2.2.1]; simp))

/-! ### Cooling (R20, R96, R106 to R118) -/

/-- The airflow causes are no part of the power work. -/
theorem driveZone_powerKept (z : Zone) (s : State) : PowerKept s (driveZone z s) := by
  have airflow (a : Airflow) (s : State) : PowerKept s (changeAirflow z a s) := by
    unfold changeAirflow
    split
    · exact .refl s
    · refine ((PowerKept.of_keeps (updAir_keeps z _ s)).trans (raise_powerKept _ _)).trans
        (.of_bays (updBays_keeps _ _) fun b => ?_)
      rw [bayRec_updBays]
      split <;> exact ⟨.of_eq rfl rfl rfl, rfl⟩
  exact (((PowerKept.of_keeps (updAir_keeps z _ s)).trans (airflow _ _)).and (updAir_keeps z _ _)).and (updFans_keeps _ _)

theorem controlZones_powerKept (s : State) : PowerKept s (controlZones s) := by
  have restarted : KeepsAllBut [.controlTimer] s
      { s with thu := { s.thu with controlTimer := some Config.controlPeriod } } := by
    intro p hp
    cases p <;> simp [Part.same] at hp ⊢
  exact ((((PowerKept.of_keeps restarted).and (computeZones_keeps _)).trans (driveZone_powerKept 0 _)).trans
    (driveZone_powerKept 1 _)).trans (driveZone_powerKept 2 _)

theorem setZone_powerKept (z : Zone) (m : ZoneMode) (floor forced staleLimit stepDown : Nat) (s : State) :
    PowerKept s (setZone z m floor forced staleLimit stepDown s) := by
  have written := PowerKept.of_keeps (updZone_keeps z (zoneSettings m floor forced staleLimit stepDown) s)
  unfold setZone
  simp only
  split
  · exact (written.and (updZone_keeps z _ _)).trans (driveZone_powerKept z _)
  · exact written

theorem acceptReport_powerKept (b : Bay) (margin : Nat) (critical : Bool) (s : State) :
    PowerKept s (acceptReport b margin critical s) :=
  (PowerKept.of_keeps (updThermal_keeps b _ s)).trans (updBay_powerKept _ (.of_eq rfl rfl rfl) rfl)

theorem insertFan_powerKept (f : Fan) (s : State) : PowerKept s (insertFan f s) :=
  ((PowerKept.of_keeps (updFan_keeps f _ s)).trans (requestScan_powerKept _ _)).trans (evaluate_powerKept _ _)

theorem removeFan_powerKept (f : Fan) (s : State) : PowerKept s (removeFan f s) :=
  ((PowerKept.of_keeps (updFan_keeps f _ s)).trans (clearSlot_powerKept _ _)).trans (evaluate_powerKept _ _)

theorem insertSupply_powerKept (p : Psu) (s : State) : PowerKept s (insertSupply p s) :=
  ((PowerKept.of_keeps (updSupply_keeps p _ s)).trans (requestScan_powerKept _ _)).trans (evaluate_powerKept _ _)

theorem removeSupply_powerKept (p : Psu) (s : State) : PowerKept s (removeSupply p s) :=
  (((PowerKept.of_keeps (updSupply_keeps p _ s)).trans (clearSlot_powerKept _ _)).trans (evaluate_powerKept _ _)).trans
    (testHold_powerKept _)

/-! ### Every act and every step -/

theorem offer_powerKept (r : Port) (c : Copy) (s : State) : PowerKept s (offer r c s) :=
  .of_queue (offer_keeps r c s)

theorem BayNoted.place {r r' : BayRec} (h : BayNoted r r') :
    SamePlace r r' ∧ r'.emergencyCause = r.emergencyCause := by
  rw [h]
  exact ⟨.of_eq rfl rfl rfl, rfl⟩

theorem Act.powerKept {s t : State} (h : Act s t) : PowerKept s t := by
  cases h with
  | waits l => exact .of_keeps (l := [.pending]) fun p hp => by cases p <;> simp [Part.same] at hp ⊢
  | ticks => exact tick_powerKept s
  | lines f => exact .of_keeps (updPins_keeps f s)
  | raises c => exact raise_powerKept c s
  | service f => exact .of_keeps (updSve_keeps f s)
  | beginsReset powerOn _ off => exact beginReset_powerKept off s
  | staysReset _ off => exact .stopped ⟨fun _ => .refl _, ⟨rfl, rfl⟩, fun _ => .rfl⟩ off
  | powersOn straps => exact completePowerOn_powerKept straps s
  | takesOver cause straps => exact takeover_powerKept cause straps s
  | offers p c => exact offer_powerKept p c s
  | offersService p f => exact .of_keeps (offerService_keeps p f s)
  | drops p => exact .of_queue (countDropped_keeps 1 p s)
  | sends p => exact .of_queue (completeTransmission_keeps p s)
  | pops => exact .of_keeps (svcPop_keeps s)
  | flushes u => exact flush_powerKept _ s
  | bars u => exact .of_keeps (barWaiting_keeps u s)
  | quota p n => exact .of_queue (putQueue_keeps p _ s)
  | uplink u f => exact .of_keeps (updUplink_keeps u f s)
  | learns b a t c => exact .of_keeps (learn_keeps b a t c s)
  | stations f => exact .of_keeps (updStb_keeps f s)
  | loadsWindow b w =>
    exact ((PowerKept.of_keeps (updWindow_keeps b w s)).and (purge_keeps b _)).and (recomputeStatics_keeps b _)
  | fan i f => exact .of_keeps (updFan_keeps i f s)
  | endsWindow i => exact .of_keeps (tachWindow_keeps i s)
  | insertsFan i => exact insertFan_powerKept i s
  | removesFan i => exact removeFan_powerKept i s
  | zone z f => exact .of_keeps (updZone_keeps z f s)
  | setsZone z m floor forced staleLimit stepDown => exact setZone_powerKept z m floor forced staleLimit stepDown s
  | controls => exact controlZones_powerKept s
  | reports b margin critical => exact acceptReport_powerKept b margin critical s
  | rescans k => exact requestScan_powerKept k s
  | retries k => exact retryDue_powerKept k s
  | judges k image => exact judgeScan_powerKept k image s
  | fails k failure => exact (PowerKept.of_keeps (endTransaction_keeps s)).trans (scanFailed_powerKept k failure _)
  | announces b ident => exact acceptAnnounce_powerKept _ ident s
  | supplyTimers p present => exact .of_keeps (updSupply_keeps p _ s)
  | supplyOk p asserted => exact (PowerKept.of_keeps (updSupply_keeps p _ s)).trans (supplyChanged_powerKept p _)
  | insertsSupply p => exact insertSupply_powerKept p s
  | removesSupply p => exact removeSupply_powerKept p s
  | powerPolicy policy =>
    exact (PowerKept.of_keeps (updPbu_policy_keeps (fun _ => policy) s)).trans (evaluate_powerKept .policy _)
  | gate g => exact setGate_powerKept g s
  | endsHold => exact endHold_powerKept s
  | endsGrace phase => exact endGrace_powerKept phase
  | endsGap seq => exact endGap_powerKept seq
  | admission seq => exact answerAdmission_powerKept seq
  | shed phase _ => exact shedAnswered_powerKept phase
  | notes b _ noted => exact updBay_powerKept s noted.place.1 noted.place.2
  | inserts state => exact insertBay_powerKept state
  | detects state => exact enterDetected_powerKept (.inr state)
  | removes b => exact removeBay_powerKept b s
  | isolates b => exact isolate_powerKept b s
  | ramps state => exact completeRamp_powerKept state
  | rampFaults state => exact ramping_dropped state (by simp)
  | powerFaults b => exact powerFault_powerKept b s
  | stops state => exact beginStop_powerKept state
  | stopEnds state => exact endStop_powerKept state
  | forcedOff b => exact forceOff_powerKept b s
  | clearsFault state => exact enterState_powerKept (by simp [state]) (standbyState_elsewhere s _)
  | asks state => exact requestPower_powerKept state
  | bayPolicy b priority cap u z restore => exact setBayPolicy_powerKept b priority cap u z restore s

theorem step_powerKept {s t : State} (h : step s = .next t) : PowerKept s t :=
  (step_acts h).induct PowerKept.refl PowerKept.trans Act.powerKept

/-- Settles O55: of the acts of which a step is made, each keeps the wait list and the single ramp. -/
theorem admissionStaysOrdered : Obligations.AdmissionStaysOrdered :=
  ⟨fun _ _ law h => (step_powerKept h).wait law, fun _ _ law h => (step_powerKept h).ramp law⟩

/-- Settles O56: an evaluation leaves a budget that fits, an emergency or the hold, and every act keeps the record of
the emergency, the gate and the causes in agreement. -/
theorem powerStaysInBudget : Obligations.PowerStaysInBudget :=
  ⟨fun _ _ law h => (step_powerKept h).budget law, fun _ _ law h => (step_powerKept h).emergency law⟩

/-- Settles O60: whatever may let the head fit is followed by an evaluation of the head. -/
theorem noAdmissibleHeadWaits : Obligations.NoAdmissibleHeadWaits := fun s t ⟨figures, wait, head⟩ h =>
  ⟨figuresStayCurrent s t figures h, (step_powerKept h).wait wait, (step_powerKept h).head wait head⟩

end Sys2Proof.Machine
end

section
/-! SUPPORT. The laws of the state after a power-on reset with quiet lines (O51). -/

namespace Sys2Proof.Machine

/-! ### The records of the reset state (R177, R179) -/

theorem bayRec_reset (b : Bay) : bayRec State.reset b = { resetBay b with emergencyCause := true } := Bank.read_tab _ b

theorem slotRec_reset (k : Slot) : slotRec State.reset k = resetSlot := Bank.read_tab _ k

theorem supplyRec_reset (p : Psu) : supplyRec State.reset p = resetSupply (Bank.read quietPins.psuOk p) :=
  Bank.read_tab _ p

theorem fanRec_reset (f : Fan) : fanRec State.reset f = resetFan f := Bank.read_tab _ f

theorem zoneRec_reset (z : Zone) : zoneRec State.reset z = resetZone := Bank.read_tab _ z

theorem thermalEntry_reset (b : Bay) : thermalEntry State.reset b = resetThermal := Bank.read_tab _ b

theorem uplinkRec_reset (u : Uplink) : uplinkRec State.reset u = resetUplink (Bank.read quietPins.link u) :=
  Bank.read_tab _ u

theorem queueOf_reset (p : Port) : queueOf State.reset p = resetQueue (match p with | .bay _ => 96 | .uplink _ => 512) := by
  cases p with
  | bay b => exact Bank.read_tab _ b
  | uplink u => exact Bank.read_tab _ u

/-- The reset state is what the completion of a power-on reset leaves (R179, log 6). -/
theorem completePowerOn_quiet : completePowerOn 0 (resetBlocks .powerOn quietPins []) = State.reset :=
  (completePowerOn_eq 0 _).trans (emergencyAtStart_quiet [])

theorem reset_figuresCurrent : FiguresCurrent State.reset := by
  rw [← completePowerOn_quiet]
  exact (evaluate_evaluatedFor .start _).1.1

/-! ### The laws -/

/-- All cells are free, and every queue is empty (R154, R155, R157). -/
theorem reset_poolLaw : PoolLaw State.reset := by
  refine ⟨?_, fun p => ?_, rfl, by decide, by decide⟩
  · have bays : (fun b => (Bank.read State.reset.fbm.bayQ b).held) = fun _ => 0 :=
      funext fun b => congrArg Queue.held (queueOf_reset (.bay b))
    have uplinks : (fun u => (Bank.read State.reset.fbm.upQ u).held) = fun _ => 0 :=
      funext fun u => congrArg Queue.held (queueOf_reset (.uplink u))
    rw [bays, uplinks, sumFin_zero, sumFin_zero]
    rfl
  · rw [queueOf_reset]
    exact ⟨rfl, fun sends => by cases sends⟩

theorem reset_linesLaw : LinesLaw State.reset := fun _ b => by
  rw [bayState, bayRec_reset]
  exact ⟨rfl, rfl, rfl, fun _ => rfl⟩

theorem reset_figuresLaw : FiguresLaw State.reset := by
  refine ⟨scanLaw_of_rests rfl rfl fun k => by rw [slotRec_reset]; exact resetSlot_rests, fun k i ident => ?_,
    fun k complete => ?_, fun p => supplyTrue_absent (by rw [supplyRec_reset]; exact ⟨rfl, rfl, rfl⟩),
    fun _ => reset_figuresCurrent⟩
  · rw [slotRec_reset] at ident; cases ident
  · rw [slotRec_reset] at complete; cases complete

theorem reset_emergencyLaw : EmergencyLaw State.reset := by
  have started := emergencyAtStart_started quietPins []
  rw [emergencyAtStart_quiet] at started
  exact started.emergencyLaw

/-- No copy waits in any queue (R158). -/
theorem reset_servedLaw : ServedLaw State.reset :=
  ⟨fun b _ => by rw [queueOf_reset]; exact ⟨rfl, rfl⟩, fun u _ => by rw [queueOf_reset]; exact ⟨rfl, rfl⟩⟩

/-- Settles O51: every record of the reset state is at its reset value, with the start-up emergency begun. -/
theorem resetStateIsLawful : Obligations.ResetStateIsLawful := by
  have empty (b) : bayState State.reset b = .empty := by rw [bayState, bayRec_reset]; rfl
  have unlisted : State.reset.pbu.waitList = [] := rfl
  have unlearned : State.reset.stb.places = [] := rfl
  refine ⟨reset_poolLaw, by simp [StationLaw, unlearned, keysDistinct], by simp [DynamicLaw, unlearned],
    ⟨fun b => ?_, .nil, .nil, .nil, by simp [unlisted]⟩, fun b => ?_, fun _ phase => (by cases phase),
    reset_emergencyLaw, reset_linesLaw, fun _ f => ?_, reset_figuresLaw, by simp [HeadLaw, unlisted],
    ⟨0, by rw [uplinkRec_reset]; rfl⟩, fun b => ?_, fun z auto => ?_, reset_servedLaw⟩
  · rw [empty]
    simp [unlisted]
  · rw [empty]
    exact iff_of_false (by simp) fun seq => by cases seq
  · rw [fanRec_reset]; rfl
  · rw [bayRec_reset, thermalEntry_reset]; rfl
  · rw [zoneRec_reset] at auto; cases auto

end Sys2Proof.Machine
end

section
/-! SUPPORT. The timers of the power work: the hold, the grace and the stagger gap (O17). -/

namespace Sys2Proof.Machine

/-! ### What an evaluation leaves -/

theorem evaluate_figures (source : EmgSource) (s : State) : (evaluate source s).pbu.figures = figuresOf s := by
  have head := evaluateHead_keeps (compareBudget source (recordFigures s)) .figures (by decide)
  exact Eq.trans head (compareBudget_inputs source (recordFigures s)).2

/-- With no emergency, an evaluation that fits or is held back records its figures and evaluates the head alone (R54,
R85). -/
theorem evaluate_quiet {source : EmgSource} {s : State} (phase : s.pbu.emg.phase = .none)
    (quiet : s.pbu.hold = true ∨ overBudget (evaluate source s) = false) :
    KeepsAllBut [.figures, .sequencer] s (evaluate source s) := by
  have figures : overBudget (evaluate source s) = overBudget (recordFigures s) := by
    rw [overBudget, evaluate_figures]; rfl
  have stands : compareBudget source (recordFigures s) = recordFigures s := by
    have phase' : (recordFigures s).pbu.emg.phase = .none := phase
    have hold' : (recordFigures s).pbu.hold = s.pbu.hold := rfl
    rw [figures] at quiet
    unfold compareBudget
    rw [phase', hold']
    cases exceeds : overBudget (recordFigures s) with
    | false => rfl
    | true => simp_all
  rw [evaluate, stands]
  exact ((recordFigures_keeps s).within (l := [.figures, .sequencer])).and (evaluateHead_keeps _)

/-- In an emergency an evaluation leaves the sequencer (R61). -/
theorem EvaluatedFor.sequencer_of_phase {source : EmgSource} {s t : State} (h : EvaluatedFor source s t)
    (phase : t.pbu.emg.phase ≠ .none) : Part.sequencer.same s t := by
  obtain ⟨-, gap, idle, busy⟩ := h
  refine ⟨?_, gap⟩
  by_cases free : s.pbu.seq = .idle
  · rw [(headEvaluated_iff phase).mp (idle free), free]
  · exact busy free

theorem endHold_reported (s : State) : Reported [2, 3, 7] s (endHold s) :=
  (Reported.of_keeps (updPbu_hold_keeps _ _ s)).trans (evaluate_reported _ _)

/-- The end of the hold begins an emergency, or leaves all but the figures and an admitted head (R86). -/
theorem endHold_ended (s : State) : (endHold s).pbu.figures = figuresOf s
    ∧ (s.pbu.emg.phase = .none → overBudget (endHold s) = true →
        BeganEmergency .hold s (endHold s) ∧ Part.sequencer.same s (endHold s))
    ∧ (s.pbu.emg.phase = .none → overBudget (endHold s) = false → KeepsAllBut [.hold, .figures, .sequencer] s (endHold s)) := by
  have resolved : HoldResolved s (endHold s) := endHold_resolved fun _ => ⟨.refl s, id⟩
  obtain ⟨-, -, -, began, -⟩ := resolved
  have off := updPbu_hold_keeps (fun _ => false) (fun _ => none) s
  have eq : endHold s = evaluate .hold (updPbu (fun p => { p with hold := false, holdTimer := none }) s) := rfl
  refine ⟨evaluate_figures .hold _, fun phase exceeds => ?_, fun phase fit => ?_⟩
  · have begun := began phase exceeds
    refine ⟨begun, ?_⟩
    have evaluated := evaluate_evaluatedFor .hold (updPbu (fun p => { p with hold := false, holdTimer := none }) s)
    exact evaluated.sequencer_of_phase (t := endHold s) (by rw [begun.1]; simp)
  · rw [eq] at fit ⊢
    exact (off.within (l := [.hold, .figures, .sequencer])).and (evaluate_quiet phase (.inr fit))

/-! ### The grace timer (R76, R77, R82) -/

/-- The grace is over and no bay has been shed in the run that begins. -/
def graceOver (s : State) : State := updEmg (fun e => { e with graceTimer := none, runShed := false }) s

theorem endGrace_eq (s : State) : endGrace s = handShed (graceOver s) := rfl

theorem graceOver_keeps (s : State) : KeepsAllBut [.emergency] s (graceOver s) := updEmg_keeps _ s

theorem endGrace_names {s : State} {b : Bay} (chosen : chooseShed s = some b) :
    endGrace s = updEmg (fun e => { e with phase := .shedding, shedBay := some b }) (graceOver s) := by
  have chosen' : chooseShed (graceOver s) = some b := chosen
  rw [endGrace_eq, handShed, chosen']

theorem endGrace_exhausts {s : State} (chosen : chooseShed s = none) : endGrace s = enterExhausted (graceOver s) := by
  have chosen' : chooseShed (graceOver s) = none := chosen
  rw [endGrace_eq, handShed, chosen']

/-- With no bay shed in the run, its end reports EXHAUSTED alone (R81, R82). -/
theorem enterExhausted_quiet {s : State} (run : s.pbu.emg.runShed = false) :
    Reported [2, 7] s (enterExhausted s) ∧ KeepsAllBut (.emergency :: reportParts) s (enterExhausted s) := by
  have eq : enterExhausted s = raise (.emergency .exhausted .none) (updEmg (fun e => { e with runShed := false })
      (updEmg (fun e => { e with phase := .exhausted, shedBay := none }) s)) := by
    rw [enterExhausted, endRun_quiet (s := updEmg (fun e => { e with phase := .exhausted, shedBay := none }) s) run]
  rw [eq]
  exact ⟨((Reported.of_keeps (updEmg_keeps _ s)).trans (.of_keeps (updEmg_keeps _ _))).trans
      (raise_reported (.emergency .exhausted .none) _),
    (((updEmg_keeps _ s).within (l := .emergency :: reportParts)).and (updEmg_keeps _ _)).and (raise_keeps _ _)⟩

/-- Settles O17: each expiry ends its timer and does what the evaluation, the run of shedding or the head comes to. -/
theorem powerTimersExpire : Obligations.PowerTimersExpire := by
  refine ⟨fun s run hold timer => ?_, fun s run phase timer => ?_, fun b s run seq timer => ?_⟩
  · have result : exec .adoptionHoldTimerExpiry s = .next (endHold s) := by
      simp [exec, execAdoptionHoldTimerExpiry, whenRunning_running run, hold, Option.isSome_iff_ne_none.mpr timer]
    obtain ⟨off, stopped, current, -, resolved⟩ : HoldResolved s (endHold s) := endHold_resolved fun _ => ⟨.refl s, id⟩
    obtain ⟨figures, began, stands⟩ := endHold_ended s
    refine ⟨_, result, off, stopped, current, figures, began, fun phase fit => ?_, endHold_bays s,
      (endHold_reported s).flags, (endHold_reported s).alerts, endHold_keeps s⟩
    obtain ⟨emergency, gates, idle⟩ := resolved phase fit
    have frame := stands phase fit
    exact ⟨emergency, gates, frame .bays (by decide), frame .flags (by decide), idle⟩
  · have result : exec .graceTimerExpiry s = .next (endGrace s) := by
      simp [exec, execGraceTimerExpiry, whenRunning_running run, phase, Option.isSome_iff_ne_none.mpr timer]
    have ended := graceOver_keeps s
    cases chosen : chooseShed s with
    | some b =>
      rw [endGrace_names chosen] at result
      have frame : KeepsAllBut [.emergency] s
          (updEmg (fun e => { e with phase := .shedding, shedBay := some b }) (graceOver s)) :=
        ended.trans (updEmg_keeps _ _)
      have reported : Reported [2, 7] s _ := .of_keeps frame
      exact ⟨_, result, rfl, rfl, rfl, fun c hc => ⟨rfl, hc, frame⟩, nofun, reported.flags, reported.alerts,
        frame.within⟩
    | none =>
      rw [endGrace_exhausts chosen] at result
      obtain ⟨reports, frame⟩ := enterExhausted_quiet (s := graceOver s) rfl
      have reported : Reported [2, 7] s (enterExhausted (graceOver s)) := (Reported.of_keeps ended).trans reports
      have pbu := enterExhausted_pbu (graceOver s)
      refine ⟨_, result, by rw [pbu]; rfl, by rw [pbu]; rfl, by rw [pbu]; rfl, nofun,
        fun _ => ⟨by rw [pbu], by rw [pbu], enterExhausted_raised _⟩, reported.flags, reported.alerts, ?_⟩
      exact (ended.within (l := .emergency :: reportParts)).and frame
  · have result : exec .staggerGapTimerExpiry s = .next (endGap s) := by
      simp [exec, execStaggerGapTimerExpiry, whenRunning_running run, inGap, seq, Option.isSome_iff_ne_none.mpr timer]
    exact ⟨_, result, evaluateHead_gapTimer _, evaluateHead_evaluates _ rfl,
      (updPbu_gap_keeps (fun _ => .idle) (fun _ => none) s).and (evaluateHead_keeps _)⟩

end Sys2Proof.Machine
end

section
/-! SUPPORT. A change of PSU_OK (O16). -/

namespace Sys2Proof.Machine

/-- The line has moved and its level is recorded; the condition is still to be recomputed (R50). -/
def okRecorded (p : Psu) (a : Bool) (s : State) : State :=
  updSupply p (fun r => { r with psuOk := a }) (updPins (fun x => { x with psuOk := Bank.put x.psuOk p a }) s)

section
variable (p : Psu) (a : Bool) (s : State)

theorem okRecorded_keeps : KeepsAllBut [.pins, .supplies] s (okRecorded p a s) :=
  ((updPins_keeps _ s).within (l := [.pins, .supplies])).and (updSupply_keeps p _ _)

theorem supplyRec_okRecorded (q : Psu) :
    supplyRec (okRecorded p a s) q = if q = p then { supplyRec s p with psuOk := a } else supplyRec s q :=
  supplyRec_updSupply p q _ _

/-- The table of R47 for a supply whose level is now `a`. -/
theorem supplyNow_okRecorded : supplyNow (okRecorded p a s) p = { supplyRec s p with
    psuOk := a, condition := (supplyNow (okRecorded p a s) p).condition
    capacity := (supplyNow (okRecorded p a s) p).capacity } := by
  simp [supplyNow, supplyRec_okRecorded]

theorem okRecorded_condition : (supplyNow (okRecorded p a s) p).condition
    = if (supplyRec s p).present = false then .absent
      else if (slotRec s (slotOfPsu p)).status = .unidentified then .unidentified
      else if (slotRec s (slotOfPsu p)).status ≠ .complete then .pending
      else if a = true then .ok else .notOk := by
  have slot := (okRecorded_keeps p a s).slotRec_eq (slotOfPsu p)
  simp only [supplyNow, supplyRec_okRecorded, slot, conditionOf]
  cases (supplyRec s p).present <;> cases (slotRec s (slotOfPsu p)).status <;> simp

theorem okRecorded_capacity : (supplyNow (okRecorded p a s) p).capacity
    = if (supplyNow (okRecorded p a s) p).condition = .ok then classCapacity s p else 0 := by
  have slot := (okRecorded_keeps p a s).slotRec_eq (slotOfPsu p)
  simp only [supplyNow, classCapacity, slot]

end

/-- Settles O16: the table of R47 gives the record, and the evaluation and the hold follow what changed of it. -/
theorem supplyConditionFollowsItsInputs : Obligations.SupplyConditionFollowsItsInputs := by
  refine ⟨fun p a s run => ?_, fun p a s reset => ?_⟩
  · have result : exec (.psuOkChange p a) s = .next (supplyChanged p (okRecorded p a s)) := by
      simp [exec, execPsuOkChange, psuOkChanged, isRunning, run, okRecorded]
    have written := okRecorded_keeps p a s
    have pins : (okRecorded p a s).pins = { s.pins with psuOk := Bank.put s.pins.psuOk p a } := rfl
    have records := supplyRec_okRecorded p a s
    have now := supplyNow_okRecorded p a s
    have condition := okRecorded_condition p a s
    have capacity := okRecorded_capacity p a s
    generalize okRecorded p a s = u at *
    have changed := supplyChanged_keeps p u
    have own : supplyRec (supplyChanged p u) p = supplyNow u p := by rw [supplyRec_supplyChanged, if_pos rfl]
    have wasCondition : (supplyRec u p).condition = (supplyRec s p).condition := by rw [records, if_pos rfl]
    have wasCapacity : (supplyRec u p).capacity = (supplyRec s p).capacity := by rw [records, if_pos rfl]
    have hold : u.pbu.hold = s.pbu.hold := (written .hold (by decide)).1
    have ends : ((supplyRec (supplyChanged p u) p).condition ≠ (supplyRec s p).condition ∧ s.pbu.hold = true
        ∧ ∀ q, (supplyRec (supplyChanged p u) q).condition ≠ .pending) ↔ endsHold p u := by
      simp only [endsHold, own, supplyRec_supplyChanged, supplyRec_supplyCounted, wasCondition, hold]
    have kept : EmergencyKept s u := .of_keeps written
    have seq : Part.sequencer.same s u := written .sequencer (by decide)
    obtain ⟨current, resolved, stands⟩ := supplyChanged_evaluated p u
    have reported : Reported [2, 3, 7] s (supplyChanged p u) := (Reported.of_keeps written).trans (supplyChanged_reported p u)
    refine ⟨_, result, (changed .pins (by decide)).trans pins, ?_, own ▸ condition, own ▸ capacity, ?_, ?_, fun q hq => ?_,
      fun b => (sameBayRecord.of_eq (written.bayRec_eq b)).trans (supplyChanged_bays p u b), reported.flags,
      reported.alerts, (written.within (l := [.pins, .supplies, .hold] ++ budgetParts)).and changed⟩
    · rw [own]; exact now
    · rw [own, ← wasCapacity]; exact current
    · by_cases h : endsHold p u
      · rw [if_pos (ends.mpr h)]
        exact (resolved h).before kept seq.1
      · rw [if_neg (mt ends.mp h), own, ← wasCapacity]
        obtain ⟨stood, evaluated⟩ := stands h
        refine ⟨Part.same_trans .hold (written .hold (by decide)) stood, fun moved => (evaluated moved).before kept hold seq,
          fun same => ?_⟩
        rw [supplyChanged_holds h, supplyCounted, if_pos same.symm]
        exact written.and (recomputeSupply_keeps p u)
    · rw [supplyRec_supplyChanged, if_neg hq, records, if_neg hq]
  · simp [exec, execPsuOkChange, psuOkChanged, isRunning, reset, updPins]

end Sys2Proof.Machine
end

section
/-! SUPPORT. The power policy and the admission gate (O38). -/

namespace Sys2Proof.Machine

/-! ### The policy (R55) -/

/-- The policy has been stored and evaluated (R54, R55). -/
structure PowerPolicySet (policy : PowerPolicy) (s t : State) : Prop where
  policy : t.pbu.policy = policy
  evaluated : EvaluatedFor .policy s t
  quiet : s.pbu.emg.phase = .none → s.pbu.hold = true ∨ overBudget t = false → Part.flags.same s t ∧ Part.bays.same s t
  bays : ∀ b, sameBayRecord (bayRec s b) (bayRec t b)
  reported : Reported [2, 3, 7] s t
  frame : KeepsAllBut (.powerPolicy :: budgetParts) s t

theorem evaluate_policySet (policy : PowerPolicy) (s : State) :
    PowerPolicySet policy s (evaluate .policy (updPbu (fun p => { p with policy := policy }) s)) := by
  have written := updPbu_policy_keeps (fun _ => policy) s
  have stored : (updPbu (fun p => { p with policy := policy }) s).pbu.policy = policy := rfl
  generalize updPbu (fun p => { p with policy := policy }) s = u at *
  have frame := evaluate_keeps .policy u
  have emg : u.pbu.emg = s.pbu.emg := written .emergency (by decide)
  have hold : u.pbu.hold = s.pbu.hold := (written .hold (by decide)).1
  constructor
  case policy => exact Eq.trans (frame .powerPolicy (by decide)) stored
  case evaluated =>
    exact (evaluate_evaluatedFor .policy u).before (.of_keeps written) hold (written .sequencer (by decide))
  case quiet =>
    intro phase quiet
    have stood := evaluate_quiet (emg ▸ phase) (hold ▸ quiet)
    exact ⟨Part.same_trans .flags (written .flags (by decide)) (stood .flags (by decide)),
      Part.same_trans .bays (written .bays (by decide)) (stood .bays (by decide))⟩
  case bays => exact fun b => (sameBayRecord.of_eq (written.bayRec_eq b)).trans (evaluate_bays _ u b)
  case reported => exact (Reported.of_keeps written).trans (evaluate_reported _ u)
  case frame => exact (written.within (l := .powerPolicy :: budgetParts)).and frame

theorem PowerPolicySet.untaken {policy : PowerPolicy} {s t : State} (h : PowerPolicySet policy (oneTaken s) t) :
    PowerPolicySet policy s (untaken s t) :=
  ⟨h.policy, h.evaluated, h.quiet, h.bays, ⟨h.reported.flags, h.reported.alerts, h.reported.target⟩, h.frame.untaken⟩

theorem asRedundancy_eq_none {n : Byte} (h : 2 < n.toNat) : asRedundancy n = none := by
  have apart (m : Byte) (hm : m.toNat ≤ 2) : n ≠ m := by rintro rfl; omega
  rw [asRedundancy, if_neg (apart 0 (by decide)), if_neg (apart 1 (by decide)), if_neg (apart 2 (by decide))]

/-! ### The gate (R57, R84) -/

/-- The gate or its copy has been written, and the head evaluated where a closed gate opened. -/
structure GateSet (g : Gate) (s t : State) : Prop where
  free : s.pbu.emg.phase = .none → t.pbu.ae = g ∧ t.pbu.ae2 = s.pbu.ae2
    ∧ (s.pbu.ae = .closed → g = .opened → s.pbu.seq = .idle → HeadEvaluated t)
    ∧ (s.pbu.ae = .opened ∨ g = .closed → Part.sequencer.same s t)
  declared : s.pbu.emg.phase ≠ .none → t.pbu.ae = s.pbu.ae ∧ t.pbu.ae2 = g ∧ Part.sequencer.same s t
  frame : KeepsAllBut [.gates, .sequencer] s t

theorem setGate_gateSet (g : Gate) (s : State) : GateSet g s (setGate g s) := by
  by_cases phase : s.pbu.emg.phase = .none
  · have written := (updPbu_ae_keeps (fun _ => g) s).within (l := [.gates, .sequencer])
    have head := evaluateHead_keeps (updPbu (fun p => { p with ae := g }) s)
    by_cases opens : s.pbu.ae = .closed ∧ g = .opened
    · have eq : setGate g s = evaluateHead (updPbu (fun p => { p with ae := g }) s) := by
        simp only [setGate, phase, opens, and_self, if_true]
      obtain ⟨ae, ae2⟩ := head .gates (by decide)
      rw [eq]
      refine ⟨fun _ => ⟨ae, ae2, fun _ _ idle => evaluateHead_evaluates _ idle, fun stays => ?_⟩,
        fun off => absurd phase off, written.and head⟩
      simp [opens] at stays
    · have eq : setGate g s = updPbu (fun p => { p with ae := g }) s := by simp only [setGate, phase, opens, if_true, if_false]
      rw [eq]
      exact ⟨fun _ => ⟨rfl, rfl, fun shut opened => absurd ⟨shut, opened⟩ opens, fun _ => ⟨rfl, rfl⟩⟩,
        fun off => absurd phase off, written⟩
  · have eq : setGate g s = updPbu (fun p => { p with ae2 := g }) s := by simp only [setGate, phase, if_false]
    rw [eq]
    exact ⟨fun none_ => absurd none_ phase, fun _ => ⟨rfl, rfl, rfl, rfl⟩, (updPbu_ae2_keeps (fun _ => g) s).within⟩

theorem GateSet.untaken {g : Gate} {s t : State} (h : GateSet g (oneTaken s) t) : GateSet g s (untaken s t) :=
  ⟨h.free, h.declared, h.frame.untaken⟩

theorem asGate_eq_none {n : Byte} (h : 1 < n.toNat) : asGate n = none := by
  have apart (m : Byte) (hm : m.toNat ≤ 1) : n ≠ m := by rintro rfl; omega
  rw [asGate, if_neg (apart 0 (by decide)), if_neg (apart 1 (by decide))]

/-- Settles O38: the policy and the gate are written, and evaluated as their rules say. -/
theorem powerPolicyAndGateSet : Obligations.PowerPolicyAndGateSet := by
  refine ⟨fun e u redundancy base gap grace stop s manager => ⟨fun r setting => ?_, fun bad => ?_⟩,
    fun e u gate s manager => ⟨fun g setting => ?_, fun bad => ?_⟩⟩
  · have carried : carryOut e (.setPowerPolicy redundancy base gap grace stop) (oneTaken s)
        = answered .ok (evaluate .policy (updPbu (fun p => { p with
            policy := storedPolicy r base.toNat gap.toNat grace.toNat stop.toNat }) (oneTaken s))) := by
      simp [carryOut, replySetPowerPolicy, named, setting]
    have set := evaluate_policySet (storedPolicy r base.toNat gap.toNat grace.toNat stop.toNat) (oneTaken s)
    have answer := manager.answers (c := .setPowerPolicy e redundancy base gap grace stop) rfl rfl rfl rfl carried
      (set.frame .svcQueue (by decide))
    obtain ⟨policy, evaluated, quiet, bays, reported, frame⟩ := set.untaken
    generalize Machine.untaken s _ = t at *
    exact ⟨t, answer, policy, evaluated, quiet, bays, reported.flags, reported.alerts, frame⟩
  · have refused := manager.badArg (c := .setPowerPolicy e redundancy base gap grace stop) rfl rfl rfl fun _ => by
      simp [carryOut, replySetPowerPolicy, named, asRedundancy_eq_none bad]
    exact refused
  · have carried : carryOut e (.setAdmission gate) (oneTaken s) = answered .ok (setGate g (oneTaken s)) := by
      simp [carryOut, replySetAdmission, named, setting]
    have set := setGate_gateSet g (oneTaken s)
    have answer := manager.answers (c := .setAdmission e gate) rfl rfl rfl rfl carried (set.frame .svcQueue (by decide))
    obtain ⟨free, declared, frame⟩ := set.untaken
    exact ⟨_, answer, free, declared, frame⟩
  · have refused := manager.badArg (c := .setAdmission e gate) rfl rfl rfl fun _ => by
      simp [carryOut, replySetAdmission, named, asGate_eq_none bad]
    exact refused

end Sys2Proof.Machine
end

section
/-! SUPPORT. The figures of the budget (O48). -/

namespace Sys2Proof.Machine

/-! ### The largest of a set -/

/-- The set takes none of a set's members before a larger one. -/
def Topmost {α : Type} (f : α → Nat) (all T : Finset α) : Prop :=
  T ⊆ all ∧ ∀ p ∈ T, ∀ q ∈ all, q ∉ T → f q ≤ f p

section
variable {α : Type} [DecidableEq α] {f : α → Nat} {all : Finset α}

/-- Whichever of equal members are taken, the largest sum to the beginning of the falling list of all. -/
theorem Topmost.sum_take {T : Finset α} (top : Topmost f all T) {l : List Nat} (sorted : l.SortedGE)
    (perm : l.Perm (all.toList.map f)) : (l.take T.card).sum = ∑ p ∈ T, f p := by
  obtain ⟨sub, top⟩ := top
  have lists : (T.toList ++ (all \ T).toList).Perm all.toList := by
    refine (List.perm_ext_iff_of_nodup ?_ all.nodup_toList).mpr fun p => ?_
    · exact T.nodup_toList.append (all \ T).nodup_toList fun p hp hq => by simp_all
    · have := @sub p
      simp only [List.mem_append, Finset.mem_toList, Finset.mem_sdiff]
      tauto
  have falling (S : Finset α) := List.perm_insertionSort (· ≥ ·) (S.toList.map f)
  have length : ((T.toList.map f).insertionSort (· ≥ ·)).length = T.card := by simp
  have split : l = (T.toList.map f).insertionSort (· ≥ ·) ++ ((all \ T).toList.map f).insertionSort (· ≥ ·) := by
    refine List.Perm.eq_of_sortedGE sorted ?_ ?_
    · refine (List.pairwise_append.mpr ⟨List.sortedGE_insertionSort.pairwise, List.sortedGE_insertionSort.pairwise,
        fun x hx y hy => ?_⟩).sortedGE
      obtain ⟨p, hp, rfl⟩ := List.mem_map.mp ((falling T).mem_iff.mp hx)
      obtain ⟨q, hq, rfl⟩ := List.mem_map.mp ((falling (all \ T)).mem_iff.mp hy)
      obtain ⟨hq, other⟩ := Finset.mem_sdiff.mp (Finset.mem_toList.mp hq)
      exact top p (Finset.mem_toList.mp hp) q hq other
    · refine (perm.trans (lists.map f).symm).trans ?_
      rw [List.map_append]
      exact ((falling T).append (falling (all \ T))).symm
  rw [split, ← length, List.take_left, (falling T).sum_eq, Finset.sum_map_toList]

/-- The largest can be taken one after the other. -/
theorem exists_topmost (f : α → Nat) (all : Finset α) (n : Nat) (h : n ≤ all.card) :
    ∃ T, T.card = n ∧ Topmost f all T := by
  induction n with
  | zero => exact ⟨∅, rfl, by simp [Topmost]⟩
  | succ n ih =>
    obtain ⟨T, card, sub, top⟩ := ih (by omega)
    have rest : (all \ T).Nonempty := by
      rw [← Finset.card_pos, Finset.card_sdiff_of_subset sub]
      omega
    obtain ⟨m, hm, largest⟩ := Finset.exists_max_image (all \ T) f rest
    obtain ⟨hm, fresh⟩ := Finset.mem_sdiff.mp hm
    refine ⟨insert m T, by rw [Finset.card_insert_of_notMem fresh, card], Finset.insert_subset hm sub,
      fun p hp q hq other => ?_⟩
    obtain ⟨-, outside⟩ := not_or.mp (mt Finset.mem_insert.mpr other)
    rcases Finset.mem_insert.mp hp with rfl | hp
    · exact largest q (Finset.mem_sdiff.mpr ⟨hq, outside⟩)
    · exact top p hp q hq outside

end

/-! ### The supplies in OK (R51) -/

/-- The supplies whose condition is OK. -/
def okSupplies (s : State) : Finset Psu := Finset.univ.filter fun p => (supplyRec s p).condition = .ok

theorem mem_okSupplies (s : State) (p : Psu) : p ∈ okSupplies s ↔ (supplyRec s p).condition = .ok := by
  simp [okSupplies]

theorem okCapacities_perm (s : State) :
    (okCapacities s).Perm ((okSupplies s).toList.map fun p => (supplyRec s p).capacity) := by
  have listed : ((List.finRange 4).filter fun p => (supplyRec s p).condition = .ok).Perm (okSupplies s).toList :=
    (List.perm_ext_iff_of_nodup ((List.nodup_finRange 4).filter _) (okSupplies s).nodup_toList).mpr fun p => by
      simp [okSupplies]
  have read (l : List Psu) : (l.filterMap fun p =>
        if (supplyRec s p).condition = .ok then some (supplyRec s p).capacity else none)
      = (l.filter fun p => (supplyRec s p).condition = .ok).map fun p => (supplyRec s p).capacity := by
    induction l with
    | nil => rfl
    | cons p rest ih => by_cases h : (supplyRec s p).condition = .ok <;> simp [h, ih]
  refine (List.perm_insertionSort _ _).trans ?_
  rw [read]
  exact listed.map _

theorem okCapacities_sorted (s : State) : (okCapacities s).SortedGE := List.sortedGE_insertionSort

theorem okCapacities_length (s : State) : (okCapacities s).length = (okSupplies s).card := by
  rw [(okCapacities_perm s).length_eq, List.length_map, Finset.length_toList]

theorem okCapacities_sum (s : State) : (okCapacities s).sum = ∑ p ∈ okSupplies s, (supplyRec s p).capacity := by
  rw [(okCapacities_perm s).sum_eq, Finset.sum_map_toList]

theorem countFin_ok (s : State) : (countFin 4 fun p => decide ((supplyRec s p).condition = .ok)) = (okSupplies s).card := by
  rw [countFin, sumFin_eq_sum, okSupplies, Finset.card_filter]
  simp

/-- What the policy holds in reserve (R51). -/
theorem reserve_eq {s : State} {T : Finset Psu} (top : Topmost (fun p => (supplyRec s p).capacity) (okSupplies s) T)
    (count : reserveCount s.pbu.policy.redundancy (okSupplies s).card = T.card) :
    (figuresOf s).reserve = ∑ p ∈ T, (supplyRec s p).capacity := by
  rw [← top.sum_take (okCapacities_sorted s) (okCapacities_perm s), ← count, ← okCapacities_length]
  rfl

/-! ### The allowances (R52, R53) -/

theorem standbyOf_eq (s : State) (b : Bay) : standbyOf s b
    = if bayState s b = .empty ∨ bayState s b = .maint then 0
      else if (slotRec s (slotOfBay b)).status = .complete then
        match (slotRec s (slotOfBay b)).ident.map (·.data) with
        | some (ClassData.bay _ standby) => standby
        | _ => 25
      else 25 := by
  unfold standbyOf
  generalize (slotRec s (slotOfBay b)).ident = ident
  rcases ident with _ | ⟨word, signature, data⟩
  · cases bayState s b <;> simp [isComplete, Config.defaultStandby]
  · cases data <;> cases bayState s b <;> simp [isComplete, Config.defaultStandby]

theorem grantOf_eq (s : State) (b : Bay) : grantOf s b
    = if bayState s b = .ramping ∨ bayState s b = .poweredOn ∨ bayState s b = .stopping then (bayRec s b).grant else 0 := by
  unfold grantOf
  cases bayState s b <;> simp [hasMain]

theorem fanPowerOf_eq (s : State) (f : Fan) : fanPowerOf s f
    = if (fanRec s f).state = .absent then 0
      else if (slotRec s (slotOfFan f)).status = .complete then
        match (slotRec s (slotOfFan f)).ident.map (·.data) with
        | some (ClassData.fan _ power _) => power
        | _ => 60
      else 60 := by
  unfold fanPowerOf
  generalize (slotRec s (slotOfFan f)).ident = ident
  rcases ident with _ | ⟨word, signature, data⟩
  · cases (fanRec s f).state <;> simp [isComplete, Config.defaultFanPower]
  · cases data <;> cases (fanRec s f).state <;> simp [isComplete, Config.defaultFanPower]

/-- Settles O48: the capacities in falling order give the sum and the reserve, and each part of the allocated power is
a sum over its records. -/
theorem availablePower : Obligations.AvailablePower := by
  refine ⟨fun s => ?_, rfl⟩
  intro ok capacity k largest figures
  have count : k = (okSupplies s).card := countFin_ok s
  have top {n : Nat} {T : Finset Psu} (h : largest n T) : Topmost capacity (okSupplies s) T := by
    obtain ⟨-, sub, top⟩ := h
    exact ⟨fun p hp => (mem_okSupplies s p).mpr (sub p hp),
      fun p hp q hq other => top p hp q ((mem_okSupplies s q).mp hq) other⟩
  have sum : figures.supplySum = ∑ p ∈ okSupplies s, capacity p := okCapacities_sum s
  refine ⟨?_, (okCapacities_length s).trans count.symm, rfl, ?_, fun none_ => ?_, fun one => ⟨fun zero => ?_, fun T h => ?_⟩,
    fun half T h => ?_, fun n hn => ?_, fun bound => ?_, rfl, rfl, ?_, ?_, ?_⟩
  · rw [sum, sumFin_eq_sum, okSupplies, Finset.sum_filter]
  · exact (List.take_sublist _ (okCapacities s)).sum_le_sum fun _ _ => Nat.zero_le _
  · exact reserve_eq (T := ∅) (by simp [Topmost]) (by rw [none_]; rfl)
  · have nothing : okCapacities s = [] := List.length_eq_zero_iff.mp (by rw [okCapacities_length, ← count, zero])
    simp [figures, figuresOf, nothing]
  · exact reserve_eq (top h) (by rw [one, h.1]; rfl)
  · exact reserve_eq (top h) (by rw [half, h.1, count]; rfl)
  · obtain ⟨T, card, sub, first⟩ := exists_topmost capacity (okSupplies s) n (count ▸ hn)
    exact ⟨T, card, fun p hp => (mem_okSupplies s p).mp (sub hp),
      fun p hp q hq other => first p hp q ((mem_okSupplies s q).mpr hq) other⟩
  · have whole : figures.supplySum ≤ 20000 := by
      calc figures.supplySum = ∑ p ∈ okSupplies s, capacity p := sum
        _ ≤ (okSupplies s).card • 5000 := Finset.sum_le_card_nsmul _ _ _ fun p _ => bound p
        _ ≤ 4 • 5000 := Nat.mul_le_mul_right _ (Finset.card_le_univ (okSupplies s))
    exact (Nat.sub_le _ _).trans whole
  · exact sumFin_congr (standbyOf_eq s)
  · exact sumFin_congr (grantOf_eq s)
  · exact sumFin_congr (fanPowerOf_eq s)

end Sys2Proof.Machine
end

section
/-! SUPPORT. The read requests and the bodies that they answer (O30). -/

namespace Sys2Proof.Machine

/-! ### The encodings of R184 -/

@[simp] theorem oneByte_eq : oneByte = encode8 := rfl

@[simp] theorem twoBytes_eq : twoBytes = encode16 := rfl

@[simp] theorem fourBytes_eq : fourBytes = encode32 := rfl

@[simp] theorem twoValued_eq (first : Bool) : twoValued first = encodeFirst first := rfl

@[simp] theorem timerByte_eq (t : Timer) : timerByte t = encodeTimer t := by cases t <;> rfl

@[simp] theorem orNone_eq (n : Option Nat) : orNone n = encodeOrNone n := by cases n <;> rfl

@[simp] theorem optionalField_eq (width : Nat) (field : Option (List Byte)) :
    optionalField width field = encodeOptional width field := by cases field <;> rfl

@[simp] theorem countedList_eq (entries : List (List Byte)) : countedList entries = encodeList entries := rfl

@[simp] theorem classAnswer_eq (d : ClassData) : classAnswer d = classBytes d := by cases d <;> rfl

/-! ### Named values, by their position in the list of their rule (R184) -/

@[simp] theorem positionIn_bayState (x : BayState) :
    positionIn [.empty, .detected, .identifying, .standby, .waitPower, .ramping, .poweredOn, .stopping, .fault,
      .maint] x = encode8 (bayStateByte x) := by cases x <;> rfl

@[simp] theorem positionIn_idStatus (x : IdStatus) :
    positionIn [.none, .scanning, .complete, .unidentified] x = encode8 (idStatusByte x) := by cases x <;> rfl

@[simp] theorem idxOf_idSource (x : IdSource) : [IdSource.line, .announce].idxOf x = idSourceByte x := by
  cases x <;> rfl

@[simp] theorem positionIn_scanStage (x : ScanStage) :
    positionIn [.idle, .queued, .inFlight, .retryWait] x = encode8 (scanStageByte x) := by cases x <;> rfl

@[simp] theorem idxOf_scanFailure (x : ScanFailure) :
    [ScanFailure.noAnswer, .timeout, .check, .format, .kind, .range].idxOf x = scanFailureByte x := by
  cases x <;> rfl

@[simp] theorem positionIn_condition (x : Condition) :
    positionIn [.absent, .pending, .unidentified, .notOk, .ok] x = encode8 (conditionByte x) := by cases x <;> rfl

@[simp] theorem positionIn_redundancy (x : Redundancy) :
    positionIn [.none, .one, .half] x = encode8 (redundancyByte x) := by cases x <;> rfl

@[simp] theorem positionIn_gate (g : Gate) : positionIn [.opened, .closed] g = encodeFirst (g == .opened) := by
  cases g <;> rfl

@[simp] theorem positionIn_phase (x : EmgPhase) :
    positionIn [.none, .grace, .shedding, .exhausted] x = encode8 (phaseByte x) := by cases x <;> rfl

@[simp] theorem positionIn_zoneMode (x : ZoneMode) :
    positionIn [.disabled, .auto, .forced] x = encode8 (zoneModeByte x) := by cases x <;> rfl

@[simp] theorem positionIn_airflow (x : Airflow) : positionIn [.normal, .noAirflow] x = encode8 (airflowByte x) := by
  cases x <;> rfl

@[simp] theorem positionIn_fanState (x : FanState) :
    positionIn [.absent, .spinup, .running, .failed] x = encode8 (fanStateByte x) := by cases x <;> rfl

@[simp] theorem positionIn_resetCause (x : ResetCause) :
    positionIn [.powerOn, .resetLine, .softReset] x = encode8 (resetCauseByte x) := by cases x <;> rfl

/-! ### Bays, slots and the identification of the part -/

theorem readBayBody_eq (s : State) (b : Bay) : readBayBody s b = bayAnswer s b := by
  unfold readBayBody bayBytes thermalBytes windowBytes bayAnswer
  dsimp only
  simp

/-- The kind of a slot, by its number (R28). -/
theorem slotKind_eq (k : Slot) : slotKind k = if k.val < 16 then .bay else if k.val < 20 then .psu else .fan := by
  unfold slotKind slotOwner
  split_ifs <;> rfl

theorem slotKindByte_eq (k : Slot) :
    slotKindByte (slotKind k) = if k.val < 16 then 0 else if k.val < 20 then 1 else 2 := by
  rw [slotKind_eq]
  split_ifs <;> rfl

theorem classWidth_eq (k : Slot) :
    classWidth (slotKind k) = if k.val < 16 then 3 else if k.val < 20 then 2 else 4 := by
  rw [slotKind_eq]
  split_ifs <;> rfl

theorem readSlotBody_eq (s : State) (k : Slot) : readSlotBody s k = slotAnswer s k := by
  simp [readSlotBody, slotAnswer, slotKindByte_eq, classWidth_eq]

theorem readOwnBody_eq (s : State) (b : Bay) :
    readOwnBody s b = bayAnswer s b ++ slotAnswer s (slotOfBay b) := by
  rw [readOwnBody, readBayBody_eq, readSlotBody_eq]

theorem identifyBody_eq (s : State) : identifyBody s = partAnswer s := by
  have part : encode16 Config.partCode ++ encode8 Config.partRevision = [0x16, 0x20, 1] := by decide
  simp [identifyBody, partAnswer, part]

/-! ### Power, zones and fans -/

theorem readPowerBody_eq (s : State) : readPowerBody s = powerAnswer s := by
  unfold readPowerBody supplyBytes powerAnswer
  dsimp only
  simp only [List.flatMap, oneByte_eq, twoBytes_eq, twoValued_eq, orNone_eq, countedList_eq, positionIn_redundancy,
    positionIn_gate, positionIn_phase, positionIn_condition]
  cases s.pbu.seq <;> rfl

theorem readZoneBody_eq (s : State) (z : Zone) : readZoneBody s z = zoneAnswer s z := by
  simp [readZoneBody, zoneAnswer]

theorem readFanBody_eq (s : State) (f : Fan) : readFanBody s f = fanAnswer s f := by
  simp [readFanBody, fanAnswer, fanValues, isComplete]

/-! ### Uplinks, queues and stations -/

/-- The selection of a bay names its preferred uplink, or the other one where that is not usable (R149). -/
theorem selectedUplink_eq_some_iff (s : State) (b : Bay) (u : Uplink) :
    selectedUplink s b = some u
      ↔ usable s u = true ∧ ((bayRec s b).prefUplink = u ∨ usable s (bayRec s b).prefUplink = false) := by
  unfold selectedUplink
  generalize (bayRec s b).prefUplink = p
  by_cases same : p = u
  · subst same
    have other : otherUplink p ≠ p := by revert p; decide
    by_cases up : usable s p = true <;> simp [up, other]
  · have other : otherUplink p = u := by revert p u; decide
    by_cases up : usable s p = true <;> simp [up, same, other]

theorem readUplinkBody_eq (s : State) (u : Uplink) : readUplinkBody s u = uplinkAnswer s u := by
  have bays : baysSelecting s u = (List.finRange 16).filter fun b =>
      bayState s b = .poweredOn ∧ usable s u = true
        ∧ ((bayRec s b).prefUplink = u ∨ usable s (bayRec s b).prefUplink = false) :=
    List.filter_congr fun b _ => by
      rw [Bool.eq_iff_iff]
      simp [selectedUplink_eq_some_iff]
  rw [readUplinkBody, bays]
  rfl

theorem readQueueBody_egress (s : State) (p : Port) : readQueueBody s (.egress p) = egressAnswer s p := rfl

/-- The indexes that READ_STATION returns, counted from the first one (R145). -/
theorem stationIndexes_eq (first count : Nat) :
    stationIndexes first count
      = (List.range (min (max 1 (min 16 count)) (1024 - first))).map fun i => first + i := by
  have fits (n m : Nat) : (List.range n).filter (fun i => decide (first + i < first + m)) = List.range (min n m) := by
    induction n with
    | zero => simp
    | succ n ih =>
      rw [List.range_succ, List.filter_append, ih]
      by_cases below : n < m
      · simp [below, List.range_succ, Nat.min_eq_left below.le]
      · simp [below, Nat.min_eq_right (Nat.le_of_not_lt below),
          Nat.min_eq_right (Nat.le_succ_of_le (Nat.le_of_not_lt below))]
  rw [← fits, stationIndexes, List.range'_eq_map_range, List.filter_map]
  refine congrArg (List.map _) (List.filter_congr fun i _ => ?_)
  have same : first + i < Config.stationPlaces ↔ first + i < first + (1024 - first) := by
    simp only [Config.stationPlaces]
    omega
  simp [same]

theorem readStationBody_eq (s : State) (first count : Nat) :
    readStationBody s first count = stationAnswer s first count := by
  have found (i : Nat) : s.stb.places.find? (fun p => p.index == i) = s.stb.places.find? (fun p => p.index = i) :=
    congrArg (List.find? · _) (funext fun p => beq_eq_decide ..)
  unfold readStationBody stationAnswer
  dsimp only
  rw [stationIndexes_eq, List.map_map, countedList_eq]
  refine congrArg (fun l => encodeList l ++ _ ++ _ ++ _) (List.map_congr_left fun i _ => ?_)
  rw [Function.comp, placeBytes, found]
  cases s.stb.places.find? (fun p => p.index = first + i) with
  | none => simp [encodeFirst]
  | some p => cases kind : p.entry.kind <;> simp [encodeFirst, encode8, byteOf, sixBytes_eq, dormant, kind]

/-! ### Events -/

theorem readEventsBody_eq (s : State) : readEventsBody s = eventsAnswer s := by
  have records : ((List.finRange 10).filterMap (reportedCause s)).map eventRecord
      = (List.finRange 10).filterMap fun c =>
        if (flagRec s c).raised = true ∧ Bank.read s.sve.unmasked c = true then (flagRec s c).cause.map recordOf
        else none := by
    rw [List.map_filterMap, funext eventRecord_eq]
    refine List.filterMap_congr fun c _ => ?_
    simp only [reportedCause, Bool.and_eq_true]
    split_ifs <;> rfl
  rw [readEventsBody, records]
  simp [eventsAnswer, sixBytes_eq]

/-! ### The answer of a read (R167, R168) -/

theorem respond_result (e : Envelope) (code : Nat) (body : List Byte) (s : State) :
    respond e code (result body s) = offer e.arrival (responseTo e code 0 body s) s := by
  rw [show 0 = statusCode .ok from rfl, ← responseCopy_eq]
  rfl

section
variable {c : Instr} {e : Envelope} {r : Request} {s : State} {body : List Byte}

/-- A request whose port is open and which reads `body` answers OK with it, and leaves the state. -/
theorem answers_of_result (command : c.request? = some (e, r)) (wf : r.wellFormed = true) (free : ServiceFree s)
    (port : PortOpen e.arrival s) (answer : reply e r (oneTaken s) = result body (oneTaken s)) :
    Answers c s s e (requestCode r) 0 body := by
  rw [Answers, exec_free command wf free port, serve, portRefuses_oneTaken, portRefuses_of_open port,
    if_neg (by simp), answer, respond_result]

variable (command : c.request? = some (e, r)) (wf : r.wellFormed = true) (names : namesExist r = true)
include command wf names

/-- A manager's read (R151, R166, R168). -/
theorem FromManager.reads {u : Uplink} (manager : FromManager e u s) (code : bayRequestCode (requestCode r) = false)
    (carried : carryOut e r (oneTaken s) = result body (oneTaken s)) : Answers c s s e (requestCode r) 0 body := by
  obtain ⟨free, arrival, port⟩ := manager
  refine answers_of_result command wf free (arrival ▸ port) ?_
  rw [reply_carriedOut _ names, carried]
  rw [arrival, hasRights, code]
  rfl

/-- A bay's read (R21, R166, R168). -/
theorem FromBay.reads {b : Bay} (sender : FromBay e b s) (code : bayRequestCode (requestCode r) = true)
    (carried : carryOut e r (oneTaken s) = result body (oneTaken s)) : Answers c s s e (requestCode r) 0 body := by
  obtain ⟨free, arrival, port⟩ := sender
  refine answers_of_result command wf free (arrival ▸ port) ?_
  rw [reply_carriedOut _ names, carried]
  rw [arrival, hasRights, code]

end

/-! ### Names of fans and queues (R184) -/

@[simp] theorem asFan_byteOf (f : Fan) : asFan (byteOf f.val) = some f := by
  simp [asFan, byteOf_toNat (n := f.val) (by omega)]

@[simp] theorem asQueue_bay (b : Bay) : asQueue (byteOf b.val) = some (.egress (.bay b)) := by
  simp [asQueue, byteOf_toNat (n := b.val) (by omega)]

@[simp] theorem asQueue_uplink (u : Uplink) : asQueue (byteOf (16 + u.val)) = some (.egress (.uplink u)) := by
  revert u; decide

/-- The service input queue stands empty while its only frame is served, which is counted (R155, R157). -/
theorem readQueueBody_svc {s : State} (free : ServiceFree s) : readQueueBody (oneTaken s) .svc
    = queueAnswer s 0 0 64 (min (s.fbm.svc.enqueued + 1) 4294967295) s.fbm.svc.dropped false := by
  obtain ⟨-, -, frames, held, -⟩ := free
  simp [readQueueBody, queueAnswer, oneTaken, frames, held, Config.svcQuota]

/-- Settles O30: every read is carried out with the body of its record, which the taking of the frame changes in
the counter of the service input queue alone. -/
theorem readsAnswerTheirRecords : Obligations.ReadsAnswerTheirRecords := by
  refine ⟨fun e u s manager => ⟨fun b => ?_, fun k => ?_, ?_, fun z => ?_, fun f => ?_, fun v => ?_, fun b => ?_,
    fun v => ?_, ?_, ?_, ?_⟩, fun e u first count s manager => ⟨fun within => ?_, fun beyond => ?_⟩,
    fun e b s sender => ?_⟩
  · have answer := manager.reads (c := .readBay e (byteOf b.val)) (body := bayAnswer s b) rfl rfl
      (by simp [namesExist]) rfl (by rw [carryOut, replyReadBay, asBay_byteOf, named, readBayBody_eq]; rfl)
    exact answer
  · have answer := manager.reads (c := .readSlot e (byteOf k.val)) (body := slotAnswer s k) rfl rfl
      (by simp [namesExist]) rfl (by rw [carryOut, replyReadSlot, asSlot_byteOf, named, readSlotBody_eq]; rfl)
    exact answer
  · have answer := manager.reads (c := .readPower e) (body := powerAnswer s) rfl rfl rfl rfl
      (by rw [carryOut, replyReadPower, readPowerBody_eq]; rfl)
    exact answer
  · have answer := manager.reads (c := .readZone e (byteOf z.val)) (body := zoneAnswer s z) rfl rfl
      (by simp [namesExist]) rfl (by rw [carryOut, replyReadZone, asZone_byteOf, named, readZoneBody_eq]; rfl)
    exact answer
  · have answer := manager.reads (c := .readFan e (byteOf f.val)) (body := fanAnswer s f) rfl rfl
      (by simp [namesExist]) rfl (by rw [carryOut, replyReadFan, asFan_byteOf, named, readFanBody_eq]; rfl)
    exact answer
  · have answer := manager.reads (c := .readUplink e (byteOf v.val)) (body := uplinkAnswer s v) rfl rfl
      (by simp [namesExist]) rfl (by rw [carryOut, replyReadUplink, asUplink_byteOf, named, readUplinkBody_eq]; rfl)
    exact answer
  · have answer := manager.reads (c := .readQueue e (byteOf b.val)) (body := egressAnswer s (.bay b)) rfl rfl
      (by simp [namesExist]) rfl (by rw [carryOut, replyReadQueue, asQueue_bay, named, readQueueBody_egress]; rfl)
    exact answer
  · have answer := manager.reads (c := .readQueue e (byteOf (16 + v.val))) (body := egressAnswer s (.uplink v)) rfl rfl
      (by simp [namesExist]) rfl (by rw [carryOut, replyReadQueue, asQueue_uplink, named, readQueueBody_egress]; rfl)
    exact answer
  · have free : ServiceFree s := manager.1
    have answer := manager.reads (c := .readQueue e 18) rfl rfl rfl rfl
      (congrArg (result · (oneTaken s)) (readQueueBody_svc free))
    exact answer
  · have answer := manager.reads (c := .readEvents e) (body := eventsAnswer s) rfl rfl rfl rfl
      (by rw [carryOut, replyReadEvents, readEventsBody_eq]; rfl)
    exact answer
  · have answer := manager.reads (c := .identifyPart e) (body := partAnswer s) rfl rfl rfl rfl
      (by rw [carryOut, replyIdentifyPart, identifyBody_eq]; rfl)
    exact answer
  · have inside : ¬Config.stationPlaces ≤ first.toNat := Nat.not_le.mpr (Nat.lt_succ_of_le within)
    have answer := manager.reads (c := .readStation e first count)
      (body := stationAnswer s first.toNat count.toNat) rfl rfl rfl rfl (by
        rw [carryOut, replyReadStation, if_neg inside, readStationBody_eq]
        rfl)
    exact answer
  · have refused := manager.badArg (c := .readStation e first count) rfl rfl rfl fun _ => by
      rw [carryOut, replyReadStation, if_pos (show Config.stationPlaces ≤ first.toNat from beyond)]
    exact refused
  · have arrival : e.arrival = .bay b := sender.2.1
    have answer := sender.reads (c := .readOwn e) (body := bayAnswer s b ++ slotAnswer s (slotOfBay b)) rfl rfl rfl rfl
      (by rw [carryOut, replyReadOwn, forArrivalBay_bay arrival, readOwnBody_eq]; rfl)
    exact answer

end Sys2Proof.Machine
end

section
/-! SUPPORT. The bay to shed (O49). -/

namespace Sys2Proof.Machine

/-! ### The order of R77's second group -/

/-- Of two bays in ON or STOPPING, the one that is shed first: by priority, then by bay number (R77). -/
def ShedBefore (s : State) (b c : Bay) : Prop :=
  (bayRec s c).priority < (bayRec s b).priority ∨ (bayRec s c).priority = (bayRec s b).priority ∧ c < b

theorem ShedBefore.asymm {s : State} {b c : Bay} (h : ShedBefore s b c) : ¬ShedBefore s c b := by
  simp only [ShedBefore, Fin.lt_def] at *
  omega

/-- A bay tried later goes first where its priority is at least as high. -/
theorem shedBefore_of_lt {s : State} {a b : Bay} (h : a < b) :
    ShedBefore s b a ↔ priorityOf s a ≤ priorityOf s b := by
  simp only [ShedBefore, priorityOf, Fin.lt_def] at *
  omega

/-- A bay tried earlier goes first where its priority is higher. -/
theorem shedBefore_of_gt {s : State} {a b : Bay} (h : a < b) :
    ShedBefore s a b ↔ priorityOf s b < priorityOf s a := by
  simp only [ShedBefore, priorityOf, Fin.lt_def] at *
  omega

theorem ShedBefore.trans {s : State} {a b c : Bay} (hab : ShedBefore s a b) (hbc : ShedBefore s b c) :
    ShedBefore s a c := by
  simp only [ShedBefore, Fin.lt_def] at *
  omega

/-- The bay in ON or STOPPING that is shed before every other such bay of the list. -/
structure FirstUp (s : State) (l : List Bay) (b : Bay) : Prop where
  mem : b ∈ l
  up : isUp (bayState s b) = true
  first : ∀ c ∈ l, isUp (bayState s c) = true → c ≠ b → ShedBefore s b c

theorem FirstUp.unique {s : State} {l : List Bay} {a b : Bay} (ha : FirstUp s l a) (hb : FirstUp s l b) : a = b := by
  by_contra other
  exact (ha.first b hb.mem hb.up (Ne.symm other)).asymm (hb.first a ha.mem ha.up other)

/-- What the tried bays have come to: the first of them to shed, or none where none is in ON or STOPPING. -/
def BestUp (s : State) (l : List Bay) : Option Bay → Prop
  | none => ∀ c ∈ l, isUp (bayState s c) = false
  | some b => FirstUp s l b

theorem BestUp.eq_some_iff {s : State} {l : List Bay} {best : Option Bay} (h : BestUp s l best) (b : Bay) :
    best = some b ↔ FirstUp s l b := by
  cases best with
  | none =>
    have off (first : FirstUp s l b) : False := Bool.false_ne_true ((h b first.mem).symm.trans first.up)
    exact ⟨nofun, fun first => (off first).elim⟩
  | some a => exact ⟨fun eq => Option.some.inj eq ▸ h, fun first => congrArg some (FirstUp.unique h first)⟩

theorem BestUp.eq_none_iff {s : State} {l : List Bay} {best : Option Bay} (h : BestUp s l best) :
    best = none ↔ ∀ c ∈ l, isUp (bayState s c) = false := by
  cases best with
  | none => exact ⟨fun _ => h, fun _ => rfl⟩
  | some a => exact ⟨nofun, fun off => absurd ((off a h.mem).symm.trans h.up) Bool.false_ne_true⟩

/-! ### The choice among the bays in ON or STOPPING -/

/-- A further bay that is not in ON or STOPPING changes nothing. -/
theorem BestUp.concat_off {s : State} {l : List Bay} {best : Option Bay} {b : Bay} (h : BestUp s l best)
    (off : isUp (bayState s b) = false) : BestUp s (l ++ [b]) best := by
  cases best with
  | none => exact List.forall_mem_append.mpr ⟨h, List.forall_mem_singleton.mpr off⟩
  | some a =>
    exact ⟨List.mem_append_left _ h.mem, h.up, List.forall_mem_append.mpr ⟨h.first, List.forall_mem_singleton.mpr
      fun up => absurd (off.symm.trans up) Bool.false_ne_true⟩⟩

/-- A further bay is the first to shed where it goes before all bays in ON or STOPPING tried so far. -/
theorem firstUp_concat_self {s : State} {l : List Bay} {b : Bay} (up : isUp (bayState s b) = true)
    (first : ∀ c ∈ l, isUp (bayState s c) = true → ShedBefore s b c) : FirstUp s (l ++ [b]) b :=
  ⟨List.mem_concat_self, up, List.forall_mem_append.mpr
    ⟨fun c hc up _ => first c hc up, List.forall_mem_singleton.mpr fun _ other => absurd rfl other⟩⟩

/-- The best of the bays tried so far stands where it goes before the further one. -/
theorem FirstUp.concat {s : State} {l : List Bay} {a b : Bay} (h : FirstUp s l a) (before : ShedBefore s a b) :
    FirstUp s (l ++ [b]) a :=
  ⟨List.mem_append_left _ h.mem, h.up,
    List.forall_mem_append.mpr ⟨h.first, List.forall_mem_singleton.mpr fun _ _ => before⟩⟩

/-- Bays are tried in rising order: each one is later than all before it. -/
theorem laterShed_bestUp {s : State} {l : List Bay} {best : Option Bay} {b : Bay} (h : BestUp s l best)
    (later : ∀ a ∈ l, a < b) : BestUp s (l ++ [b]) (laterShed s best b) := by
  unfold laterShed
  split
  next up =>
    cases best with
    | none => exact firstUp_concat_self up fun c hc upc => absurd ((h c hc).symm.trans upc) Bool.false_ne_true
    | some a =>
      have first : FirstUp s l a := h
      dsimp only
      split
      next le =>
        have before : ShedBefore s b a := (shedBefore_of_lt (later a first.mem)).mpr le
        refine firstUp_concat_self up fun c hc upc => ?_
        by_cases eq : c = a
        · exact eq ▸ before
        · exact before.trans (first.first c hc upc eq)
      next higher => exact first.concat ((shedBefore_of_gt (later a first.mem)).mpr (Nat.lt_of_not_le higher))
  next off => exact h.concat_off (Bool.eq_false_of_not_eq_true off)

theorem foldl_laterShed_bestUp (s : State) {l : List Bay} (rising : l.Pairwise (· < ·)) :
    BestUp s l (l.foldl (laterShed s) none) := by
  induction l using List.reverseRecOn with
  | nil => exact fun _ hc => absurd hc List.not_mem_nil
  | append_singleton l b ih =>
    obtain ⟨front, -, later⟩ := List.pairwise_append.mp rising
    rw [List.foldl_concat]
    exact laterShed_bestUp (ih front) fun a ha => later a ha b (List.mem_singleton_self b)

/-! ### The bay to shed -/

/-- A bay in RAMPING is chosen before all others. -/
theorem chooseShed_of_ramping {s : State} {b : Bay} (h : bayState s b = .ramping) :
    ∃ c, bayState s c = .ramping ∧ chooseShed s = some c := by
  unfold chooseShed
  split
  next c found => exact ⟨c, by simpa using List.find?_some found, rfl⟩
  next none_ => exact absurd h (by simpa using List.find?_eq_none.mp none_ b (List.mem_finRange b))

/-- Where no bay is in RAMPING, the choice is that among the bays in ON or STOPPING. -/
theorem chooseShed_bestUp {s : State} (h : ∀ c, bayState s c ≠ .ramping) :
    BestUp s (List.finRange 16) (chooseShed s) := by
  have none_ : (List.finRange 16).find? (fun b => bayState s b == .ramping) = none :=
    List.find?_eq_none.mpr fun c _ => by simpa using h c
  simp only [chooseShed, none_]
  exact foldl_laterShed_bestUp s (List.pairwise_lt_finRange 16)

/-- The sheddable states are RAMPING and the two in which a bay is up. -/
theorem hasMain_eq_false_iff (st : BayState) : hasMain st = false ↔ st ≠ .ramping ∧ isUp st = false := by
  cases st <;> simp [hasMain, isUp]

/-- Settles O49: the bay in RAMPING is found first, and the fold over the rising bays keeps the first to shed of
those tried. -/
theorem shedOrder : Obligations.ShedOrder := by
  refine ⟨fun b s law ramping => ?_, fun b s quiet => ?_, fun s => ⟨fun none_ c => ?_, fun off => ?_⟩⟩
  · obtain ⟨c, hc, chosen⟩ := chooseShed_of_ramping ramping
    have seq : Sequencer.ramp c = .ramp b := ((law c).mp hc).symm.trans ((law b).mp ramping)
    rw [chosen, Sequencer.ramp.inj seq]
  · rw [(chooseShed_bestUp quiet).eq_some_iff]
    exact ⟨fun first => ⟨first.up, fun c => first.first c (List.mem_finRange c)⟩,
      fun ⟨up, first⟩ => ⟨List.mem_finRange b, up, fun c _ => first c⟩⟩
  · have quiet (d : Bay) : bayState s d ≠ .ramping := fun ramping => by
      obtain ⟨a, -, chosen⟩ := chooseShed_of_ramping ramping
      exact absurd (none_.symm.trans chosen) nofun
    exact (hasMain_eq_false_iff _).mpr
      ⟨quiet c, (chooseShed_bestUp quiet).eq_none_iff.mp none_ c (List.mem_finRange c)⟩
  · have quiet (c : Bay) := ((hasMain_eq_false_iff _).mp (off c)).1
    exact (chooseShed_bestUp quiet).eq_none_iff.mpr fun c _ => ((hasMain_eq_false_iff _).mp (off c)).2

end Sys2Proof.Machine
end

section
/-! SUPPORT. The demand that a curve gives (O50). -/

namespace Sys2Proof.Machine

/-! ### Between two points (R99) -/

/-- The quotient rounded up is the only number whose multiple reaches the dividend by less than one divisor. -/
theorem ceilDiv_mul_bounds (a : Nat) {b : Nat} (h : 0 < b) : a ≤ ceilDiv a b * b ∧ ceilDiv a b * b < a + b := by
  have split := Nat.div_add_mod (a + (b - 1)) b
  have rest := Nat.mod_lt (a + (b - 1)) h
  rw [Nat.mul_comm] at split
  unfold ceilDiv
  omega

/-- `d` is the value at `m` of the straight line from `p` to `q`, rounded up, and lies between their duties (R99). -/
def OnSegment (p q : CurvePoint) (m d : Nat) : Prop :=
  let span : Int := (q.margin : Int) - p.margin
  let exact : Int := p.duty * span + ((q.duty : Int) - p.duty) * ((m : Int) - p.margin)
  exact ≤ d * span ∧ ((d : Int) - 1) * span < exact ∧ min p.duty q.duty ≤ d ∧ d ≤ max p.duty q.duty

/-- On a segment that rises by `rise` over `span`, the rise at `x` is rounded up. -/
theorem onSegment_rising {m d rise span x : Nat} (inside : x < span) :
    OnSegment ⟨m, d⟩ ⟨m + span, d + rise⟩ (m + x) (d + ceilDiv (rise * x) span) := by
  obtain ⟨reaches, least⟩ := ceilDiv_mul_bounds (rise * x) (Nat.zero_lt_of_lt inside)
  have bounded : ceilDiv (rise * x) span ≤ rise := by
    have below : rise * x ≤ rise * span := Nat.mul_le_mul_left rise inside.le
    have : ceilDiv (rise * x) span * span < (rise + 1) * span := by rw [Nat.add_mul]; omega
    exact Nat.le_of_lt_succ (Nat.lt_of_mul_lt_mul_right this)
  refine ⟨?_, ?_, by dsimp only; omega, by dsimp only; omega⟩ <;> push_cast <;> zify at reaches least <;> nlinarith

/-- On a segment that falls by `fall` over `span`, the fall at `x` is rounded down. -/
theorem onSegment_falling {m d fall span x : Nat} (inside : x < span) :
    OnSegment ⟨m, d + fall⟩ ⟨m + span, d⟩ (m + x) (d + fall - fall * x / span) := by
  have positive := Nat.zero_lt_of_lt inside
  have reaches := Nat.div_mul_le_self (fall * x) span
  have least := Nat.lt_div_mul_add positive (a := fall * x)
  have bounded : fall * x / span ≤ fall :=
    Nat.div_le_of_le_mul (by rw [Nat.mul_comm]; exact Nat.mul_le_mul_right fall inside.le)
  generalize fall * x / span = n at *
  refine ⟨?_, ?_, by dsimp only; omega, by dsimp only; omega⟩ <;>
    rw [Nat.cast_sub (by omega)] <;> push_cast <;> zify at reaches least <;> nlinarith

/-- The value within a segment, rising or falling (R99). -/
theorem interpolate_onSegment {p q : CurvePoint} {m : Nat} (from_ : p.margin ≤ m) (upto : m < q.margin) :
    OnSegment p q m (interpolate p q m) := by
  obtain ⟨pm, pd⟩ := p
  obtain ⟨qm, qd⟩ := q
  obtain ⟨x, rfl⟩ := Nat.exists_eq_add_of_le from_
  obtain ⟨span, rfl⟩ := Nat.exists_eq_add_of_le (from_.trans upto.le)
  have inside : x < span := Nat.lt_of_add_lt_add_left upto
  rcases Nat.le_total pd qd with rises | falls
  · obtain ⟨rise, rfl⟩ := Nat.exists_eq_add_of_le rises
    simpa [interpolate] using onSegment_rising inside
  · obtain ⟨fall, rfl⟩ := Nat.exists_eq_add_of_le falls
    by_cases level : fall = 0
    · subst level
      simpa [interpolate] using onSegment_rising (rise := 0) inside
    · simpa [interpolate, level] using onSegment_falling inside

/-- The line passes through the segment's first point. -/
theorem onSegment_first {p q : CurvePoint} (h : p.margin < q.margin) : OnSegment p q p.margin p.duty := by
  refine ⟨?_, ?_, by omega, by omega⟩ <;> zify at h <;> nlinarith

/-! ### Along a curve (R99) -/

theorem curveDemand_of_le_head {p : CurvePoint} {rest : List CurvePoint} {m : Nat} (h : m ≤ p.margin) :
    curveDemand m (p :: rest) = p.duty := by
  cases rest with
  | nil => rfl
  | cons q rest => exact if_pos h

theorem curveDemand_within {p q : CurvePoint} {rest : List CurvePoint} {m : Nat} (from_ : p.margin ≤ m)
    (upto : m < q.margin) : OnSegment p q m (curveDemand m (p :: q :: rest)) := by
  rcases Nat.eq_or_lt_of_le from_ with rfl | past
  · rw [curveDemand_of_le_head le_rfl]
    exact onSegment_first upto
  · rw [curveDemand, if_neg (Nat.not_le.mpr past), if_pos upto]
    exact interpolate_onSegment from_ upto

/-- From the second point on, the first point has no say. -/
theorem curveDemand_beyond {p q : CurvePoint} {rest : List CurvePoint} {m : Nat} (rises : p.margin < q.margin)
    (h : q.margin ≤ m) : curveDemand m (p :: q :: rest) = curveDemand m (q :: rest) := by
  rw [curveDemand, if_neg (by omega), if_neg (by omega)]

/-- Strictly ascending margins (R95). -/
abbrev MarginsAscend (curve : List CurvePoint) : Prop := curve.Pairwise fun p q => p.margin < q.margin

theorem head_margin_le {q r : CurvePoint} {rest : List CurvePoint} (h : MarginsAscend (q :: rest))
    (mem : r ∈ q :: rest) : q.margin ≤ r.margin := by
  rcases List.mem_cons.mp mem with rfl | mem
  · exact le_rfl
  · exact ((List.pairwise_cons.mp h).1 r mem).le

theorem curveDemand_of_last_le {curve : List CurvePoint} {m : Nat} (ascend : MarginsAscend curve) {p : CurvePoint}
    (last : curve.getLast? = some p) (h : p.margin ≤ m) : curveDemand m curve = p.duty := by
  induction curve with
  | nil => simp at last
  | cons q rest ih =>
    cases rest with
    | nil =>
      obtain rfl : q = p := by simpa using last
      rfl
    | cons r rest =>
      obtain ⟨first, tail⟩ := List.pairwise_cons.mp ascend
      rw [List.getLast?_cons_cons] at last
      rw [curveDemand_beyond (first r List.mem_cons_self) ((head_margin_le tail (List.mem_of_getLast? last)).trans h)]
      exact ih tail last

theorem curveDemand_onSegment {curve : List CurvePoint} {m i : Nat} (ascend : MarginsAscend curve)
    {p q : CurvePoint} (hp : curve[i]? = some p) (hq : curve[i + 1]? = some q) (from_ : p.margin ≤ m)
    (upto : m < q.margin) : OnSegment p q m (curveDemand m curve) := by
  induction curve generalizing i with
  | nil => simp at hp
  | cons a rest ih =>
    cases rest with
    | nil => simp at hq
    | cons b rest =>
      cases i with
      | zero =>
        obtain rfl : a = p := by simpa using hp
        obtain rfl : b = q := by simpa using hq
        exact curveDemand_within from_ upto
      | succ i =>
        obtain ⟨first, tail⟩ := List.pairwise_cons.mp ascend
        rw [List.getElem?_cons_succ] at hp hq
        rw [curveDemand_beyond (first b List.mem_cons_self) ((head_margin_le tail (List.mem_of_getElem? hp)).trans from_)]
        exact ih tail hp hq

/-- The demand of a bay that reports (R98). -/
theorem demandIn_reporting {s : State} {z : Zone} {b : Bay} (h : classIn s z b = some .reporting) :
    demandIn s z b = curveDemand ((thermalEntry s b).margin.getD 0) (zoneRec s z).curve := by
  rw [demandIn, h]

/-- Settles O50: the segment that holds the margin is found by passing over the points before it. -/
theorem curveDemand_holds : Obligations.CurveDemand := by
  refine ⟨fun curve m ascend => ⟨fun p first below => ?_, fun p last above => curveDemand_of_last_le ascend last above,
    fun i _ p hp q hq from_ upto => curveDemand_onSegment ascend hp hq from_ upto⟩, fun z b s reporting m margin => ?_⟩
  · obtain ⟨rest, rfl⟩ := List.head?_eq_some_iff.mp first
    exact curveDemand_of_le_head below
  · rw [demandIn_reporting reporting, margin]
    rfl

end Sys2Proof.Machine
end

section
/-! SUPPORT. Stages 3 to 5 of one zone (R109 to R113): what they leave of the zone, its fans and its bays. -/

namespace Sys2Proof.Machine

/-! ### A fan's duty (R113) -/

/-- An equal duty crosses no limit, so that the rule of a change says it too. -/
theorem setDuty_eq_dutySet (d : Nat) (r : FanRec) : setDuty d r = dutySet d r := by
  unfold setDuty dutySet
  by_cases same : d = r.duty
  · subst same
    have level : ¬(r.duty < 200 ∧ 200 ≤ r.duty ∧ (r.state = .spinup ∨ r.state = .running)) := by omega
    simp only [level, if_true, if_false]
  · simp only [same, if_false, Config.judgedDuty]
    rfl

/-- SPINUP and RUNNING: the states of a fan that turns (R110). -/
def Turning (r : FanRec) : Prop := r.state = .spinup ∨ r.state = .running

section
variable {d : Nat} {r : FanRec}

/-- A duty that rises across 200 per mille starts the spin-up of a turning fan afresh. -/
theorem dutySet_rising (h : r.duty < 200 ∧ 200 ≤ d ∧ Turning r) : dutySet d r = { r with
    duty := d, minDuty := if d = r.duty then r.minDuty else min r.minDuty d
    state := .spinup, spinup := 0, low := 0, good := 0 } := if_pos h

theorem dutySet_other (h : ¬(r.duty < 200 ∧ 200 ≤ d ∧ Turning r)) : dutySet d r = { r with
    duty := d, minDuty := if d = r.duty then r.minDuty else min r.minDuty d } := if_neg h

end

theorem dutySet_turning (d : Nat) (r : FanRec) : Turning (dutySet d r) ↔ Turning r := by
  by_cases rises : r.duty < 200 ∧ 200 ≤ d ∧ Turning r
  · rw [dutySet_rising rises]
    exact iff_of_true (.inl rfl) rises.2.2
  · rw [dutySet_other rises]
    exact Iff.rfl

@[simp] theorem dutySet_zone (d : Nat) (r : FanRec) : (dutySet d r).zone = r.zone := by
  unfold dutySet
  simp only
  split <;> rfl

/-- FAN_DRV has no say in the duty. -/
theorem followDrive_dutySet_followDrive (d : Nat) (r : FanRec) :
    followDrive (dutySet d (followDrive r)) = followDrive (dutySet d r) := by
  by_cases rises : r.duty < 200 ∧ 200 ≤ d ∧ Turning r
  · rw [dutySet_rising rises, dutySet_rising (r := followDrive r) rises]
    rfl
  · rw [dutySet_other rises, dutySet_other (r := followDrive r) rises]
    rfl

theorem followDrive_turning (r : FanRec) : Turning (followDrive r) ↔ Turning r := Iff.rfl
@[simp] theorem followDrive_idem (r : FanRec) : followDrive (followDrive r) = followDrive r := rfl
@[simp] theorem followDrive_zone (r : FanRec) : (followDrive r).zone = r.zone := rfl
@[simp] theorem followDrive_minRun (r : FanRec) : (followDrive r).minRun = r.minRun := rfl

/-! ### The counts M and h (R110) -/

/-- A count depends on the places that it counts only. -/
theorem countFin_congr {n : Nat} {p q : Fin n → Bool} (h : ∀ i, p i = q i) : countFin n p = countFin n q := by
  rw [funext h]

/-- Fewer places are counted where less holds. -/
theorem countFin_mono {n : Nat} {p q : Fin n → Bool} (h : ∀ i, p i = true → q i = true) :
    countFin n p ≤ countFin n q := by
  simp only [countFin, sumFin_eq_sum]
  refine Finset.sum_le_sum fun i _ => ?_
  by_cases counted : p i = true
  · simp [counted, h i counted]
  · simp [counted]

theorem fansTurning_le_fansAssigned (s : State) (z : Zone) : fansTurning s z ≤ fansAssigned s z :=
  countFin_mono fun _ h => (Bool.and_eq_true_iff.mp h).1

/-- The counts of a zone depend on each fan's zone and on whether it turns. -/
theorem fanCounts_congr {s t : State} (zones : ∀ f, (fanRec t f).zone = (fanRec s f).zone)
    (turning : ∀ f, Turning (fanRec t f) ↔ Turning (fanRec s f)) (z : Zone) :
    fansAssigned t z = fansAssigned s z ∧ fansTurning t z = fansTurning s z := by
  refine ⟨countFin_congr fun f => by rw [zones], countFin_congr fun f => ?_⟩
  have same := turning f
  unfold Turning at same
  rw [zones, Bool.eq_iff_iff]
  simp [same]

/-! ### The airflow status (R111) -/

section
variable {z : Zone} {now : Airflow} {s : State}

theorem changeAirflow_same (h : (zoneAir s z).airflow = now) : changeAirflow z now s = s := if_pos h

theorem changeAirflow_changed (h : (zoneAir s z).airflow ≠ now) : changeAirflow z now s
    = updBays (fun _ r => if r.zone = z then { r with airflowCause := now == .noAirflow } else r)
        (raise (.zoneAlarm z (now == .normal)) (updAir z (fun a => { a with airflow := now }) s)) := if_neg h

theorem changeAirflow_reported (z : Zone) (now : Airflow) (s : State) : Reported [5, 7] s (changeAirflow z now s) := by
  by_cases same : (zoneAir s z).airflow = now
  · rw [changeAirflow_same same]
    exact .refl _ s
  · rw [changeAirflow_changed same]
    exact ((Reported.of_keeps (updAir_keeps z _ s)).trans (raise_reported (.zoneAlarm z _) _)).trans
      (.of_keeps (updBays_keeps _ _))

theorem zoneAir_changeAirflow (z y : Zone) (now : Airflow) (s : State) : zoneAir (changeAirflow z now s) y
    = if y = z then { zoneAir s z with airflow := now } else zoneAir s y := by
  by_cases same : (zoneAir s z).airflow = now
  · rw [changeAirflow_same same]
    split
    · next e => subst e same; rfl
    · rfl
  · rw [changeAirflow_changed same, (updBays_keeps _ _).zoneAir_eq, (raise_keeps _ _).zoneAir_eq, zoneAir_updAir]

theorem changeAirflow_raised (h : (zoneAir s z).airflow ≠ now) :
    Raised (.zoneAlarm z (decide (now = .normal))) (changeAirflow z now s) := by
  rw [changeAirflow_changed h]
  exact (raise_raised _ _ (by simp [causeClass])).kept (Reported.of_keeps (classes := []) (updBays_keeps _ _))

theorem bayRec_changeAirflow (h : (zoneAir s z).airflow ≠ now) (b : Bay) : bayRec (changeAirflow z now s) b
    = followThrottle { bayRec s b with
        airflowCause := if (bayRec s b).zone = z then decide (now = .noAirflow) else (bayRec s b).airflowCause } := by
  rw [changeAirflow_changed h, bayRec_updBays, (raise_keeps _ _).bayRec_eq, (updAir_keeps z _ s).bayRec_eq]
  split <;> rfl

end

/-! ### One zone -/

/-- The zone's record after stages 3 and 4 (R110 to R112). -/
def drivenAir (s : State) (z : Zone) : ZoneAir :=
  let m := fansAssigned s z
  let h := fansTurning s z
  let c := compensate (zoneRec s z).target m h
  { compensated := c, applied := slew (zoneRec s z).mode (zoneAir s z).applied c (zoneRec s z).stepDown
    airflow := airflowOf m h, assigned := m, turning := h }

/-- A fan's record after stage 5 of its zone, FAN_DRV apart (R113). -/
def drivenFan (s : State) (r : FanRec) : FanRec := dutySet (fanDuty (drivenAir s r.zone).applied r.minRun) r

/-- The zone has been compensated, slewed and driven (R109). -/
structure ZoneDriven (z : Zone) (s t : State) : Prop where
  air : ∀ y, zoneAir t y = if y = z then drivenAir s z else zoneAir s y
  fans : ∀ f, fanRec t f = followDrive (if (fanRec s f).zone = z then drivenFan s (fanRec s f) else fanRec s f)
  raised : (drivenAir s z).airflow ≠ (zoneAir s z).airflow →
    Raised (.zoneAlarm z (decide ((drivenAir s z).airflow = .normal))) t
  bays : (drivenAir s z).airflow ≠ (zoneAir s z).airflow → ∀ b, bayRec t b = followThrottle { bayRec s b with
    airflowCause := if (bayRec s b).zone = z then decide ((drivenAir s z).airflow = .noAirflow)
      else (bayRec s b).airflowCause }
  quiet : (drivenAir s z).airflow = (zoneAir s z).airflow → KeepsAllBut [.air, .fans] s t
  reported : Reported [5, 7] s t
  frame : KeepsAllBut (.air :: .fans :: .bays :: reportParts) s t

/-- Stage 3's record, before the airflow status (R110). -/
def recordCompensation (z : Zone) (s : State) : State :=
  updAir z (fun a => { a with
    compensated := (drivenAir s z).compensated, assigned := fansAssigned s z, turning := fansTurning s z }) s

theorem recordCompensation_keeps (z : Zone) (s : State) : KeepsAllBut [.air] s (recordCompensation z s) :=
  updAir_keeps z _ s

theorem recordCompensation_airflow (z : Zone) (s : State) :
    (zoneAir (recordCompensation z s) z).airflow = (zoneAir s z).airflow := by simp [recordCompensation]

theorem stageCompensate_eq (z : Zone) (s : State) :
    stageCompensate z s = changeAirflow z (drivenAir s z).airflow (recordCompensation z s) := rfl

theorem stageCompensate_keeps (z : Zone) (s : State) :
    KeepsAllBut (.air :: .bays :: reportParts) s (stageCompensate z s) :=
  ((recordCompensation_keeps z s).within (l := .air :: .bays :: reportParts)).and (changeAirflow_keeps z _ _)

theorem stageSlew_keeps (z : Zone) (s : State) : KeepsAllBut [.air] s (stageSlew z s) := updAir_keeps z _ s

/-- Stages 3 and 4 settle the zone's record and leave every other zone's. -/
theorem zoneAir_stageSlew (z y : Zone) (s : State) :
    zoneAir (stageSlew z (stageCompensate z s)) y = if y = z then drivenAir s z else zoneAir s y := by
  have recorded (x : Zone) : zoneAir (stageCompensate z s) x
      = if x = z then { drivenAir s z with applied := (zoneAir s z).applied } else zoneAir s x := by
    rw [stageCompensate_eq, zoneAir_changeAirflow]
    by_cases own : x = z
    · simp [own, recordCompensation, drivenAir]
    · simp [own, recordCompensation, zoneAir_updAir]
  rw [stageSlew, zoneAir_updAir, recorded z, recorded y, (stageCompensate_keeps z s).zoneRec_eq]
  by_cases own : y = z
  · simp [own, drivenAir]
  · simp [own]

/-- Stage 5 drives the zone's fans at its applied value, and FAN_DRV follows everywhere. -/
theorem fanRec_stageDrive (z : Zone) (s : State) (f : Fan) : fanRec (stageDrive z s) f
    = followDrive (if (fanRec s f).zone = z then dutySet (fanDuty (zoneAir s z).applied (fanRec s f).minRun) (fanRec s f)
        else fanRec s f) := by
  rw [stageDrive, fanRec_updFans, setDuty_eq_dutySet]

theorem stageDrive_keeps (z : Zone) (s : State) : KeepsAllBut [.fans] s (stageDrive z s) := updFans_keeps _ s

theorem driveZone_zoneDriven (z : Zone) (s : State) : ZoneDriven z s (driveZone z s) := by
  have driven := stageDrive_keeps z (stageSlew z (stageCompensate z s))
  have slewed := stageSlew_keeps z (stageCompensate z s)
  have tail : KeepsAllBut [.air, .fans] (stageCompensate z s) (driveZone z s) :=
    (slewed.within (l := [.air, .fans])).and driven
  have status := recordCompensation_airflow z s
  constructor
  case air => exact fun y => by rw [driveZone, driven.zoneAir_eq, zoneAir_stageSlew]
  case fans =>
    intro f
    rw [driveZone, fanRec_stageDrive, slewed.fanRec_eq, (stageCompensate_keeps z s).fanRec_eq, zoneAir_stageSlew,
      if_pos rfl]
    split
    · next own => rw [drivenFan, own]
    · rfl
  case raised =>
    intro differs
    exact (changeAirflow_raised (status ▸ differs.symm)).kept (Reported.of_keeps (classes := []) tail)
  case bays =>
    intro differs b
    rw [tail.bayRec_eq, stageCompensate_eq, bayRec_changeAirflow (status ▸ differs.symm),
      (recordCompensation_keeps z s).bayRec_eq]
  case quiet =>
    intro same
    rw [stageCompensate_eq, changeAirflow_same (status.trans same.symm)] at tail
    exact ((recordCompensation_keeps z s).within (l := [.air, .fans])).trans tail
  case reported =>
    exact ((Reported.of_keeps (recordCompensation_keeps z s)).trans (changeAirflow_reported z _ _)).trans (.of_keeps tail)
  case frame => exact driveZone_keeps z s

/-- What stages 3 and 4 make of a zone depends on the zone's own records and on the fans' zones and turning. -/
theorem drivenAir_congr {s t : State} {z : Zone} (record : zoneRec t z = zoneRec s z) (air : zoneAir t z = zoneAir s z)
    (counts : fansAssigned t z = fansAssigned s z ∧ fansTurning t z = fansTurning s z) :
    drivenAir t z = drivenAir s z := by
  simp only [drivenAir, record, air, counts.1, counts.2]

end Sys2Proof.Machine
end

section
/-! SUPPORT. Several zones driven in turn, each once (R109 to R113). -/

namespace Sys2Proof.Machine

/-- The listed zones have been driven, each once (R109). FAN_DRV follows with the last. -/
structure ZonesDriven (done : List Zone) (s t : State) : Prop where
  air : ∀ z, zoneAir t z = if z ∈ done then drivenAir s z else zoneAir s z
  fans : ∀ f, followDrive (fanRec t f)
    = followDrive (if (fanRec s f).zone ∈ done then drivenFan s (fanRec s f) else fanRec s f)
  raised : (∃ z, (zoneAir t z).airflow ≠ (zoneAir s z).airflow) → ∃ z, (zoneAir t z).airflow ≠ (zoneAir s z).airflow
    ∧ Raised (.zoneAlarm z (decide ((zoneAir t z).airflow = .normal))) t
  bays : ∀ b, bayRec t b = { bayRec s b with
    thr := (bayRec t b).thr
    airflowCause :=
      if (zoneAir t (bayRec s b).zone).airflow = (zoneAir s (bayRec s b).zone).airflow then (bayRec s b).airflowCause
      else decide ((zoneAir t (bayRec s b).zone).airflow = .noAirflow) }
  quiet : (∀ z, (zoneAir t z).airflow = (zoneAir s z).airflow) → KeepsAllBut [.air, .fans] s t
  reported : Reported [5, 7] s t
  frame : KeepsAllBut (.air :: .fans :: .bays :: reportParts) s t

theorem ZonesDriven.nil (s : State) : ZonesDriven [] s s where
  air _ := rfl
  fans _ := rfl
  raised := fun ⟨_, differs⟩ => absurd rfl differs
  bays b := by rw [if_pos rfl]
  quiet _ := .refl _ s
  reported := .refl _ s
  frame := .refl _ s

section
variable {done : List Zone} {z : Zone} {s t u : State}

theorem ZonesDriven.fan_zone (h : ZonesDriven done s t) (f : Fan) : (fanRec t f).zone = (fanRec s f).zone := by
  have record := congrArg FanRec.zone (h.fans f)
  rw [followDrive_zone, followDrive_zone] at record
  rw [record]
  split <;> simp [drivenFan]

theorem ZonesDriven.fan_turning (h : ZonesDriven done s t) (f : Fan) :
    Turning (fanRec t f) ↔ Turning (fanRec s f) := by
  rw [← followDrive_turning (fanRec t f), h.fans f, followDrive_turning]
  split
  · exact dutySet_turning _ _
  · exact Iff.rfl

theorem ZonesDriven.drivenAir_eq (h : ZonesDriven done s t) (fresh : z ∉ done) : drivenAir t z = drivenAir s z :=
  drivenAir_congr (h.frame.zoneRec_eq z) (by rw [h.air, if_neg fresh]) (fanCounts_congr h.fan_zone h.fan_turning z)

/-- A fan that differs by FAN_DRV alone is driven alike. -/
theorem followDrive_drivenFan {r r' : FanRec} (same : followDrive r' = followDrive r)
    (air : drivenAir t r.zone = drivenAir s r.zone) : followDrive (drivenFan t r') = followDrive (drivenFan s r) := by
  have zone := congrArg FanRec.zone same
  have minRun := congrArg FanRec.minRun same
  rw [followDrive_zone, followDrive_zone] at zone
  rw [followDrive_minRun, followDrive_minRun] at minRun
  rw [drivenFan, drivenFan, zone, minRun, air, ← followDrive_dutySet_followDrive, same, followDrive_dutySet_followDrive]

/-- A bay's airflow cause and BAY_THR under one more zone whose status changes (R20, R111). -/
theorem ZonesDriven.bays_changed (h : ZonesDriven done s t) (fresh : z ∉ done) (k : ZoneDriven z t u)
    (changed : (drivenAir t z).airflow ≠ (zoneAir t z).airflow) (b : Bay) : bayRec u b = { bayRec s b with
      thr := (bayRec u b).thr
      airflowCause :=
        if (zoneAir u (bayRec s b).zone).airflow = (zoneAir s (bayRec s b).zone).airflow then (bayRec s b).airflowCause
        else decide ((zoneAir u (bayRec s b).zone).airflow = .noAirflow) } := by
  have before : zoneAir t z = zoneAir s z := by rw [h.air, if_neg fresh]
  have zone : (bayRec t b).zone = (bayRec s b).zone := by rw [h.bays b]
  have now := k.bays changed b
  rw [zone] at now
  rw [now, k.air]
  by_cases own : (bayRec s b).zone = z
  · rw [before] at changed
    rw [if_pos own, if_pos own, own, if_neg changed, h.bays b]
    rfl
  · rw [if_neg own, if_neg own]
    rw [h.bays b]
    rfl

/-- One more zone is driven: it finds its own record and its fans' states as they were at first. -/
theorem ZonesDriven.cons (h : ZonesDriven done s t) (fresh : z ∉ done) (k : ZoneDriven z t u) :
    ZonesDriven (z :: done) s u := by
  have own := h.drivenAir_eq fresh
  have before : zoneAir t z = zoneAir s z := by rw [h.air, if_neg fresh]
  have after : zoneAir u z = drivenAir t z := by rw [k.air, if_pos rfl]
  have others (y : Zone) (other : y ≠ z) : zoneAir u y = zoneAir t y := by rw [k.air, if_neg other]
  have airflows (stands : (drivenAir t z).airflow = (zoneAir t z).airflow) (y : Zone) :
      (zoneAir u y).airflow = (zoneAir t y).airflow := by
    by_cases e : y = z
    · rw [e, after, stands]
    · rw [others y e]
  constructor
  case air =>
    intro y
    by_cases e : y = z
    · simp [e, after, own]
    · simp [others y e, h.air, e]
  case fans =>
    intro f
    have record := h.fans f
    rw [k.fans, followDrive_idem, h.fan_zone]
    by_cases e : (fanRec s f).zone = z
    · rw [if_neg (e ▸ fresh)] at record
      rw [if_pos e, if_pos (by simp [e])]
      exact followDrive_drivenFan record (e ▸ own)
    · rw [if_neg e, record]
      simp [e]
  case raised =>
    rintro ⟨y, differs⟩
    by_cases stands : (drivenAir t z).airflow = (zoneAir t z).airflow
    · rw [airflows stands] at differs
      obtain ⟨x, change, alarm⟩ := h.raised ⟨y, differs⟩
      refine ⟨x, by rwa [airflows stands], ?_⟩
      rw [airflows stands]
      exact alarm.kept (Reported.of_keeps (classes := []) (k.quiet stands))
    · refine ⟨z, by rwa [after, ← before], ?_⟩
      rw [after]
      exact k.raised stands
  case bays =>
    intro b
    by_cases stands : (drivenAir t z).airflow = (zoneAir t z).airflow
    · rw [(k.quiet stands).bayRec_eq, airflows stands]
      exact h.bays b
    · exact h.bays_changed fresh k stands b
  case quiet =>
    intro same
    have stands : (drivenAir t z).airflow = (zoneAir t z).airflow := by rw [← after, same z, before]
    exact (h.quiet fun y => by rw [← airflows stands, same]).trans (k.quiet stands)
  case reported => exact h.reported.trans k.reported
  case frame => exact h.frame.trans k.frame

end

/-- All three zones, in the order of the control timer's expiry (log 9). -/
theorem driveAll_zonesDriven (s : State) :
    ZonesDriven [2, 1, 0] s (driveZone 2 (driveZone 1 (driveZone 0 s))) :=
  (((ZonesDriven.nil s).cons (by decide) (driveZone_zoneDriven 0 s)).cons (by decide) (driveZone_zoneDriven 1 _)).cons
    (by decide) (driveZone_zoneDriven 2 _)

/-- FAN_DRV follows every fan once a zone has been driven (R108). -/
theorem followDrive_fanRec_driveZone (z : Zone) (s : State) (f : Fan) :
    followDrive (fanRec (driveZone z s) f) = fanRec (driveZone z s) f := by
  rw [(driveZone_zoneDriven z s).fans, followDrive_idem]

end Sys2Proof.Machine
end

section
/-! SUPPORT. The control timer's expiry: every zone computed (R96 to R102) and driven (O23). -/

namespace Sys2Proof.Machine

/-! ### Classes and demands (R91, R97, R98) -/

section
variable {s : State} {z : Zone} {b : Bay}

theorem takesPart_iff : takesPart s z b = true ↔ isUp (bayState s b) = true ∧ (bayRec s b).zone = z := by
  simp [takesPart]

theorem classIn_none (h : ¬(isUp (bayState s b) = true ∧ (bayRec s b).zone = z)) : classIn s z b = none :=
  if_neg (mt takesPart_iff.mp h)

theorem classIn_some (h : isUp (bayState s b) = true ∧ (bayRec s b).zone = z) :
    classIn s z b = some (thermalClass (zoneRec s z).staleLimit (thermalEntry s b)) := if_pos (takesPart_iff.mpr h)

end

section
variable {limit : Nat} {e : ThermalEntry}

/-- A current entry that is critical or at margin 0 (R97). -/
def EntryCritical (e : ThermalEntry) : Prop := e.current = true ∧ (e.critical = true ∨ e.margin = some 0)

theorem entryCritical_iff : EntryCritical e ↔ (e.current && (e.critical || e.margin == some 0)) = true := by
  simp [EntryCritical]

theorem thermalClass_critical (h : EntryCritical e) : thermalClass limit e = .critical :=
  if_pos (entryCritical_iff.mp h)

theorem thermalClass_other (h : ¬EntryCritical e) : thermalClass limit e
    = if limit * 1000 < e.age then .stale else if e.current then .reporting else .awaiting :=
  if_neg (mt entryCritical_iff.mpr h)

end

/-- The bays of the zone that contribute: those in the first three classes (R97). -/
theorem contributingIn_eq (s : State) (z : Zone) : contributingIn s z = countFin 16 fun b =>
    decide (classIn s z b = some .critical ∨ classIn s z b = some .stale ∨ classIn s z b = some .reporting) := by
  refine countFin_congr fun b => ?_
  cases classIn s z b with
  | none => rfl
  | some c => cases c <;> rfl

theorem staleIn_eq (s : State) (z : Zone) : staleIn s z = countFin 16 fun b => decide (classIn s z b = some .stale) :=
  countFin_congr fun b => by rw [Bool.eq_iff_iff, beq_iff_eq, decide_eq_true_iff]

/-! ### The target (R100, R101) -/

theorem largestDemand_max? (s : State) (z : Zone) :
    ((List.finRange 16).map (demandIn s z)).max? = some (largestDemand s z) := by
  rw [largestDemand, List.foldl_max]
  cases h : ((List.finRange 16).map (demandIn s z)).max? with
  | none => simp at h
  | some m => simp

theorem demandIn_le_largestDemand (s : State) (z : Zone) (b : Bay) : demandIn s z b ≤ largestDemand s z :=
  (List.max?_eq_some_iff.mp (largestDemand_max? s z)).2 _ (List.mem_map_of_mem (List.mem_finRange b))

theorem largestDemand_attained (s : State) (z : Zone) : ∃ b, demandIn s z b = largestDemand s z := by
  obtain ⟨b, -, eq⟩ := List.mem_map.mp (List.max?_mem (largestDemand_max? s z))
  exact ⟨b, eq⟩

theorem anyCritical_iff (s : State) (z : Zone) : anyCritical s z = true ↔ ∃ b, classIn s z b = some .critical := by
  simp [anyCritical]

/-- The target of a zone, by its mode (R100, R101). -/
structure Targeted (s : State) (z : Zone) (target : Nat) : Prop where
  disabled : (zoneRec s z).mode = .disabled → target = 1000
  critical : (zoneRec s z).mode = .forced → (∃ b, classIn s z b = some .critical) → target = 1000
  forced : (zoneRec s z).mode = .forced → (∀ b, classIn s z b ≠ some .critical) → target = (zoneRec s z).forced
  auto : (zoneRec s z).mode = .auto → (zoneRec s z).floor ≤ target ∧ (∀ b, demandIn s z b ≤ target)
    ∧ (target = (zoneRec s z).floor ∨ ∃ b, demandIn s z b = target)

theorem zoneTarget_targeted (s : State) (z : Zone) : Targeted s z (zoneTarget s z) := by
  unfold zoneTarget
  constructor
  case disabled => exact fun mode => by rw [mode]; rfl
  case critical => exact fun mode some_ => by rw [mode]; exact if_pos ((anyCritical_iff s z).mpr some_)
  case forced =>
    exact fun mode none_ => by rw [mode]; exact if_neg (mt (anyCritical_iff s z).mp (not_exists.mpr none_))
  case auto =>
    intro mode
    rw [mode]
    refine ⟨le_max_left _ _, fun b => (demandIn_le_largestDemand s z b).trans (le_max_right _ _), ?_⟩
    rcases Nat.le_total (largestDemand s z) (zoneRec s z).floor with below | above
    · exact .inl (max_eq_left below)
    · dsimp only
      rw [max_eq_right above]
      exact .inr (largestDemand_attained s z)

/-! ### The expiry (R96, R102) -/

/-- The control timer restarted and every zone computed, none driven yet. -/
def zonesComputed (s : State) : State :=
  computeZones { s with thu := { s.thu with controlTimer := some Config.controlPeriod } }

theorem zonesComputed_keeps (s : State) : KeepsAllBut [.controlTimer, .zones] s (zonesComputed s) := by
  intro p hp
  cases p <;> simp [Part.same, zonesComputed, computeZones] at hp ⊢

theorem zonesComputed_controlTimer (s : State) : (zonesComputed s).thu.controlTimer = some 250 := rfl

/-- The computation of a zone reads nothing of the timer. -/
theorem zoneRec_zonesComputed (s : State) (z : Zone) : zoneRec (zonesComputed s) z = { zoneRec s z with
    target := zoneTarget s z, contributing := contributingIn s z, staleBays := staleIn s z } :=
  Bank.read_update _ _ z

theorem controlZones_zonesDriven (s : State) : ZonesDriven [2, 1, 0] (zonesComputed s) (controlZones s) :=
  driveAll_zonesDriven (zonesComputed s)

theorem mem_allZones (z : Zone) : z ∈ ([2, 1, 0] : List Zone) := by revert z; decide

/-- Stages 3 and 4 in the terms of R110 and R112. -/
theorem drivenAir_zonesComputed (s : State) (z : Zone) : drivenAir (zonesComputed s) z =
    let m := fansAssigned s z
    let h := fansTurning s z
    let c := compensate (zoneTarget s z) m h
    { compensated := c, applied := slew (zoneRec s z).mode (zoneAir s z).applied c (zoneRec s z).stepDown
      airflow := airflowOf m h, assigned := m, turning := h } := by
  rw [drivenAir, zoneRec_zonesComputed]
  rfl

theorem slew_eq (mode : ZoneMode) (applied c stepDown : Nat) : slew mode applied c stepDown
    = if mode = .disabled then 1000 else if applied ≤ c then c else max c (applied - stepDown) := by
  cases mode <;> rfl

/-- Settles O23: the three zones are computed from one state, and each is driven as it was found at first. -/
theorem controlTimerDrivesTheFans : Obligations.ControlTimerDrivesTheFans := by
  refine ⟨fun s run timer => ?_, fun z b s => ⟨fun off => ?_, fun part critical => ?_, fun part other stale => ?_,
    fun part other fresh current => ?_, fun part other fresh unreported => ?_⟩⟩
  · have result : exec .controlTimerExpiry s = .next (controlZones s) := by
      simp [exec, execControlTimerExpiry, whenRunning_running run, Option.isSome_iff_ne_none.mpr timer]
    have before := zonesComputed_keeps s
    have driven := controlZones_zonesDriven s
    have drives (f : Fan) : followDrive (fanRec (controlZones s) f) = fanRec (controlZones s) f :=
      followDrive_fanRec_driveZone 2 _ f
    generalize controlZones s = t at *
    have records (z : Zone) : zoneRec t z = { zoneRec s z with
        target := zoneTarget s z, contributing := contributingIn s z, staleBays := staleIn s z } := by
      rw [driven.frame.zoneRec_eq, zoneRec_zonesComputed]
    have air (z : Zone) : zoneAir t z = drivenAir (zonesComputed s) z := by rw [driven.air, if_pos (mem_allZones z)]
    have airflow (z : Zone) : (zoneAir (zonesComputed s) z).airflow = (zoneAir s z).airflow := by rw [before.zoneAir_eq]
    refine ⟨t, result, (driven.frame .controlTimer (by decide)).trans (zonesComputed_controlTimer s), fun z => ?_,
      fun z => ?_, fun differs => ?_, fun same => ?_, fun f => ?_, fun b => ?_, ?_, ?_, ?_⟩
    · obtain ⟨disabled, critical, forced, auto⟩ := zoneTarget_targeted s z
      rw [records]
      exact ⟨by rw [contributingIn_eq, staleIn_eq], disabled, critical, forced, auto⟩
    · rw [air, drivenAir_zonesComputed, records]
      exact ⟨rfl, rfl, rfl, rfl, slew_eq _ _ _ _⟩
    · simp only [← airflow] at differs ⊢
      exact driven.raised differs
    · simp only [← airflow] at same
      exact (before.within (l := [.controlTimer, .zones, .air, .fans])).and (driven.quiet same)
    · rw [← drives, driven.fans, if_pos (mem_allZones _), before.fanRec_eq, drivenFan, air]
      rfl
    · have bay := driven.bays b
      rw [airflow, before.bayRec_eq] at bay
      exact bay
    · exact ((Reported.of_keeps before).trans driven.reported).flags
    · exact ((Reported.of_keeps before).trans driven.reported).alerts
    · exact (before.within (l := [.controlTimer, .zones, .air, .fans, .bays] ++ reportParts)).and driven.frame
  · have none_ := classIn_none off
    exact ⟨none_, by rw [demandIn, none_]⟩
  · have class_ : classIn s z b = some .critical := by rw [classIn_some part, thermalClass_critical critical]
    exact ⟨class_, by rw [demandIn, class_]; rfl⟩
  · have class_ : classIn s z b = some .stale := by rw [classIn_some part, thermalClass_other other, if_pos stale]
    exact ⟨class_, by rw [demandIn, class_]; rfl⟩
  · rw [classIn_some part, thermalClass_other other, if_neg fresh, if_pos current]
  · have class_ : classIn s z b = some .awaiting := by
      rw [classIn_some part, thermalClass_other other, if_neg fresh, if_neg (by simp [unreported])]
    exact ⟨class_, by rw [demandIn, class_]⟩

end Sys2Proof.Machine
end

section
/-! SUPPORT. A zone's curve and its settings (O39). -/

namespace Sys2Proof.Machine

/-! ### The curve (R95) -/

theorem ascending_iff (curve : List CurvePoint) : ascending curve = true ↔ MarginsAscend curve := by
  induction curve with
  | nil => simp [ascending]
  | cons p rest ih =>
    cases rest with
    | nil => simp [ascending]
    | cons q rest =>
      rw [ascending, Bool.and_eq_true, decide_eq_true_iff, ih]
      refine ⟨fun ⟨first, tail⟩ => List.pairwise_cons.mpr ⟨fun r mem => first.trans_le (head_margin_le tail mem), tail⟩,
        fun all => ?_⟩
      obtain ⟨first, tail⟩ := List.pairwise_cons.mp all
      exact ⟨first q List.mem_cons_self, tail⟩

/-- The points that LOAD_CURVE takes: 2 to 8, of strictly ascending margins. -/
theorem curveValid_iff (points : List (Byte × Word16)) : curveValid (curvePoints points) = true
    ↔ 2 ≤ points.length ∧ points.length ≤ 8 ∧ MarginsAscend (curvePoints points) := by
  rw [curveValid, Bool.and_eq_true, decide_eq_true_iff, ascending_iff, curvePoints, List.length_map, and_assoc]

section
variable {zone : Byte} {z : Zone} {points : List (Byte × Word16)}

theorem replyLoadCurve_stored (named_ : asZone zone = some z) (valid : curveValid (curvePoints points) = true)
    (s : State) : replyLoadCurve zone points s
      = answered .ok (updZone z (fun r => { r with curve := curvePoints points }) s) := by
  rw [replyLoadCurve, named_, named, if_pos valid]

theorem replyLoadCurve_refused (bad : asZone zone = none ∨ ¬curveValid (curvePoints points) = true) (s : State) :
    replyLoadCurve zone points s = answered .badArg s := by
  rw [replyLoadCurve]
  cases name : asZone zone with
  | none => rfl
  | some z => exact if_neg (bad.resolve_left (by simp [name]))

end

/-! ### The settings (R93) -/

/-- The record as SET_ZONE writes it (R93, R94). -/
def zoneWritten (m : ZoneMode) (floor forced : Word16) (limit : Byte) (down : Word16) (r : ZoneRec) : ZoneRec :=
  { r with
    mode := m, floor := min floor.toNat 1000, forced := min forced.toNat 1000
    staleLimit := limit.toNat, stepDown := max 5 (min 100 down.toNat)
    target := if m = .disabled then 1000 else r.target }

/-- Writing a zone's record twice. -/
theorem updZone_updZone (z : Zone) (f g : ZoneRec → ZoneRec) (s : State) :
    updZone z f (updZone z g s) = updZone z (fun r => f (g r)) s := by simp [updZone, zoneRec]

/-- What a SET_ZONE that is not refused comes to. -/
structure ZoneSet (z : Zone) (m : ZoneMode) (floor forced : Word16) (limit : Byte) (down : Word16) (s t : State) :
    Prop where
  record : zoneRec t z = zoneWritten m floor forced limit down (zoneRec s z)
  others : ∀ y, y ≠ z → zoneRec t y = zoneRec s y ∧ zoneAir t y = zoneAir s y
  waits : m ≠ .disabled → KeepsAllBut [.zones] s t
  atOnce : m = .disabled → ZoneAtFullDuty z s t
  alerts : AlertsOnly s t
  frame : KeepsAllBut ([.zones, .air, .fans, .bays] ++ reportParts) s t

/-! ### A zone set DISABLED (R94) -/

/-- Full demand is full drive: the fans that turn are no more than those assigned (R110). -/
theorem compensate_full {m h : Nat} (le : h ≤ m) : compensate 1000 m h = 1000 := by
  unfold compensate
  split
  · rfl
  split
  · rfl
  · have reaches := (ceilDiv_mul_bounds (1000 * m) (b := h) (by omega)).1
    have full : 1000 ≤ ceilDiv (1000 * m) h :=
      Nat.le_of_mul_le_mul_right ((Nat.mul_le_mul_left 1000 le).trans reaches) (by omega)
    exact min_eq_left full

theorem drivenAir_disabled {s : State} {z : Zone} (mode : (zoneRec s z).mode = .disabled)
    (target : (zoneRec s z).target = 1000) : drivenAir s z =
      { compensated := 1000, applied := 1000, airflow := airflowOf (fansAssigned s z) (fansTurning s z)
        assigned := fansAssigned s z, turning := fansTurning s z } := by
  rw [drivenAir, mode, target, compensate_full (fansTurning_le_fansAssigned s z)]
  rfl

theorem fanDuty_full (minRun : Nat) : fanDuty 1000 minRun = 1000 := by
  unfold fanDuty Config.fullDuty
  omega

/-- A zone whose record has been written DISABLED, and which is then driven, stands at full duty. -/
theorem ZoneDriven.atFullDuty {z : Zone} {s u t : State} (written : KeepsAllBut [.zones] s u)
    (mode : (zoneRec u z).mode = .disabled) (target : (zoneRec u z).target = 1000) (h : ZoneDriven z u t) :
    ZoneAtFullDuty z s t := by
  have air := drivenAir_disabled mode target
  obtain ⟨assigned, turning⟩ := fanCounts_congr (fun f => congrArg FanRec.zone (written.fanRec_eq f))
    (fun f => iff_of_eq (congrArg Turning (written.fanRec_eq f))) z
  rw [assigned, turning] at air
  obtain ⟨drivenAir_, fans, raised, bays, quiet, reported, -⟩ := h
  have status : (zoneAir u z).airflow = (zoneAir s z).airflow := by rw [written.zoneAir_eq]
  rw [air, status] at raised bays quiet
  refine ⟨by rw [drivenAir_, if_pos rfl, air]; rfl, fun f => ?_, fun same => ?_, fun differs => ⟨raised differs,
    fun b => ?_, (Reported.of_keeps written).trans reported |>.flags⟩⟩
  · rw [fans, written.fanRec_eq]
    split
    · next own => rw [drivenFan, own, air, fanDuty_full]
    · rfl
  · exact (written.within (l := [.zones, .air, .fans])).and (quiet same)
  · rw [bays differs, written.bayRec_eq]
    rfl

section
variable {z : Zone} {m : ZoneMode} {floor forced : Word16} {limit : Byte} {down : Word16} {s : State}

/-- DISABLED writes the record, its target with it, and drives the zone. -/
theorem setZone_disabled (off : m = .disabled) : setZone z m floor.toNat forced.toNat limit.toNat down.toNat s
    = driveZone z (updZone z (zoneWritten m floor forced limit down) s) := by
  subst off
  exact congrArg (driveZone z) (updZone_updZone z _ _ s)

/-- Any other mode writes the record alone. -/
theorem setZone_waits (on : m ≠ .disabled) : setZone z m floor.toNat forced.toNat limit.toNat down.toNat s
    = updZone z (zoneWritten m floor forced limit down) s := by
  refine (if_neg on).trans (congrArg (updZone z · s) (funext fun r => ?_))
  rw [zoneWritten, if_neg on]
  rfl

end

theorem setZone_zoneSet (z : Zone) (m : ZoneMode) (floor forced : Word16) (limit : Byte) (down : Word16) (s : State) :
    ZoneSet z m floor forced limit down s (setZone z m floor.toNat forced.toNat limit.toNat down.toNat s) := by
  have written := updZone_keeps z (zoneWritten m floor forced limit down) s
  have own := zoneRec_updZone_self z (zoneWritten m floor forced limit down) s
  have others (y : Zone) (other : y ≠ z) :
      zoneRec (updZone z (zoneWritten m floor forced limit down) s) y = zoneRec s y :=
    (zoneRec_updZone z y _ s).trans (if_neg other)
  by_cases off : m = .disabled
  · rw [setZone_disabled off]
    generalize updZone z (zoneWritten m floor forced limit down) s = u at *
    have driven := driveZone_zoneDriven z u
    constructor
    case record => rw [driven.frame.zoneRec_eq, own]
    case others =>
      exact fun y other => ⟨by rw [driven.frame.zoneRec_eq, others y other],
        by rw [driven.air, if_neg other, written.zoneAir_eq]⟩
    case waits => exact fun on => absurd off on
    case atOnce =>
      exact fun _ => driven.atFullDuty written (by rw [own]; exact off) (by rw [own, zoneWritten, if_pos off])
    case alerts => exact ((Reported.of_keeps written).trans driven.reported).alerts
    case frame => exact (written.within (l := [.zones, .air, .fans, .bays] ++ reportParts)).and driven.frame
  · rw [setZone_waits off]
    constructor
    case record => exact own
    case others => exact fun y other => ⟨others y other, written.zoneAir_eq y⟩
    case waits => exact fun _ => written
    case atOnce => exact fun h => absurd h off
    case alerts => exact (Reported.of_keeps (classes := []) written).alerts
    case frame => exact written.within

theorem ZoneSet.untaken {z : Zone} {m : ZoneMode} {floor forced : Word16} {limit : Byte} {down : Word16} {s t : State}
    (h : ZoneSet z m floor forced limit down (oneTaken s) t) :
    ZoneSet z m floor forced limit down s (untaken s t) where
  record := h.record
  others := h.others
  waits on := (h.waits on).untaken
  atOnce off := by
    obtain ⟨air, fans, quiet, changed⟩ := h.atOnce off
    exact ⟨air, fans, fun same => (quiet same).untaken, changed⟩
  alerts := h.alerts
  frame := h.frame.untaken

/-! ### The request -/

/-- The stale limits that SET_ZONE takes. -/
theorem staleLimitValid_iff (limit : Byte) :
    staleLimitValid limit.toNat = true ↔ limit = 2 ∨ limit = 4 ∨ limit = 8 ∨ limit = 16 := by
  simp only [staleLimitValid, Bool.or_eq_true, beq_iff_eq, ← BitVec.toNat_inj, or_assoc]
  rfl

section
variable {zone mode : Byte} {floor forced : Word16} {limit : Byte} {down : Word16} {z : Zone} {m : ZoneMode}

theorem replySetZone_stored (name : asZone zone = some z) (setting : asMode mode = some m)
    (valid : staleLimitValid limit.toNat = true) {s : State} (curve : m = .auto → (zoneRec s z).curve ≠ []) :
    replySetZone zone mode floor forced limit down s
      = answered .ok (setZone z m floor.toNat forced.toNat limit.toNat down.toNat s) := by
  have passes : ¬(m = .auto ∧ (zoneRec s z).curve = []) := fun h => curve h.1 h.2
  simp only [replySetZone, name, setting, named, valid, Bool.not_true, Bool.false_eq_true, if_false, passes]

theorem replySetZone_noCurve (name : asZone zone = some z) (setting : asMode mode = some .auto)
    (valid : staleLimitValid limit.toNat = true) {s : State} (curve : (zoneRec s z).curve = []) :
    replySetZone zone mode floor forced limit down s = answered .badState s := by
  simp [replySetZone, name, setting, named, valid, curve]

theorem replySetZone_badArg
    (bad : asZone zone = none ∨ asMode mode = none ∨ ¬staleLimitValid limit.toNat = true) (s : State) :
    replySetZone zone mode floor forced limit down s = answered .badArg s := by
  unfold replySetZone
  cases name : asZone zone with
  | none => rfl
  | some z =>
    cases setting : asMode mode with
    | none => rfl
    | some m =>
      have invalid : staleLimitValid limit.toNat = false := by simpa [name, setting] using bad
      simp [named, invalid]

end

/-- Settles O39: each request comes to one write of the zone's record, and DISABLED to the drive of that zone. -/
theorem curvesAndZonesSet : Obligations.CurvesAndZonesSet := by
  refine ⟨fun e u zone points s manager short => ⟨fun z name good => ?_, fun bad => ?_⟩,
    fun e u zone mode floor forced limit down s manager => ⟨fun bad => ?_, fun z name valid auto empty => ?_,
      fun z name m setting valid curve => ?_⟩⟩
  · have written := updZone_keeps z (fun r => { r with curve := curvePoints points }) (oneTaken s)
    have records (y) := zoneRec_updZone z y (fun r => { r with curve := curvePoints points }) (oneTaken s)
    have answer := manager.answers (c := .loadCurve e zone points) rfl (by simpa [Request.wellFormed] using short)
      (by simp [namesExist, name]) rfl (replyLoadCurve_stored name ((curveValid_iff points).mpr good) (oneTaken s))
      (written .svcQueue (by decide))
    exact ⟨_, answer, (records z).trans (if_pos rfl), fun y other => (records y).trans (if_neg other), written.untaken⟩
  · have refused := manager.badArg (c := .loadCurve e zone points) rfl (by simpa [Request.wellFormed] using short) rfl
      fun _ => replyLoadCurve_refused (bad.imp id (mt (curveValid_iff points).mp)) (oneTaken s)
    exact refused
  · have refused := manager.badArg (c := .setZone e zone mode floor forced limit down) rfl rfl rfl
      fun _ => replySetZone_badArg (bad.imp id (.imp id (mt (staleLimitValid_iff limit).mp))) (oneTaken s)
    exact refused
  · have carried := replySetZone_noCurve (mode := mode) (floor := floor) (forced := forced) (down := down)
      (s := oneTaken s) name (by rw [auto]; rfl) ((staleLimitValid_iff limit).mpr valid) empty
    have refused := manager.refused (c := .setZone e zone mode floor forced limit down) rfl rfl
      (by simp [namesExist, name]) rfl carried
    exact refused
  · have set := setZone_zoneSet z m floor forced limit down (oneTaken s)
    have answer := manager.answers (c := .setZone e zone mode floor forced limit down) rfl rfl
      (by simp [namesExist, name]) rfl
      (replySetZone_stored name setting ((staleLimitValid_iff limit).mpr valid) (s := oneTaken s) curve)
      (set.frame .svcQueue (by decide))
    obtain ⟨record, others, waits, atOnce, alerts, frame⟩ := set.untaken
    exact ⟨_, answer, record, others, waits, atOnce, alerts, frame⟩

end Sys2Proof.Machine
end

section
/-! SUPPORT. A fan's settings, and a bay's thermal report (O40). -/

namespace Sys2Proof.Machine

/-! ### The fan (R114) -/

/-- The settings have no say in the consequences of a duty. -/
theorem dutySet_settings (d : Nat) (z : Zone) (minRun prescale : Nat) (r : FanRec) :
    dutySet d { r with zone := z, minRun := minRun, prescale := prescale }
      = { dutySet d r with zone := z, minRun := minRun, prescale := prescale } := by
  by_cases rises : r.duty < 200 ∧ 200 ≤ d ∧ Turning r
  · rw [dutySet_rising rises, dutySet_rising (by exact rises)]
  · rw [dutySet_other rises, dutySet_other (by exact rises)]

@[simp] theorem dutySet_duty (d : Nat) (r : FanRec) : (dutySet d r).duty = d := by
  unfold dutySet
  simp only
  split <;> rfl

theorem setFanRec_eq (z : Zone) (minRun prescale applied : Nat) (r : FanRec) :
    setFanRec z minRun prescale applied r =
      { dutySet (fanDuty applied minRun) r with
        zone := z, minRun := minRun, prescale := prescale, residue := 0, count := 0, minDuty := fanDuty applied minRun
        tachTimer := if (dutySet (fanDuty applied minRun) r).state = .absent then
            (dutySet (fanDuty applied minRun) r).tachTimer
          else some 1000 } := by
  rw [setFanRec, setDuty_eq_dutySet, dutySet_settings]
  simp only [dutySet_duty]
  rfl

/-- The prescales that SET_FAN takes. -/
theorem prescaleValid_iff (prescale : Byte) :
    prescaleValid prescale.toNat = true ↔ prescale = 1 ∨ prescale = 2 ∨ prescale = 4 ∨ prescale = 8 := by
  simp only [prescaleValid, Bool.or_eq_true, beq_iff_eq, ← BitVec.toNat_inj, or_assoc]
  rfl

section
variable {fan zone : Byte} {minRun : Word16} {prescale : Byte} {f : Fan} {z : Zone}

theorem replySetFan_stored (fanName : asFan fan = some f) (zoneName : asZone zone = some z)
    (valid : prescaleValid prescale.toNat = true) (s : State) : replySetFan fan zone minRun prescale s
      = answered .ok (updFan f (setFanRec z (min minRun.toNat 500) prescale.toNat (zoneAir s z).applied) s) := by
  simp only [replySetFan, fanName, zoneName, named, valid, if_true]

theorem replySetFan_badArg
    (bad : asFan fan = none ∨ asZone zone = none ∨ ¬prescaleValid prescale.toNat = true) (s : State) :
    replySetFan fan zone minRun prescale s = answered .badArg s := by
  unfold replySetFan
  cases fanName : asFan fan with
  | none => rfl
  | some f =>
    cases zoneName : asZone zone with
    | none => rfl
    | some z =>
      have invalid : ¬prescaleValid prescale.toNat = true := by simpa [fanName, zoneName] using bad
      exact if_neg invalid

end

/-! ### The report (R89) -/

/-- Yes is the first-named value. -/
theorem asFirst_of_lt {n : Byte} (h : n.toNat < 2) : asFirst n = some (decide (n = 0)) := by
  have cases_ : n = 0 ∨ n = 1 := by bv_omega
  rcases cases_ with rfl | rfl <;> rfl

theorem asFirst_eq_none {n : Byte} (h : 2 ≤ n.toNat) : asFirst n = none := by
  have zero : n ≠ 0 := by rintro rfl; simp at h
  have one : n ≠ 1 := by rintro rfl; simp at h
  rw [asFirst, if_neg zero, if_neg one]

/-- What an accepted report comes to. -/
structure ReportAccepted (b : Bay) (margin : Nat) (critical : Bool) (s t : State) : Prop where
  entry : thermalEntry t b = { margin := some margin, critical := critical, current := true, age := 0 }
  bay : bayRec t b = followThrottle { bayRec s b with critical := critical }
  others : ∀ c, c ≠ b → thermalEntry t c = thermalEntry s c ∧ bayRec t c = bayRec s c
  frame : KeepsAllBut [.thermal, .bays] s t

theorem acceptReport_accepted (b : Bay) (margin : Nat) (critical : Bool) (s : State) :
    ReportAccepted b margin critical s (acceptReport b margin critical s) := by
  have written := updThermal_keeps b
    (fun _ => { margin := some margin, critical := critical, current := true, age := 0 }) s
  have entries (c) := thermalEntry_updThermal b c
    (fun _ => { margin := some margin, critical := critical, current := true, age := 0 }) s
  unfold acceptReport
  generalize updThermal b _ s = u at *
  have flagged := updBay_keeps b (fun r => { r with critical := critical }) u
  constructor
  case entry => rw [flagged.thermalEntry_eq, entries, if_pos rfl]
  case bay => rw [bayRec_updBay_self, written.bayRec_eq]
  case others =>
    exact fun c other => ⟨by rw [flagged.thermalEntry_eq, entries, if_neg other],
      by rw [bayRec_updBay_ne _ _ other, written.bayRec_eq]⟩
  case frame => exact (written.within (l := [.thermal, .bays])).and flagged

section
variable {e : Envelope} {b : Bay} {margin critical : Byte} {s : State}

theorem replyThermalReport_taken (arrival : e.arrival = .bay b) (indication : critical.toNat < 2) :
    replyThermalReport e margin critical s
      = if isUp (bayState s b) then answered .ok (acceptReport b margin.toNat (decide (critical = 0)) s)
        else answered .badState s := by
  rw [replyThermalReport, forArrivalBay_bay arrival, asFirst_of_lt indication, named]

theorem replyThermalReport_badArg (arrival : e.arrival = .bay b) (indication : 2 ≤ critical.toNat) :
    replyThermalReport e margin critical s = answered .badArg s := by
  rw [replyThermalReport, forArrivalBay_bay arrival, asFirst_eq_none indication, named]

end

/-- Settles O40: SET_FAN comes to one write of the fan's record, and a report to one of its sender's entry and flag. -/
theorem fanSettingsAndThermalReports : Obligations.FanSettingsAndThermalReports := by
  refine ⟨fun e u fan zone minRun prescale s manager => ⟨fun f fanName z zoneName valid => ?_, fun bad => ?_⟩,
    fun e b margin critical s sender => ⟨fun indication up => ?_, fun indication down => ?_, fun indication => ?_⟩⟩
  · have written := updFan_keeps f
      (setFanRec z (min minRun.toNat 500) prescale.toNat (zoneAir (oneTaken s) z).applied) (oneTaken s)
    have records (g) := fanRec_updFan f g
      (setFanRec z (min minRun.toNat 500) prescale.toNat (zoneAir (oneTaken s) z).applied) (oneTaken s)
    have answer := manager.answers (c := .setFan e fan zone minRun prescale) rfl rfl
      (by simp [namesExist, fanName, zoneName]) rfl
      (replySetFan_stored fanName zoneName ((prescaleValid_iff prescale).mpr valid) (oneTaken s))
      (written .svcQueue (by decide))
    refine ⟨_, answer, ?_, fun g other => (records g).trans (if_neg other), written.untaken⟩
    refine (records f).trans ?_
    rw [if_pos rfl, setFanRec_eq]
    rfl
  · have refused := manager.badArg (c := .setFan e fan zone minRun prescale) rfl rfl rfl
      fun _ => replySetFan_badArg (bad.imp id (.imp id (mt (prescaleValid_iff prescale).mp))) (oneTaken s)
    exact refused
  · have ⟨_, arrival, _⟩ := sender
    have accepted := acceptReport_accepted b margin.toNat (decide (critical = 0)) (oneTaken s)
    have carried := (replyThermalReport_taken (margin := margin) (s := oneTaken s) arrival indication).trans (if_pos up)
    have answer := sender.answers (c := .thermalReport e margin critical) rfl rfl rfl rfl carried
      (accepted.frame .svcQueue (by decide))
    exact ⟨_, answer, accepted.entry, accepted.bay, accepted.others, accepted.frame.untaken⟩
  · have ⟨_, arrival, _⟩ := sender
    have off : ¬isUp (bayState (oneTaken s) b) = true := fun up => Bool.false_ne_true (down.symm.trans up)
    have carried := (replyThermalReport_taken (margin := margin) arrival indication).trans (if_neg off)
    have refused := sender.refused (c := .thermalReport e margin critical) rfl rfl rfl rfl carried
    exact refused
  · have ⟨_, arrival, _⟩ := sender
    have carried := replyThermalReport_badArg (margin := margin) (s := oneTaken s) arrival indication
    have refused := sender.refused (c := .thermalReport e margin critical) rfl rfl rfl rfl carried
    exact refused

end Sys2Proof.Machine
end

section
/-! SUPPORT. Tachometer supervision (O22): what the end of a window makes of a fan's record, case by case, and what it
reports. -/

namespace Sys2Proof.Machine

/-! ### Pulses (R115) -/

section
variable {r : FanRec}

theorem countPulse_below (below : r.residue + 1 < r.prescale) : countPulse r = { r with residue := r.residue + 1 } :=
  if_pos below

theorem countPulse_full (full : r.prescale ≤ r.residue + 1) :
    countPulse r = { r with residue := 0, count := min (r.count + 1) 65535 } :=
  if_neg (Nat.not_lt.mpr full)

/-! ### What a judged window does to the counters (R118) -/

theorem judgeWindow_running_low (was : r.state = .running) (few : r.low + 1 < 3) :
    judgeWindow true r = { r with low := r.low + 1, good := 0 } := by simp [judgeWindow, was, few]

theorem judgeWindow_fails (was : r.state = .running) (third : 3 ≤ r.low + 1) :
    judgeWindow true r = { r with state := .failed, low := 0, good := 0 } := by
  simp [judgeWindow, was, Nat.not_lt.mpr third]

theorem judgeWindow_running_good (was : r.state = .running) :
    judgeWindow false r = { r with good := min (r.good + 1) 3, low := 0 } := by simp [judgeWindow, was, satAdd]

theorem judgeWindow_failed_low (was : r.state = .failed) :
    judgeWindow true r = { r with low := min (r.low + 1) 3, good := 0 } := by simp [judgeWindow, was, satAdd]

theorem judgeWindow_failed_good (was : r.state = .failed) (few : r.good + 1 < 3) :
    judgeWindow false r = { r with good := r.good + 1, low := 0 } := by simp [judgeWindow, was, few]

theorem judgeWindow_recovers (was : r.state = .failed) (third : 3 ≤ r.good + 1) :
    judgeWindow false r = { r with state := .running, low := 0, good := 0 } := by
  simp [judgeWindow, was, Nat.not_lt.mpr third]

/-! ### The end of a window (R116, R117) -/

/-- The record with the speed of the window that ends. -/
def measured (ident : Option (Nat × Nat)) (r : FanRec) : FanRec :=
  { r with rpm := ident.map fun i => r.count * r.prescale * 60 / i.2 }

variable {ident : Option (Nat × Nat)}

theorem endWindow_spinup (was : r.state = .spinup) : endWindow ident r = countSpinup (measured ident r) := by
  cases r
  cases was
  rfl

theorem endWindow_judged {i : Nat × Nat} (was : r.state = .running ∨ r.state = .failed) (duty : 200 ≤ r.minDuty) :
    endWindow (some i) r
      = judgeWindow (decide (r.count * r.prescale * 60 / i.2 < i.1 * r.minDuty / 1000 / 2)) (measured (some i) r) := by
  cases r
  rcases was with was | was
  · cases was
    exact if_pos duty
  · cases was
    exact if_pos duty

/-- An ABSENT slot, and a fan out of SPINUP with no identity or a low duty, are not judged. -/
theorem endWindow_unjudged
    (free : r.state = .absent ∨ (r.state ≠ .spinup ∧ (ident = none ∨ r.minDuty < 200))) :
    endWindow ident r = measured ident r := by
  obtain ⟨state, _⟩ := r
  cases state with
  | absent => rfl
  | spinup => simp at free
  | running | failed =>
    cases ident with
    | none => rfl
    | some i => exact if_neg (Nat.not_le.mpr (by simpa [Config.judgedDuty] using free))

/-- Of the record `r`, `r'` changes the state and the three window counters alone. -/
def OnlyJudged (r r' : FanRec) : Prop :=
  r' = { r with state := r'.state, spinup := r'.spinup, low := r'.low, good := r'.good }

theorem countSpinup_onlyJudged (r : FanRec) : OnlyJudged r (countSpinup r) := by
  unfold countSpinup
  split <;> rfl

theorem judgeWindow_onlyJudged (low : Bool) (r : FanRec) : OnlyJudged r (judgeWindow low r) := by
  unfold judgeWindow
  split
  case h_1 | h_4 => split <;> rfl
  all_goals rfl

theorem endWindow_onlyJudged (ident : Option (Nat × Nat)) (r : FanRec) :
    OnlyJudged (measured ident r) (endWindow ident r) := by
  unfold endWindow
  simp only
  split
  · exact countSpinup_onlyJudged _
  iterate 2
    split
    · exact judgeWindow_onlyJudged _ _
    · rfl
  · rfl

end

/-! ### The window's fan and its report (R118) -/

theorem raiseFanFault_quiet {was now : FanState} (h : now = was ∨ was = .spinup) (f : Fan) (s : State) :
    raiseFanFault f was now s = s := by
  rcases h with rfl | rfl
  · cases now <;> rfl
  · rfl

theorem raiseFanFault_reported (f : Fan) (was now : FanState) (s : State) :
    Reported [4, 7] s (raiseFanFault f was now s) := by
  unfold raiseFanFault
  split
  · exact raise_reported (.fanFault f false) s
  · exact raise_reported (.fanFault f true) s
  · exact .refl _ s

theorem tachWindow_reported (f : Fan) (s : State) : Reported [4, 7] s (tachWindow f s) :=
  Reported.trans (.of_keeps (updFan_keeps f _ s)) (raiseFanFault_reported f _ _ _)

theorem tachWindow_fanRec (f g : Fan) (s : State) : fanRec (tachWindow f s) g
    = if g = f then followDrive (nextWindow (endWindow (fanIdentity s f) (fanRec s f))) else fanRec s g := by
  rw [tachWindow, raiseFanFault_fanRec, fanRec_updFan]

/-- A window of fan `f` has ended with record `w`: its judgement stands in the fan, and FAN_FAULT has been raised
exactly where it moved between RUNNING and FAILED. -/
structure WindowEnded (f : Fan) (w : FanRec) (s t : State) : Prop where
  state : (fanRec t f).state = w.state
  spinup : (fanRec t f).spinup = w.spinup
  low : (fanRec t f).low = w.low
  good : (fanRec t f).good = w.good
  quiet : w.state = (fanRec s f).state ∨ (fanRec s f).state = .spinup → t.sve = s.sve
  failed : (fanRec s f).state = .running → w.state = .failed → Raised (.fanFault f false) t
  recovered : (fanRec s f).state = .failed → w.state = .running → Raised (.fanFault f true) t

theorem tachWindow_ended (f : Fan) (s : State) :
    WindowEnded f (endWindow (fanIdentity s f) (fanRec s f)) s (tachWindow f s) := by
  have record := (tachWindow_fanRec f f s).trans (if_pos rfl)
  refine ⟨congrArg (·.state) record, congrArg (·.spinup) record, congrArg (·.low) record, congrArg (·.good) record,
    fun same => ?_, fun was now => ?_, fun was now => ?_⟩
  · rw [tachWindow, raiseFanFault_quiet same, updFan_sve]
  · rw [tachWindow, was, now, raiseFanFault_failed]
    exact raise_raised _ _ (by simp [causeClass])
  · rw [tachWindow, was, now, raiseFanFault_recovered]
    exact raise_raised _ _ (by simp [causeClass])

section
variable {f : Fan} {s t : State} {ident : Option (Nat × Nat)}

theorem judgeWindow_spinup (low : Bool) (r : FanRec) : (judgeWindow low r).spinup = r.spinup := by
  unfold judgeWindow
  split
  case h_1 | h_4 => split <;> rfl
  all_goals rfl

theorem WindowEnded.judged {low : Bool} (ended : WindowEnded f (judgeWindow low (measured ident (fanRec s f))) s t) :
    Judged f low s t := by
  refine ⟨ended.spinup.trans (judgeWindow_spinup _ _), fun was is few => ?_, fun was is third => ?_, fun was is => ?_,
    fun was is => ?_, fun was is few => ?_, fun was is third => ?_⟩ <;> subst is
  · rw [judgeWindow_running_low (by exact was) (by exact few)] at ended
    exact ⟨ended.state.trans was, ended.low, ended.good, ended.quiet (.inl rfl)⟩
  · rw [judgeWindow_fails (by exact was) (by exact third)] at ended
    exact ⟨ended.state, ended.low, ended.good, ended.failed was rfl⟩
  · rw [judgeWindow_running_good (by exact was)] at ended
    exact ⟨ended.state.trans was, ended.low, ended.good, ended.quiet (.inl rfl)⟩
  · rw [judgeWindow_failed_low (by exact was)] at ended
    exact ⟨ended.state.trans was, ended.low, ended.good, ended.quiet (.inl rfl)⟩
  · rw [judgeWindow_failed_good (by exact was) (by exact few)] at ended
    exact ⟨ended.state.trans was, ended.low, ended.good, ended.quiet (.inl rfl)⟩
  · rw [judgeWindow_recovers (by exact was) (by exact third)] at ended
    exact ⟨ended.state, ended.low, ended.good, ended.recovered was rfl⟩

/-- The two windows of the spin-up grace (R117). -/
theorem WindowEnded.grace (was : (fanRec s f).state = .spinup)
    (ended : WindowEnded f (countSpinup (measured ident (fanRec s f))) s t) :
    (if (fanRec s f).spinup + 1 < 2 then
      (fanRec t f).state = .spinup ∧ (fanRec t f).spinup = (fanRec s f).spinup + 1
        ∧ (fanRec t f).low = (fanRec s f).low ∧ (fanRec t f).good = (fanRec s f).good
    else (fanRec t f).state = .running ∧ (fanRec t f).spinup = 2 ∧ (fanRec t f).low = 0
      ∧ (fanRec t f).good = 0) ∧ t.sve = s.sve := by
  refine ⟨?_, ended.quiet (.inr was)⟩
  by_cases first : (fanRec s f).spinup + 1 < 2
  · rw [countSpinup, if_pos (by exact first)] at ended
    rw [if_pos first]
    exact ⟨ended.state.trans was, ended.spinup, ended.low, ended.good⟩
  · rw [countSpinup, if_neg (by exact first)] at ended
    rw [if_neg first]
    exact ⟨ended.state, ended.spinup, ended.low, ended.good⟩

end

/-- Settles O22: a pulse is one write of the fan's record, and a window's end is judged by the case of `endWindow` that
the fan's state, identity and minimum duty choose. -/
theorem tachPulsesAndWindows : Obligations.TachPulsesAndWindows := by
  refine ⟨fun f s run present => ?_, fun f s absent => exec_nothingToDo (c := .fanTachPulse f) absent,
    fun f s run timer => ?_⟩
  · have result : exec (.fanTachPulse f) s = .next (updFan f countPulse s) :=
      congrArg _ ((whenRunning_running run).trans (if_neg present))
    have record := fanRec_updFan_self f countPulse s
    refine ⟨_, result, fun below => ?_, fun full => ?_, fun g other => ?_, updFan_keeps f _ s⟩
    · rw [record, countPulse_below below]
    · rw [record, countPulse_full full]
    · rw [fanRec_updFan, if_neg other]
  · have result : exec (.tachWindowExpiry f) s = .next (tachWindow f s) :=
      congrArg _ ((whenRunning_running run).trans (if_pos (Option.isSome_iff_ne_none.mpr timer)))
    have ended := tachWindow_ended f s
    have reported := tachWindow_reported f s
    refine ⟨_, result, ?_, fun spinup => ?_, fun free => ?_, fun i known duty judged => ?_, fun g other => ?_,
      reported.flags, reported.alerts, tachWindow_keeps f s⟩
    · rw [ended.state, ended.spinup, ended.low, ended.good, tachWindow_fanRec, if_pos rfl]
      exact congrArg (fun w => followDrive (nextWindow w)) (endWindow_onlyJudged _ _)
    · rw [endWindow_spinup spinup] at ended
      exact ended.grace spinup
    · rw [endWindow_unjudged free] at ended
      exact ⟨ended.state, ended.spinup, ended.low, ended.good, ended.quiet (.inl rfl)⟩
    · rw [known, endWindow_judged judged duty] at ended
      exact ended.judged
    · rw [tachWindow_fanRec, if_neg other]

end Sys2Proof.Machine
end

section
/-! SUPPORT. Tag translation (O47): the three areas of the forward translation, and the reverse one as its inverse. -/

namespace Sys2Proof.Machine

/-! ### Forward (R126) -/

section
variable {w : Window} {p i q : Nat}

theorem forwardPage_lower (lower : p < w.bs) : forwardPage w p = p := if_pos lower

theorem forwardPage_bank (from_ : w.bs ≤ p) (below : p < w.cs) : forwardPage w p = w.bb + (p - w.bs) := by
  rw [forwardPage, if_neg (by omega), if_pos below]

theorem forwardPage_upper (order : w.bs ≤ w.cs) (from_ : w.cs ≤ p) : forwardPage w p = w.cb + (p - w.cs) := by
  rw [forwardPage, if_neg (by omega), if_neg (by omega)]

theorem forwardTag_of_page (page : forwardPage w (i / 256) = q) (fits : q ≤ 63) :
    forwardTag w i = some (q * 256 + i % 256) := by simp only [forwardTag, page, fits, if_true]

theorem forwardTag_overflow (page : forwardPage w (i / 256) = q) (above : 63 < q) : forwardTag w i = none := by
  simp only [forwardTag, page, if_neg (Nat.not_le.mpr above)]

theorem forwardTag_eq_some {c : Nat} :
    forwardTag w i = some c ↔ forwardPage w (i / 256) ≤ 63 ∧ forwardPage w (i / 256) * 256 + i % 256 = c := by
  simp [forwardTag]

end

/-! ### Reverse (R128) -/

/-- The upper area of the window holds the chassis page. -/
abbrev InUpper (w : Window) (q : Nat) : Prop := w.cs < 16 ∧ w.cb ≤ q ∧ q ≤ w.cb + 15 - w.cs

/-- The bank area of the window holds the chassis page. -/
abbrev InBank (w : Window) (q : Nat) : Prop := w.bs < w.cs ∧ w.bb ≤ q ∧ q ≤ w.bb + w.cs - 1 - w.bs

section
variable {w : Window} {p q c : Nat}

theorem reversePage_upper (upper : InUpper w q) : reversePage w q = some (w.cs + q - w.cb) := if_pos upper

theorem reversePage_bank (upper : ¬InUpper w q) (bank : InBank w q) : reversePage w q = some (w.bs + q - w.bb) := by
  rw [reversePage, if_neg upper, if_pos bank]

theorem reversePage_lower (upper : ¬InUpper w q) (bank : ¬InBank w q) (lower : q < w.bs) :
    reversePage w q = some q := by rw [reversePage, if_neg upper, if_neg bank, if_pos lower]

theorem reversePage_outside (upper : ¬InUpper w q) (bank : ¬InBank w q) (lower : w.bs ≤ q) :
    reversePage w q = none := by rw [reversePage, if_neg upper, if_neg bank, if_neg (by omega)]

theorem reverseTag_of_page (page : reversePage w (c / 256) = some p) : reverseTag w c = some (p * 256 + c % 256) := by
  rw [reverseTag, page, Option.map_some]

theorem reverseTag_eq_some {t : Nat} :
    reverseTag w c = some t ↔ ∃ p, reversePage w (c / 256) = some p ∧ p * 256 + c % 256 = t := by
  simp [reverseTag]

/-- What LOAD_WINDOW accepts (R123). -/
theorem windowValid_iff :
    windowValid w = true ↔ w.bs ≤ 16 ∧ w.cs ≤ 16 ∧ w.bs ≤ w.cs ∧ w.bb ≤ 63 ∧ w.cb ≤ 63 := by simp [windowValid]

/-- The area that gives the page is the one that the forward translation of the page uses. -/
theorem forwardPage_reversePage (valid : windowValid w = true) (found : reversePage w q = some p) :
    p < 16 ∧ forwardPage w p = q := by
  obtain ⟨bs, cs, order, -, -⟩ := windowValid_iff.mp valid
  by_cases upper : InUpper w q
  · rw [reversePage_upper upper, Option.some.injEq] at found
    rw [forwardPage_upper order (by omega)]
    omega
  · by_cases bank : InBank w q
    · rw [reversePage_bank upper bank, Option.some.injEq] at found
      rw [forwardPage_bank (by omega) (by omega)]
      omega
    · by_cases lower : q < w.bs
      · rw [reversePage_lower upper bank lower, Option.some.injEq] at found
        rw [forwardPage_lower (by omega)]
        omega
      · rw [reversePage_outside upper bank (by omega)] at found
        cases found

/-- The area that a blade page uses holds its chassis page. -/
theorem reversePage_forwardPage (valid : windowValid w = true) (page : p < 16) :
    (reversePage w (forwardPage w p)).isSome = true := by
  obtain ⟨bs, cs, order, -, -⟩ := windowValid_iff.mp valid
  by_cases upper : InUpper w (forwardPage w p)
  · rw [reversePage_upper upper]; rfl
  · by_cases bank : InBank w (forwardPage w p)
    · rw [reversePage_bank upper bank]; rfl
    · have lower : p < w.bs := by
        by_contra above
        by_cases below : p < w.cs
        · rw [forwardPage_bank (by omega) below] at bank
          omega
        · rw [forwardPage_upper order (by omega)] at upper
          omega
      rw [forwardPage_lower lower] at upper bank ⊢
      rw [reversePage_lower upper bank lower]
      rfl

theorem forwardTag_reverseTag {t : Nat} (valid : windowValid w = true) (image : reverseTag w c = some t)
    (small : c < 16384) : t < 4096 ∧ forwardTag w t = some c := by
  obtain ⟨p, page, rfl⟩ := reverseTag_eq_some.mp image
  obtain ⟨lt, back⟩ := forwardPage_reversePage valid page
  have high : (p * 256 + c % 256) / 256 = p := by omega
  refine ⟨by omega, forwardTag_eq_some.mpr ?_⟩
  rw [high, back]
  omega

theorem reverseTag_forwardTag {i : Nat} (valid : windowValid w = true) (small : i < 4096)
    (image : forwardTag w i = some c) : c < 16384 ∧ (reverseTag w c).isSome = true := by
  obtain ⟨fits, rfl⟩ := forwardTag_eq_some.mp image
  have high : (forwardPage w (i / 256) * 256 + i % 256) / 256 = forwardPage w (i / 256) := by omega
  refine ⟨by omega, ?_⟩
  rw [reverseTag, high, Option.isSome_map]
  exact reversePage_forwardPage valid (by omega)

end

/-- Settles O47, area by area. -/
theorem reverseTranslation : Obligations.ReverseTranslation := by
  refine ⟨fun w i _ order => ⟨fun lower => ?_, fun from_ below => ?_, fun from_ below => ?_, fun from_ => ?_,
      fun from_ => ?_⟩,
    fun w c small => ⟨fun upper => reverseTag_of_page (reversePage_upper upper),
      fun upper bank => reverseTag_of_page (reversePage_bank upper bank),
      fun upper bank lower => reverseTag_of_page (reversePage_lower upper bank lower),
      fun upper bank outside => ?_, fun valid t image => forwardTag_reverseTag valid image small⟩,
    fun w i valid small c image => reverseTag_forwardTag valid small image⟩
  · exact forwardTag_of_page (forwardPage_lower lower) (by omega)
  · exact forwardTag_of_page (forwardPage_bank from_ below)
  · exact forwardTag_overflow (forwardPage_bank from_ below)
  · exact forwardTag_of_page (forwardPage_upper order from_)
  · exact forwardTag_overflow (forwardPage_upper order from_)
  · rw [reverseTag, reversePage_outside upper bank outside, Option.map_none]

end Sys2Proof.Machine
end

section
/-! SUPPORT. The station table as a list of places (R131): its places in order, its keys, the lowest empty place, and
what a write, a new place and a sweep leave of them. -/

namespace Sys2Proof.Machine

/-! ### A sound table -/

/-- The places stand in rising order of index. -/
abbrev Rising (ps : List Place) : Prop := ps.Pairwise fun p q => p.index < q.index

/-- What StationLaw says of a list of places under the bays' windows, its keys told apart by their places. -/
structure TableSound (windows : Bay → Window) (ps : List Place) : Prop where
  rising : Rising ps
  bound : ∀ p ∈ ps, p.index < 1024
  keys : ∀ p ∈ ps, ∀ q ∈ ps, p.entry.address = q.entry.address → p.entry.chassisTag = q.entry.chassisTag →
    p.index = q.index
  tags : ∀ p ∈ ps, forwardTag (windows p.entry.bay) p.entry.bladeTag = some p.entry.chassisTag

/-- In a rising table a place is known by its index. -/
theorem eq_of_index_eq {ps : List Place} (rising : Rising ps) {p q : Place} (hp : p ∈ ps)
    (hq : q ∈ ps) (index : p.index = q.index) : p = q := by
  by_contra ne
  have symm : Std.Symm fun p q : Place => p.index ≠ q.index := ⟨fun _ _ => Ne.symm⟩
  have apart : ps.Pairwise fun p q => p.index ≠ q.index := rising.imp Nat.ne_of_lt
  exact apart.forall hp hq ne index

theorem stationLaw_iff (s : State) : StationLaw s ↔ TableSound (window s) s.stb.places := by
  constructor
  · rintro ⟨rising, bound, keys, tags⟩
    refine ⟨rising, bound, fun p hp q hq address tag => ?_, tags⟩
    have symm : Std.Symm fun p q : Place =>
        ¬(p.entry.address = q.entry.address ∧ p.entry.chassisTag = q.entry.chassisTag) :=
      ⟨fun _ _ h k => h ⟨k.1.symm, k.2.symm⟩⟩
    by_contra ne
    exact List.Pairwise.forall keys hp hq (fun e => ne (congrArg _ e)) ⟨address, tag⟩
  · rintro ⟨rising, bound, keys, tags⟩
    refine ⟨rising, bound, rising.imp_of_mem fun {p q} hp hq below same => ?_, tags⟩
    exact below.ne (keys p hp q hq same.1 same.2)

section
variable {windows : Bay → Window} {ps qs : List Place}

theorem TableSound.sublist (h : TableSound windows ps) (sub : qs.Sublist ps) : TableSound windows qs where
  rising := h.rising.sublist sub
  bound p hp := h.bound p (sub.subset hp)
  keys p hp q hq := h.keys p (sub.subset hp) q (sub.subset hq)
  tags p hp := h.tags p (sub.subset hp)

/-- Places may be given up, and the kinds of the others changed. -/
theorem TableSound.filterMap (h : TableSound windows ps) {f : Place → Option Place}
    (same : ∀ p q, f p = some q → ∃ k, q = { p with entry := { p.entry with kind := k } }) :
    TableSound windows (ps.filterMap f) where
  rising := List.pairwise_filterMap.mpr (h.rising.imp fun {p q} below p' hp q' hq => by
    obtain ⟨_, rfl⟩ := same p p' hp
    obtain ⟨_, rfl⟩ := same q q' hq
    exact below)
  bound q hq := by
    obtain ⟨p, hp, found⟩ := List.mem_filterMap.mp hq
    obtain ⟨_, rfl⟩ := same p q found
    exact h.bound p hp
  keys p' hp' q' hq' address tag := by
    obtain ⟨p, hp, found⟩ := List.mem_filterMap.mp hp'
    obtain ⟨q, hq, found'⟩ := List.mem_filterMap.mp hq'
    obtain ⟨_, rfl⟩ := same p p' found
    obtain ⟨_, rfl⟩ := same q q' found'
    exact h.keys p hp q hq address tag
  tags q hq := by
    obtain ⟨p, hp, found⟩ := List.mem_filterMap.mp hq
    obtain ⟨_, rfl⟩ := same p q found
    exact h.tags p hp

end

/-! ### The entry of one place -/

/-- The place with this entry, where it is the one of this index. -/
def putEntry (i : Nat) (e : StationEntry) (p : Place) : Place := if p.index = i then { p with entry := e } else p

theorem writePlace_places (i : Nat) (e : StationEntry) (s : State) :
    (writePlace i e s).stb.places = s.stb.places.map (putEntry i e) := rfl

@[simp] theorem putEntry_index (i : Nat) (e : StationEntry) (p : Place) : (putEntry i e p).index = p.index := by
  unfold putEntry
  split <;> rfl

theorem mem_map_putEntry {i : Nat} {e : StationEntry} {ps : List Place} {q : Place} :
    q ∈ ps.map (putEntry i e) ↔ (q ∈ ps ∧ q.index ≠ i) ∨ (q = ⟨i, e⟩ ∧ ∃ p ∈ ps, p.index = i) := by
  constructor
  · intro hq
    obtain ⟨p, hp, rfl⟩ := List.mem_map.mp hq
    by_cases index : p.index = i
    · exact .inr ⟨by rw [putEntry, if_pos index, ← index], p, hp, index⟩
    · rw [putEntry, if_neg index]
      exact .inl ⟨hp, index⟩
  · rintro (⟨hq, index⟩ | ⟨rfl, p, hp, rfl⟩)
    · exact List.mem_map.mpr ⟨q, hq, if_neg index⟩
    · exact List.mem_map.mpr ⟨p, hp, if_pos rfl⟩

theorem rising_map_putEntry {ps : List Place} (rising : Rising ps) (i : Nat)
    (e : StationEntry) : Rising (ps.map (putEntry i e)) := by
  simpa [List.pairwise_map] using rising

section
variable {windows : Bay → Window} {ps : List Place} {i : Nat} {e : StationEntry}

/-- A sound table stays so with an entry written whose key no other place holds. -/
theorem TableSound.put (h : TableSound windows ps)
    (key : ∀ p ∈ ps, p.entry.address = e.address → p.entry.chassisTag = e.chassisTag → p.index = i)
    (tag : forwardTag (windows e.bay) e.bladeTag = some e.chassisTag) : TableSound windows (ps.map (putEntry i e)) where
  rising := rising_map_putEntry h.rising i e
  bound q hq := by
    obtain ⟨p, hp, rfl⟩ := List.mem_map.mp hq
    rw [putEntry_index]
    exact h.bound p hp
  keys p hp q hq address chassis := by
    rcases mem_map_putEntry.mp hp with ⟨hp, index⟩ | ⟨rfl, -⟩ <;>
      rcases mem_map_putEntry.mp hq with ⟨hq, index'⟩ | ⟨rfl, -⟩
    · exact h.keys p hp q hq address chassis
    · exact key p hp address chassis
    · exact (key q hq address.symm chassis.symm).symm
    · rfl
  tags q hq := by
    rcases mem_map_putEntry.mp hq with ⟨hq, -⟩ | ⟨rfl, -⟩
    · exact h.tags q hq
    · exact tag

end

/-! ### A new place -/

theorem mem_insertPlace {x q : Place} {ps : List Place} : q ∈ insertPlace x ps ↔ q = x ∨ q ∈ ps := by
  induction ps with
  | nil => simp [insertPlace]
  | cons p rest ih =>
    unfold insertPlace
    split
    · simp only [List.mem_cons, ih]
      exact or_left_comm
    · simp only [List.mem_cons]

theorem rising_insertPlace {x : Place} {ps : List Place} (rising : Rising ps)
    (free : ∀ p ∈ ps, p.index ≠ x.index) : Rising (insertPlace x ps) := by
  induction ps with
  | nil => simp [insertPlace]
  | cons p rest ih =>
    obtain ⟨first, rest_⟩ := List.pairwise_cons.mp rising
    obtain ⟨ne, free_⟩ := List.forall_mem_cons.mp free
    unfold insertPlace
    split
    · next below =>
      refine List.pairwise_cons.mpr ⟨fun q hq => ?_, ih rest_ free_⟩
      rcases mem_insertPlace.mp hq with rfl | hq
      · exact below
      · exact first q hq
    · next above =>
      have least : x.index < p.index := by omega
      refine List.pairwise_cons.mpr ⟨fun q hq => ?_, rising⟩
      rcases List.mem_cons.mp hq with rfl | hq
      · exact least
      · exact least.trans (first q hq)

/-- A sound table stays so with a new place of a free index and a new key. -/
theorem TableSound.insert {windows : Bay → Window} {ps : List Place} {x : Place} (h : TableSound windows ps)
    (free : ∀ p ∈ ps, p.index ≠ x.index) (bound : x.index < 1024)
    (key : ∀ p ∈ ps, ¬(p.entry.address = x.entry.address ∧ p.entry.chassisTag = x.entry.chassisTag))
    (tag : forwardTag (windows x.entry.bay) x.entry.bladeTag = some x.entry.chassisTag) :
    TableSound windows (insertPlace x ps) where
  rising := rising_insertPlace h.rising free
  bound p hp := by
    rcases mem_insertPlace.mp hp with rfl | hp
    · exact bound
    · exact h.bound p hp
  keys p hp q hq address chassis := by
    rcases mem_insertPlace.mp hp with new | old <;> rcases mem_insertPlace.mp hq with new' | old'
    · rw [new, new']
    · exact absurd ⟨new ▸ address.symm, new ▸ chassis.symm⟩ (key q old')
    · exact absurd ⟨new' ▸ address, new' ▸ chassis⟩ (key p old)
    · exact h.keys p old q old' address chassis
  tags p hp := by
    rcases mem_insertPlace.mp hp with rfl | hp
    · exact tag
    · exact h.tags p hp

/-! ### The lowest empty place -/

theorem le_lowestFrom (n : Nat) (ps : List Place) : n ≤ lowestFrom n ps := by
  induction ps generalizing n with
  | nil => exact Nat.le_refl n
  | cons p rest ih =>
    unfold lowestFrom
    split
    · exact (Nat.le_succ n).trans (ih (n + 1))
    · exact Nat.le_refl n

section
variable {n : Nat} {ps : List Place} (rising : Rising ps) (from_ : ∀ p ∈ ps, n ≤ p.index)
include rising from_

theorem lowestFrom_free : ∀ p ∈ ps, p.index ≠ lowestFrom n ps := by
  induction ps generalizing n with
  | nil => simp
  | cons p rest ih =>
    obtain ⟨first, rest_⟩ := List.pairwise_cons.mp rising
    have least := from_ p List.mem_cons_self
    intro q hq
    unfold lowestFrom
    split
    · next index =>
      rcases List.mem_cons.mp hq with rfl | hq
      · have := le_lowestFrom (n + 1) rest
        omega
      · exact ih rest_ (fun q hq => by have := first q hq; omega) q hq
    · rcases List.mem_cons.mp hq with rfl | hq
      · omega
      · have := first q hq
        omega

theorem exists_of_lt_lowestFrom {j : Nat} (above : n ≤ j) (below : j < lowestFrom n ps) : ∃ p ∈ ps, p.index = j := by
  induction ps generalizing n with
  | nil => exact absurd below (Nat.not_lt.mpr above)
  | cons p rest ih =>
    obtain ⟨first, rest_⟩ := List.pairwise_cons.mp rising
    unfold lowestFrom at below
    split at below
    · next index =>
      by_cases here : j = n
      · exact ⟨p, List.mem_cons_self, index.trans here.symm⟩
      · obtain ⟨q, hq, found⟩ := ih rest_ (fun q hq => by have := first q hq; omega) (n := n + 1) (by omega) below
        exact ⟨q, List.mem_cons_of_mem p hq, found⟩
    · omega

end

theorem lowestEmpty_eq_some {s : State} {i : Nat} :
    lowestEmpty s = some i ↔ lowestFrom 0 s.stb.places = i ∧ i < 1024 := by
  change (if lowestFrom 0 s.stb.places < 1024 then some (lowestFrom 0 s.stb.places) else none) = some i ↔ _
  rw [Option.ite_none_right_eq_some, Option.some.injEq]
  exact ⟨fun ⟨below, e⟩ => ⟨e, e ▸ below⟩, fun ⟨e, below⟩ => ⟨e ▸ below, e⟩⟩

theorem lowestEmpty_eq_none {s : State} : lowestEmpty s = none ↔ 1024 ≤ lowestFrom 0 s.stb.places := by
  change (if lowestFrom 0 s.stb.places < 1024 then some (lowestFrom 0 s.stb.places) else none) = none ↔ _
  simp

/-- In a table in order the lowest empty place is empty, and every place below it is held. -/
theorem lowestEmpty_spec {s : State} {i : Nat} (rising : Rising s.stb.places)
    (lowest : lowestEmpty s = some i) :
    i < 1024 ∧ (∀ p ∈ s.stb.places, p.index ≠ i) ∧ ∀ j, j < i → ∃ p ∈ s.stb.places, p.index = j := by
  obtain ⟨rfl, below⟩ := lowestEmpty_eq_some.mp lowest
  exact ⟨below, lowestFrom_free rising fun _ _ => Nat.zero_le _,
    fun j => exists_of_lt_lowestFrom rising (fun _ _ => Nat.zero_le _) (Nat.zero_le j)⟩

/-- With no empty place all 1024 are held. -/
theorem full_of_lowestEmpty {s : State} (rising : Rising s.stb.places)
    (full : lowestEmpty s = none) (j : Nat) (below : j < 1024) : ∃ p ∈ s.stb.places, p.index = j :=
  exists_of_lt_lowestFrom rising (fun _ _ => Nat.zero_le _) (Nat.zero_le j)
    (below.trans_le (lowestEmpty_eq_none.mp full))

/-! ### Keys -/

theorem hasKey_iff {a : Addr} {c : Nat} {p : Place} :
    hasKey a c p = true ↔ p.entry.address = a ∧ p.entry.chassisTag = c := by simp [hasKey]

theorem findStation_some {s : State} {a : Addr} {c : Nat} {p : Place} (found : findStation s a c = some p) :
    p ∈ s.stb.places ∧ p.entry.address = a ∧ p.entry.chassisTag = c :=
  ⟨List.mem_of_find?_eq_some found, hasKey_iff.mp (List.find?_some found)⟩

theorem findStation_none {s : State} {a : Addr} {c : Nat} (missing : findStation s a c = none) (p : Place)
    (hp : p ∈ s.stb.places) : ¬(p.entry.address = a ∧ p.entry.chassisTag = c) := fun key =>
  List.find?_eq_none.mp missing p hp (hasKey_iff.mpr key)

/-- The place that holds a key is the only one. -/
theorem TableSound.index_of_found {windows : Bay → Window} {s : State} {a : Addr} {c : Nat} {p : Place}
    (h : TableSound windows s.stb.places) (found : findStation s a c = some p) (q : Place) (hq : q ∈ s.stb.places)
    (address : q.entry.address = a) (chassis : q.entry.chassisTag = c) : q.index = p.index := by
  obtain ⟨hp, rfl, rfl⟩ := findStation_some found
  exact h.keys q hq p hp address chassis

end Sys2Proof.Machine
end

section
/-! SUPPORT. A window change (R124, R125): each STATIC entry of the bay settled in its place, one after the other. -/

namespace Sys2Proof.Machine

/-! ### One entry settled -/

theorem blocksKey_iff {b : Bay} {i : Nat} {a : Addr} {c : Nat} {p : Place} :
    blocksKey b i a c p = true ↔ p.index ≠ i ∧ p.entry.address = a ∧ p.entry.chassisTag = c
      ∧ isDynamic p.entry = false ∧ (p.entry.bay ≠ b ∨ p.index < i) := by
  simp [blocksKey, hasKey_iff, and_assoc]

/-- Why a STATIC entry of the bay loses its place to the window (R125). -/
def Unsettled (b : Bay) (w : Window) (x : Place) (ps : List Place) : Prop :=
  forwardTag w x.entry.bladeTag = none
    ∨ ∃ p ∈ ps, isDynamic p.entry = false ∧ (p.entry.bay ≠ b ∨ p.index < x.index) ∧ p.index ≠ x.index
        ∧ p.entry.address = x.entry.address ∧ forwardTag w x.entry.bladeTag = some p.entry.chassisTag

/-- The entry under another chassis tag. -/
def retagged (x : Place) (c : Nat) : Place := { x with entry := { x.entry with chassisTag := c } }

/-- The STATIC entry at `x` has been settled: it is dropped where its new key is not to be had, and otherwise takes it,
displacing a DYNAMIC entry of another place; every other place stands (R125). -/
structure StaticSettled (b : Bay) (w : Window) (x : Place) (s t : State) : Prop where
  rising : Rising s.stb.places → Rising t.stb.places
  kept : ∀ q ∈ s.stb.places, q.index ≠ x.index → isDynamic q.entry = false → q ∈ t.stb.places
  origin : ∀ q ∈ t.stb.places, q ∈ s.stb.places ∧ q.index ≠ x.index
    ∨ ∃ c, q = retagged x c ∧ forwardTag w x.entry.bladeTag = some c
  apart : ∀ c, retagged x c ∈ t.stb.places → ∀ p ∈ t.stb.places, p.index ≠ x.index →
    p.entry.address = x.entry.address → p.entry.chassisTag = c →
      isDynamic p.entry = false ∧ p.entry.bay = b ∧ x.index ≤ p.index
  displaced : ∀ q ∈ s.stb.places, q.index ≠ x.index → q ∈ t.stb.places
    ∨ retagged x q.entry.chassisTag ∈ t.stb.places ∧ x.entry.address = q.entry.address
  settled : (∃ p ∈ t.stb.places, p.index = x.index ∧ isDynamic p.entry = false)
    ∨ Unsettled b w x t.stb.places ∧ Raised (.translateDrop b true) t
  raised : Raised (.translateDrop b true) s → Raised (.translateDrop b true) t

theorem dropStatic_settled {b : Bay} {w : Window} {x : Place} {s : State} (reason : Unsettled b w x s.stb.places) :
    StaticSettled b w x s (dropStatic b x.index s) := by
  have places : (dropStatic b x.index s).stb.places = s.stb.places.filter fun p => p.index ≠ x.index := by
    rw [dropStatic, (raise_keeps _ _).stb_eq, emptyPlace, updPlaces_stb]
  have mem (q) : q ∈ (dropStatic b x.index s).stb.places ↔ q ∈ s.stb.places ∧ q.index ≠ x.index := by simp [places]
  have raised : Raised (.translateDrop b true) (dropStatic b x.index s) := raise_raised _ _ (by simp [causeClass])
  refine ⟨fun rising => places ▸ rising.filter _, fun q hq index _ => (mem q).mpr ⟨hq, index⟩,
    fun q hq => .inl ((mem q).mp hq), fun c hc => absurd rfl ((mem _).mp hc).2,
    fun q hq index => .inl ((mem q).mpr ⟨hq, index⟩), .inr ⟨reason.imp_right ?_, raised⟩, fun _ => raised⟩
  rintro ⟨p, hp, fixed, order, index, key⟩
  exact ⟨p, (mem p).mpr ⟨hp, index⟩, fixed, order, index, key⟩

/-- The entry at `x` takes its new key, and a DYNAMIC entry that held it is displaced (R125). -/
def takeStatic (x : Place) (c : Nat) (s : State) : State :=
  writePlace x.index { x.entry with chassisTag := c }
    (updPlaces (fun ps => ps.filter fun q =>
      !(q.index != x.index && hasKey x.entry.address c q && isDynamic q.entry)) s)

theorem mem_takeStatic {x q : Place} {c : Nat} {s : State} (here : x ∈ s.stb.places) :
    q ∈ (takeStatic x c s).stb.places ↔ q = retagged x c ∨ q ∈ s.stb.places ∧ q.index ≠ x.index
      ∧ (q.entry.address = x.entry.address → q.entry.chassisTag = c → isDynamic q.entry = false) := by
  rw [takeStatic, writePlace_places, mem_map_putEntry, or_comm, updPlaces_stb]
  have standing : ∃ p ∈ s.stb.places.filter fun q =>
      !(q.index != x.index && hasKey x.entry.address c q && isDynamic q.entry), p.index = x.index :=
    ⟨x, List.mem_filter.mpr ⟨here, by simp⟩, rfl⟩
  refine or_congr (and_iff_left standing) ?_
  simp only [List.mem_filter, Bool.not_eq_true', Bool.and_eq_false_iff, bne_eq_false_iff_eq, hasKey,
    beq_eq_false_iff_ne]
  tauto

/-- No entry that stands in the way holds the key. -/
theorem takeStatic_settled {b : Bay} {w : Window} {x : Place} {s : State} {c : Nat} (here : x ∈ s.stb.places)
    (static : isDynamic x.entry = false) (tag : forwardTag w x.entry.bladeTag = some c)
    (free : ∀ p ∈ s.stb.places, ¬blocksKey b x.index x.entry.address c p = true) :
    StaticSettled b w x s (takeStatic x c s) where
  rising h := rising_map_putEntry (h.filter _) _ _
  kept q hq index fixed := (mem_takeStatic here).mpr (.inr ⟨hq, index, fun _ _ => fixed⟩)
  origin q hq := by
    rcases (mem_takeStatic here).mp hq with rfl | ⟨hq, index, -⟩
    · exact .inr ⟨c, rfl, tag⟩
    · exact .inl ⟨hq, index⟩
  apart c' new p hp index address chassis := by
    obtain ⟨old, -, open_⟩ := ((mem_takeStatic here).mp hp).resolve_left fun e => index (e ▸ rfl)
    have same : c' = c := by
      rcases (mem_takeStatic here).mp new with e | ⟨-, index, -⟩
      · exact congrArg (fun q : Place => q.entry.chassisTag) e
      · exact absurd rfl index
    subst same
    have fixed := open_ address chassis
    have stands := free p old
    rw [blocksKey_iff] at stands
    by_contra blocks
    refine stands ⟨index, address, chassis, fixed, ?_⟩
    by_contra order
    simp only [not_or, not_not] at order
    exact blocks ⟨fixed, order.1, by omega⟩
  displaced q hq index := by
    by_cases key : q.entry.address = x.entry.address ∧ q.entry.chassisTag = c
    · exact .inr ⟨(mem_takeStatic here).mpr (.inl (key.2 ▸ rfl)), key.1.symm⟩
    · exact .inl ((mem_takeStatic here).mpr (.inr ⟨hq, index, fun address chassis => absurd ⟨address, chassis⟩ key⟩))
  settled := .inl ⟨retagged x c, (mem_takeStatic here).mpr (.inl rfl), rfl, static⟩
  raised := id

/-- Settling a STATIC entry that stands in the table. -/
theorem settleStatic_settled {b : Bay} {x : Place} {s : State} (here : x ∈ s.stb.places)
    (static : isDynamic x.entry = false) : StaticSettled b (window s b) x s (settleStatic b x s) := by
  unfold settleStatic
  split
  · next overflow => exact dropStatic_settled (.inl overflow)
  next c tag =>
  split
  · next blocked =>
    obtain ⟨p, hp, blocks⟩ := List.any_eq_true.mp blocked
    obtain ⟨index, address, rfl, fixed, order⟩ := blocksKey_iff.mp blocks
    exact dropStatic_settled (.inr ⟨p, hp, fixed, order, index, address, tag⟩)
  · next free =>
    exact takeStatic_settled here static tag fun p hp blocks => free (List.any_eq_true.mpr ⟨p, hp, blocks⟩)

/-! ### All of them -/

/-- The recomputation of the bay's STATIC entries from the places `start`, with the entries `todo` still to be settled
(R125). -/
structure Recomputing (b : Bay) (w : Window) (start todo : List Place) (t : State) : Prop where
  rising : Rising t.stb.places
  order : Rising todo
  waiting : ∀ q ∈ todo, q ∈ t.stb.places ∧ q ∈ start ∧ q.entry.bay = b ∧ isDynamic q.entry = false
  behind : ∀ q ∈ start, q.entry.bay = b → isDynamic q.entry = false → q ∉ todo → ∀ x ∈ todo, q.index < x.index
  origin : ∀ p ∈ t.stb.places, p ∈ start ∧ (p.entry.bay ≠ b ∨ p ∈ todo)
    ∨ ∃ q ∈ start, q ∉ todo ∧ q.entry.bay = b ∧ isDynamic q.entry = false ∧ p = retagged q p.entry.chassisTag
        ∧ forwardTag w q.entry.bladeTag = some p.entry.chassisTag
  keys : ∀ p ∈ t.stb.places, ∀ q ∈ t.stb.places, p ∉ todo → q ∉ todo → p.entry.address = q.entry.address →
    p.entry.chassisTag = q.entry.chassisTag → p.index = q.index
  fixed : ∀ q ∈ start, q.entry.bay ≠ b → isDynamic q.entry = false → q ∈ t.stb.places
  displaced : ∀ q ∈ start, q.entry.bay ≠ b → q ∈ t.stb.places
    ∨ ∃ p ∈ t.stb.places, p ∉ todo ∧ p.entry.bay = b ∧ isDynamic p.entry = false
        ∧ p.entry.address = q.entry.address ∧ p.entry.chassisTag = q.entry.chassisTag
  settled : ∀ q ∈ start, q.entry.bay = b → isDynamic q.entry = false → q ∉ todo →
    (∃ p ∈ t.stb.places, p.index = q.index ∧ isDynamic p.entry = false)
      ∨ Unsettled b w q t.stb.places ∧ Raised (.translateDrop b true) t

theorem Recomputing.next {b : Bay} {w : Window} {start rest : List Place} {x : Place} {t u : State}
    (h : Recomputing b w start (x :: rest) t) (one : StaticSettled b w x t u) : Recomputing b w start rest u := by
  obtain ⟨ahead, order⟩ := List.pairwise_cons.mp h.order
  obtain ⟨here, inStart, own, static⟩ := h.waiting x List.mem_cons_self
  have notLeft : x ∉ rest := fun hx => (ahead x hx).ne rfl
  have isX {q} (hq : q ∈ t.stb.places) (index : q.index = x.index) : q = x := eq_of_index_eq h.rising hq here index
  have unlisted {q} (hq : q ∉ rest) (index : q.index ≠ x.index) : q ∉ x :: rest := fun m =>
    (List.mem_cons.mp m).elim (fun e => index (e ▸ rfl)) hq
  have newUnlisted (c : Nat) : retagged x c ∉ rest := fun m => (ahead _ m).ne rfl
  refine ⟨one.rising h.rising, order, fun q hq => ?_, fun q hq bay fixed left y hy => ?_, fun p hp => ?_,
    fun p hp q hq left left' address chassis => ?_, fun q hq bay fixed => ?_, fun q hq bay => ?_,
    fun q hq bay fixed left => ?_⟩
  case refine_1 =>
    obtain ⟨hq', inStart', bay, fixed⟩ := h.waiting q (List.mem_cons_of_mem x hq)
    exact ⟨one.kept q hq' (ahead q hq).ne' fixed, inStart', bay, fixed⟩
  case refine_2 =>
    by_cases e : q = x
    · exact e ▸ ahead y hy
    · exact h.behind q hq bay fixed (fun m => (List.mem_cons.mp m).elim e left) y (List.mem_cons_of_mem x hy)
  case refine_3 =>
    rcases one.origin p hp with ⟨hp, index⟩ | ⟨c, rfl, tag⟩
    · rcases h.origin p hp with ⟨hp', other⟩ | ⟨q, hq, left, bay, fixed, eq, tag⟩
      · refine .inl ⟨hp', other.imp_right fun m => (List.mem_cons.mp m).resolve_left fun e => index (e ▸ rfl)⟩
      · exact .inr ⟨q, hq, fun m => left (List.mem_cons_of_mem x m), bay, fixed, eq, tag⟩
    · exact .inr ⟨x, inStart, notLeft, own, static, rfl, tag⟩
  case refine_4 =>
    -- a place that was there has not the key that the settled entry takes
    have clash {c : Nat} {p : Place} (new : retagged x c ∈ u.stb.places) (hp : p ∈ u.stb.places)
        (old : p ∈ t.stb.places ∧ p.index ≠ x.index) (left : p ∉ rest) (address : p.entry.address = x.entry.address)
        (chassis : p.entry.chassisTag = c) : False := by
      obtain ⟨-, bay, above⟩ := one.apart c new p hp old.2 address chassis
      rcases h.origin p old.1 with ⟨-, other | m⟩ | ⟨q, hq, left, bay, fixed, eq, -⟩
      · exact other bay
      · exact unlisted left old.2 m
      · have := h.behind q hq bay fixed left x List.mem_cons_self
        rw [eq] at above
        exact absurd above (Nat.not_le.mpr this)
    rcases one.origin p hp with old | ⟨c, rfl, -⟩ <;> rcases one.origin q hq with old' | ⟨c', rfl, -⟩
    · exact h.keys p old.1 q old'.1 (unlisted left old.2) (unlisted left' old'.2) address chassis
    · exact (clash hq hp old left address chassis).elim
    · exact (clash hp hq old' left' address.symm chassis.symm).elim
    · rfl
  case refine_5 =>
    have hq' := h.fixed q hq bay fixed
    exact one.kept q hq' (fun index => bay (isX hq' index ▸ own)) fixed
  case refine_6 =>
    rcases h.displaced q hq bay with hq' | ⟨p, hp, left, own', fixed, key⟩
    · rcases one.displaced q hq' (fun index => bay (isX hq' index ▸ own)) with hq' | ⟨new, address⟩
      · exact .inl hq'
      · exact .inr ⟨_, new, newUnlisted _, own, static, address, rfl⟩
    · have index : p.index ≠ x.index := fun index => left (isX hp index ▸ List.mem_cons_self)
      exact .inr ⟨p, one.kept p hp index fixed, fun m => left (List.mem_cons_of_mem x m), own', fixed, key⟩
  case refine_7 =>
    by_cases e : q = x
    · exact e ▸ one.settled
    have left' : q ∉ x :: rest := fun m => (List.mem_cons.mp m).elim e left
    have below := h.behind q hq bay fixed left' x List.mem_cons_self
    rcases h.settled q hq bay fixed left' with
      ⟨p, hp, index, static'⟩ | ⟨overflow | ⟨p, hp, static', order', index, key⟩, raised⟩
    · exact .inl ⟨p, one.kept p hp (index ▸ below.ne) static', index, static'⟩
    · exact .inr ⟨.inl overflow, one.raised raised⟩
    · refine .inr ⟨.inr ⟨p, one.kept p hp (fun index => ?_) static', static', order', index, key⟩, one.raised raised⟩
      rcases order' with bay' | lower
      · exact bay' (isX hp index ▸ own)
      · omega

theorem Recomputing.done {b : Bay} {w : Window} {start todo : List Place} {t : State}
    (h : Recomputing b w start todo t) (loaded : window t b = w) :
    Recomputing b w start [] (todo.foldl (fun t p => settleStatic b p t) t) := by
  induction todo generalizing t with
  | nil => exact h
  | cons x rest ih =>
    obtain ⟨here, -, -, static⟩ := h.waiting x List.mem_cons_self
    refine ih (h.next (loaded ▸ settleStatic_settled here static)) ?_
    rw [(settleStatic_keeps b x t).window_eq, loaded]

/-! ### The window loaded (R124) -/

/-- The places that a purge of the bay leaves (R139). -/
def purged (b : Bay) (ps : List Place) : List Place := ps.filter fun p => !(isDynamic p.entry && p.entry.bay == b)

theorem mem_purged {b : Bay} {ps : List Place} {p : Place} :
    p ∈ purged b ps ↔ p ∈ ps ∧ (p.entry.bay = b → isDynamic p.entry = false) := by
  simp only [purged, List.mem_filter, Bool.not_eq_true', Bool.and_eq_false_iff, beq_eq_false_iff_ne, ne_eq]
  tauto

theorem mem_staticsOf {b : Bay} {s : State} {p : Place} :
    p ∈ staticsOf b s ↔ p ∈ s.stb.places ∧ isDynamic p.entry = false ∧ p.entry.bay = b := by
  simp [staticsOf]

section
variable {b : Bay} {w : Window} {s : State} (sound : TableSound (window s) s.stb.places)
include sound

theorem recomputing_purge (w : Window) : Recomputing b w (purged b s.stb.places)
    (staticsOf b (purge b (updWindow b w s))) (purge b (updWindow b w s)) where
  rising := sound.rising.filter _
  order := (sound.rising.filter _).filter _
  waiting q hq := by
    obtain ⟨hq, fixed, bay⟩ := mem_staticsOf.mp hq
    exact ⟨hq, hq, bay, fixed⟩
  behind q hq bay fixed left := absurd (mem_staticsOf.mpr ⟨hq, fixed, bay⟩) left
  origin p hp := .inl ⟨hp, (ne_or_eq p.entry.bay b).imp_right fun bay =>
    mem_staticsOf.mpr ⟨hp, (mem_purged.mp hp).2 bay, bay⟩⟩
  keys p hp q hq _ _ := sound.keys p (mem_purged.mp hp).1 q (mem_purged.mp hq).1
  fixed q hq _ _ := hq
  displaced q hq _ := .inl hq
  settled q hq bay fixed left := absurd (mem_staticsOf.mpr ⟨hq, fixed, bay⟩) left

theorem loadWindow_recomputed (w : Window) : Recomputing b w (purged b s.stb.places) [] (loadWindow b w s) := by
  refine (recomputing_purge sound w).done ?_
  rw [(purge_keeps b _).window_eq, window_updWindow, if_pos rfl]

omit sound in
theorem loadWindow_keeps (b : Bay) (w : Window) (s : State) :
    KeepsAllBut ([.windows, .stations] ++ reportParts) s (loadWindow b w s) :=
  (((updWindow_keeps b w s).within (l := [.windows, .stations] ++ reportParts)).and (purge_keeps b _)).and
    (recomputeStatics_keeps b _)

omit sound in
theorem window_loadWindow (b c : Bay) (w : Window) (s : State) :
    window (loadWindow b w s) c = if c = b then w else window s c := by
  rw [loadWindow, (recomputeStatics_keeps b _).window_eq, (purge_keeps b _).window_eq, window_updWindow]

theorem loadWindow_sound (w : Window) : TableSound (window (loadWindow b w s)) (loadWindow b w s).stb.places := by
  have done := loadWindow_recomputed (b := b) sound w
  refine ⟨done.rising, fun p hp => ?_, fun p hp q hq => done.keys p hp q hq List.not_mem_nil List.not_mem_nil,
    fun p hp => ?_⟩ <;>
    rcases done.origin p hp with ⟨hp, other⟩ | ⟨q, hq, -, bay, -, eq, tag⟩
  · exact sound.bound p (mem_purged.mp hp).1
  · rw [eq]
    exact sound.bound q (mem_purged.mp hq).1
  · rw [window_loadWindow, if_neg (other.resolve_right List.not_mem_nil)]
    exact sound.tags p (mem_purged.mp hp).1
  · have own : p.entry.bay = b := by rw [eq]; exact bay
    have blade : p.entry.bladeTag = q.entry.bladeTag := by rw [eq]; rfl
    rw [window_loadWindow, if_pos own, blade, tag]

end

theorem settleStatic_reported (b : Bay) (x : Place) (s : State) : Reported [9, 7] s (settleStatic b x s) := by
  have dropped : Reported [9, 7] s (dropStatic b x.index s) :=
    (Reported.of_keeps (updPlaces_keeps _ s)).trans (raise_reported (.translateDrop b true) _)
  unfold settleStatic
  split
  · exact dropped
  · split
    · exact dropped
    · exact (Reported.of_keeps (updPlaces_keeps _ s)).trans (.of_keeps (updPlaces_keeps _ _))

theorem loadWindow_reported (b : Bay) (w : Window) (s : State) : Reported [9, 7] s (loadWindow b w s) := by
  have fold (xs : List Place) (t : State) : Reported [9, 7] t (xs.foldl (fun t p => settleStatic b p t) t) := by
    induction xs generalizing t with
    | nil => exact .refl _ t
    | cons x rest ih => exact (settleStatic_reported b x t).trans (ih _)
  exact ((Reported.of_keeps (updWindow_keeps b w s)).trans (.of_keeps (purge_keeps b _))).trans (fold _ _)

/-! ### The request -/

/-- Settles O33: the recomputation, taken to its end, says of each place what becomes of it. -/
theorem windowLoaded : Obligations.WindowLoaded := by
  refine ⟨fun e u b bs cs bb cb s manager law order upper bank chassis => ?_,
    fun e u bay bs cs bb cb s manager bad => ?_⟩
  · have valid : windowValid { bs := bs.toNat, cs := cs.toNat, bb := bb.toNat, cb := cb.toNat } = true :=
      windowValid_iff.mpr ⟨order.trans upper, upper, order, bank, chassis⟩
    generalize shape : ({ bs := bs.toNat, cs := cs.toNat, bb := bb.toNat, cb := cb.toNat } : Window) = w at valid
    have carried : carryOut e (.loadWindow (byteOf b.val) bs cs bb cb) (oneTaken s)
        = answered .ok (loadWindow b w (oneTaken s)) := by
      simp [carryOut, replyLoadWindow, named, shape, valid]
    have frame := loadWindow_keeps b w (oneTaken s)
    have answer := manager.answers (c := .loadWindow e (byteOf b.val) bs cs bb cb) rfl rfl (by simp [namesExist]) rfl
      carried (frame .svcQueue (by decide))
    have sound : TableSound (window (oneTaken s)) (oneTaken s).stb.places := (stationLaw_iff s).mp law
    have done := loadWindow_recomputed (b := b) sound w
    have windows (c) := window_loadWindow b c w (oneTaken s)
    have lawful := loadWindow_sound (b := b) sound w
    have reported := loadWindow_reported b w (oneTaken s)
    generalize loadWindow b w (oneTaken s) = t at *
    have here (p) (hp : p ∈ t.stb.places) := done.origin p hp
    refine ⟨untaken s t, answer, (windows b).trans (if_pos rfl), fun c other => (windows c).trans (if_neg other),
      (stationLaw_iff _).mpr lawful, fun p hp own => ?_, fun p hp => ?_, fun p hp own => ?_, fun q hq other fixed => ?_,
      fun q hq other _ => ?_, fun q hq own fixed => ?_, reported.flags, reported.alerts, frame.untaken⟩
    · rcases here p hp with ⟨-, other⟩ | ⟨q, -, -, -, fixed, eq, -⟩
      · exact absurd own (other.resolve_right List.not_mem_nil)
      · rw [eq]
        exact fixed
    · rcases here p hp with ⟨hp, -⟩ | ⟨q, -, -, bay, -, eq, -⟩
      · exact .inl (mem_purged.mp hp).1
      · rw [eq]
        exact .inr bay
    · rcases here p hp with ⟨-, other⟩ | ⟨q, hq, -, -, -, eq, -⟩
      · exact absurd own (other.resolve_right List.not_mem_nil)
      · exact ⟨q, (mem_purged.mp hq).1, congrArg (·.index) eq.symm, congrArg (·.entry) eq⟩
    · exact done.fixed q (mem_purged.mpr ⟨hq, fun own => absurd own other⟩) other fixed
    · refine (done.displaced q (mem_purged.mpr ⟨hq, fun own => absurd own other⟩) other).imp_right ?_
      rintro ⟨p, hp, -, own, -, key⟩
      exact ⟨p, hp, own, hasKey_iff.mpr key⟩
    · refine (done.settled q (mem_purged.mpr ⟨hq, fun _ => fixed⟩) own fixed List.not_mem_nil).imp_left ?_
      rintro ⟨p, hp, index, -⟩
      exact ⟨p, hp, index⟩
  · have refused := manager.badArg (c := .loadWindow e bay bs cs bb cb) rfl rfl rfl fun names => by
      obtain ⟨b, named_⟩ := Option.isSome_iff_exists.mp names
      have invalid : windowValid { bs := bs.toNat, cs := cs.toNat, bb := bb.toNat, cb := cb.toNat } = false := by
        rw [← Bool.not_eq_true, windowValid_iff]
        rintro ⟨bs, cs, order, bank, chassis⟩
        have exists_ : ¬16 ≤ bay.toNat := fun none_ => by simp [asBay_eq_none none_] at named_
        simp only at bs cs order bank chassis
        omega
      simp [carryOut, replyLoadWindow, named, named_, invalid]
    exact refused

end Sys2Proof.Machine
end

section
/-! SUPPORT. The copies that the forwarding engine makes (R135 to R138): one copy offered to a queue, and the flood. -/

namespace Sys2Proof.Machine

/-! ### One copy offered (R150, R156) -/

theorem fits_iff {s : State} {p : Port} {n : Nat} :
    fits s p n = true ↔ (queueOf s p).held + n ≤ (queueOf s p).quota ∧ n ≤ s.fbm.free := by simp [fits]

theorem countDropped_one (p : Port) (s : State) : countDropped 1 p s = oneDropped p s := rfl

theorem offerVerdict_open {p : Port} {s : State} (up : ∀ u, p = .uplink u → usable s u = true) (c : Copy) :
    offerVerdict p c s = if fits s p (copyCells c) then .admitted else .lost := by
  cases p with
  | bay b => rfl
  | uplink u => simp [offerVerdict, up u rfl]

section
variable {p : Port} {c : Copy} {s : State}

theorem offer_admitted (admitted : offerVerdict p c s = .admitted) : offer p c s = enqueueCopy p c s := by
  simp [offer, offerQuiet, admitted]

theorem offer_lost (lost : offerVerdict p c s = .lost) :
    offer p c s = raise (.queueDrop (.egress p)) (oneDropped p s) := by simp [offer, offerQuiet, lost, countDropped_one]

theorem offer_unusable {u : Uplink} (down : usable s u = false) :
    offer (.uplink u) c s = oneDropped (.uplink u) s := by
  simp [offer, offerQuiet, offerVerdict, down, countDropped_one]

variable (up : ∀ u, p = .uplink u → usable s u = true)
include up

theorem offer_room (room : (queueOf s p).held + copyCells c ≤ (queueOf s p).quota ∧ copyCells c ≤ s.fbm.free) :
    offer p c s = enqueueCopy p c s :=
  offer_admitted (by rw [offerVerdict_open up, if_pos (fits_iff.mpr room)])

theorem offer_full (full : ¬((queueOf s p).held + copyCells c ≤ (queueOf s p).quota ∧ copyCells c ≤ s.fbm.free)) :
    offer p c s = raise (.queueDrop (.egress p)) (oneDropped p s) :=
  offer_lost (by rw [offerVerdict_open up, if_neg (mt fits_iff.mp full)])

end

/-- An offered copy is received as R150 and R156 say. -/
theorem offer_received (p : Port) (c : Copy) (s : State) : Received p c s (offer p c s) := by
  have entered (up : ∀ u, p = .uplink u → usable s u = true)
      (room : (queueOf s p).held + copyCells c ≤ (queueOf s p).quota ∧ copyCells c ≤ s.fbm.free) :
      queueOf (offer p c s) p = { queueOf s p with
          frames := (queueOf s p).frames ++ [c], held := (queueOf s p).held + copyCells c
          enqueued := min ((queueOf s p).enqueued + 1) 4294967295
          sending := (queueOf s p).sending || served s p }
        ∧ (offer p c s).fbm.free = s.fbm.free - copyCells c ∧ (offer p c s).sve.flags = s.sve.flags
        ∧ ∀ x, x ≠ p → queueOf (offer p c s) x = queueOf s x := by
    rw [offer_room up room]
    refine ⟨?_, enqueueCopy_free p c s, (enqueueCopy_keeps p c s) .flags (by cases p <;> simp [queuePart]),
      fun x hx => ?_⟩
    · rw [queueOf_enqueueCopy, if_pos rfl, satAdd_top32]
    · rw [queueOf_enqueueCopy, if_neg hx]
  have lost (up : ∀ u, p = .uplink u → usable s u = true)
      (full : ¬((queueOf s p).held + copyCells c ≤ (queueOf s p).quota ∧ copyCells c ≤ s.fbm.free)) :
      Alerted (.queueDrop (.egress p)) (oneDropped p s) (offer p c s)
        ∧ ∀ b, queueOf (offer p c s) (.bay b) = queueOf (oneDropped p s) (.bay b) := by
    rw [offer_full up full]
    exact ⟨raise_alerted _ _, fun b => (raise_keeps _ _).bayQueue_eq b⟩
  cases p with
  | bay b => exact ⟨fun _ => entered (by simp), fun _ => lost (by simp), fun down => by cases down⟩
  | uplink u =>
    exact ⟨fun up => entered (fun v e => Port.uplink.inj e ▸ up), fun up => lost (fun v e => Port.uplink.inj e ▸ up),
      fun down => offer_unusable down⟩

theorem offer_bay_keeps (b : Bay) (c : Copy) (s : State) :
    KeepsAllBut (.bayQueues :: reportParts) s (offer (.bay b) c s) := offer_keeps (.bay b) c s

theorem offer_uplink_keeps (u : Uplink) (c : Copy) (s : State) : KeepsAllBut reportParts s (offer (.uplink u) c s) :=
  (offer_keeps (.uplink u) c s).within (by simp [queuePart, reportParts])

/-- A copy for a bay reports by QUEUE_DROP alone. -/
theorem offer_bay_reported (b : Bay) (c : Copy) (s : State) : Reported [7] s (offer (.bay b) c s) := by
  have quiet : Reported [7] s (offerQuiet (.bay b) c s) :=
    .of_keeps (offerQuiet_keeps (.bay b) c s) (by simp [queuePart])
  unfold offer
  split
  · exact quiet.and (raise_reported (.queueDrop (.egress (.bay b))) _) (by simp [causeClass])
  · exact quiet

/-- A copy for a bay leaves the other bays' queues. -/
theorem offer_bayQueuesKept (b : Bay) (c : Copy) (s : State) : OtherBayQueuesKept b s (offer (.bay b) c s) :=
  fun x hx => by
    have ne : Port.bay x ≠ .bay b := fun e => hx (Port.bay.inj e)
    by_cases room : (queueOf s (.bay b)).held + copyCells c ≤ (queueOf s (.bay b)).quota ∧ copyCells c ≤ s.fbm.free
    · rw [offer_room (by simp) room, queueOf_enqueueCopy, if_neg ne]
    · rw [offer_full (by simp) room, (raise_keeps _ _).bayQueue_eq, ← countDropped_one, queueOf_countDropped, if_neg ne]

/-! ### The cells that copies take (R154, R156) -/

/-- A raising takes one cell at most, for its alert. -/
theorem raise_free (c : Cause) (s : State) : s.fbm.free ≤ (raise c s).fbm.free + 1 := by
  obtain ⟨sent, quiet⟩ := raise_alerted c s
  by_cases still : ¬((flagRec s (causeClass c)).raised = false ∧ Bank.read s.sve.unmasked (causeClass c) = true)
      ∨ ∀ x, s.sve.alertTarget = some x → usable (raise c s) x.1 = false
  · obtain ⟨-, -, free, -⟩ := quiet still
    omega
  · push Not at still
    obtain ⟨due, x, target, up⟩ := still
    obtain ⟨-, room, full⟩ := sent x target due (by simpa using up)
    by_cases fits : (queueOf s (.uplink x.1)).held + 1 ≤ (queueOf s (.uplink x.1)).quota ∧ 1 ≤ s.fbm.free
    · obtain ⟨-, -, free, -⟩ := room fits
      omega
    · obtain ⟨-, -, -, free, -⟩ := full fits
      omega

/-- The longest frame that a port takes makes a copy of 13 cells at most. -/
theorem copyCells_frameCopy {f : RxFrame} (sound : frameSound f = true) (tag : Nat) :
    copyCells (frameCopy f tag) ≤ 13 := by
  have long : f.bytes.length + 4 ≤ 1600 := of_decide_eq_true (Bool.and_eq_true_iff.mp sound).2
  have untagged : (frameUntagged f).length ≤ f.bytes.length := by
    simp only [frameUntagged, List.length_append, List.length_take, List.length_drop]
    split <;> omega
  have field : tagFieldLength tag ≤ 4 := by
    unfold tagFieldLength
    split <;> omega
  simp only [copyCells, copyLength, frameCopy, cellsOf, ceilDiv, Config.cellBytes]
  omega

theorem offer_bay_free {b : Bay} {c : Copy} (small : copyCells c ≤ 13) (s : State) :
    s.fbm.free ≤ (offer (.bay b) c s).fbm.free + 13 := by
  by_cases room : (queueOf s (.bay b)).held + copyCells c ≤ (queueOf s (.bay b)).quota ∧ copyCells c ≤ s.fbm.free
  · rw [offer_room (by simp) room, enqueueCopy_free]
    omega
  · rw [offer_full (by simp) room]
    have := raise_free (.queueDrop (.egress (.bay b))) (oneDropped (.bay b) s)
    have free : (oneDropped (.bay b) s).fbm.free = s.fbm.free := rfl
    omega

/-! ### The flood (R129, R137, R138) -/

theorem floodCopy_congr {skip : Option Bay} {s t : State} {b : Bay} (state : bayState t b = bayState s b)
    (windows : window t b = window s b) (f : RxFrame) (c : Nat) :
    floodCopy skip f c t b = floodCopy skip f c s b := by rw [floodCopy, state, windows, floodCopy]

section
variable {skip : Option Bay} {f : RxFrame} {c : Nat} {s : State} {b : Bay}

theorem floodBay_none (noCopy : floodCopy skip f c s b = none) : floodBay skip f c s b = s := by
  unfold floodCopy at noCopy
  unfold floodBay
  split
  · next on =>
    rw [if_pos on, Option.map_eq_none_iff] at noCopy
    rw [noCopy]
  · rfl

/-- A flood copy is offered to its bay, which is in ON. -/
theorem floodBay_some {x : Copy} (copied : floodCopy skip f c s b = some x) :
    floodBay skip f c s b = offer (.bay b) x s ∧ bayState s b = .poweredOn ∧ ∃ tag, x = frameCopy f tag := by
  unfold floodCopy at copied
  split at copied
  · next on =>
    obtain ⟨tag, image, rfl⟩ := Option.map_eq_some_iff.mp copied
    exact ⟨by rw [floodBay, if_pos on, image]; rfl, on.1, tag, rfl⟩
  · cases copied

end

/-- What a part of a flood leaves, with at most 13 cells taken for each of its `n` bays. -/
structure PartFlooded (n : Nat) (s t : State) : Prop where
  frame : KeepsAllBut (.bayQueues :: reportParts) s t
  reported : Reported [7] s t
  free : s.fbm.free ≤ t.fbm.free + 13 * n

section
variable {f : RxFrame} (sound : frameSound f = true) (skip : Option Bay) (c : Nat)
include sound

theorem floodBay_partFlooded (s : State) (b : Bay) : PartFlooded 1 s (floodBay skip f c s b) := by
  cases copy : floodCopy skip f c s b with
  | none =>
    rw [floodBay_none copy]
    exact ⟨KeepsAllBut.refl _ s, .refl _ s, by omega⟩
  | some x =>
    obtain ⟨offered, -, tag, rfl⟩ := floodBay_some copy
    rw [offered]
    exact ⟨offer_bay_keeps b _ s, offer_bay_reported b _ s, offer_bay_free (copyCells_frameCopy sound tag) s⟩

theorem floodBays_partFlooded (bs : List Bay) (s : State) :
    PartFlooded bs.length s (bs.foldl (floodBay skip f c) s) := by
  induction bs generalizing s with
  | nil => exact ⟨KeepsAllBut.refl _ s, .refl _ s, by simp⟩
  | cons b rest ih =>
    obtain ⟨frame, reported, free⟩ := floodBay_partFlooded sound skip c s b
    obtain ⟨frame', reported', free'⟩ := ih (floodBay skip f c s b)
    refine ⟨frame.trans frame', reported.trans reported', ?_⟩
    rw [List.foldl_cons, List.length_cons]
    omega

omit sound in
theorem floodBay_queue_ne {s : State} {b x : Bay} (ne : x ≠ b) :
    queueOf (floodBay skip f c s b) (.bay x) = queueOf s (.bay x) := by
  cases copy : floodCopy skip f c s b with
  | none => rw [floodBay_none copy]
  | some y =>
    rw [(floodBay_some copy).1]
    exact offer_bayQueuesKept b y s x ne

omit sound in
theorem floodBays_queue {bs : List Bay} {x : Bay} (out : x ∉ bs) (s : State) :
    queueOf (bs.foldl (floodBay skip f c) s) (.bay x) = queueOf s (.bay x) := by
  induction bs generalizing s with
  | nil => rfl
  | cons b rest ih =>
    obtain ⟨ne, out'⟩ := not_or.mp (mt List.mem_cons.mpr out)
    rw [List.foldl_cons, ih out', floodBay_queue_ne skip c ne]

omit sound in
/-- What becomes of the copy for one bay in its turn. -/
theorem floodBay_queue {s : State} {b : Bay} {x : Copy} (copy : floodCopy skip f c s b = some x) :
    let q := queueOf s (.bay b)
    let q' := queueOf (floodBay skip f c s b) (.bay b)
    (q.held + copyCells x ≤ q.quota ∧ copyCells x ≤ s.fbm.free → q' = { q with
        frames := q.frames ++ [x], held := q.held + copyCells x
        enqueued := min (q.enqueued + 1) 4294967295, sending := true })
      ∧ (¬(q.held + copyCells x ≤ q.quota ∧ copyCells x ≤ s.fbm.free) →
          q' = { q with dropped := min (q.dropped + 1) 4294967295 }) := by
  obtain ⟨offered, on, -⟩ := floodBay_some copy
  rw [offered]
  have serves : served s (.bay b) = true := by simp [served, on, accepting]
  refine ⟨fun room => ?_, fun full => ?_⟩
  · rw [offer_room (by simp) room, queueOf_enqueueCopy, if_pos rfl, serves, Bool.or_true, satAdd_top32]
  · rw [offer_full (by simp) full, (raise_keeps _ _).bayQueue_eq, oneDropped, queueOf_putQueue_self]

/-- Each bay's copy finds room where its quota allows it and the pool has room for all. -/
theorem flood_floodedTo (s : State) (b : Bay) : FloodedTo b (floodCopy skip f c s b) s (flood skip f c s) := by
  obtain ⟨earlier, later, split⟩ := List.append_of_mem (List.mem_finRange b)
  have nodup : (earlier ++ b :: later).Nodup := split ▸ List.nodup_finRange 16
  have length : earlier.length + (later.length + 1) = 16 := by
    have := congrArg List.length split
    simpa using this.symm
  obtain ⟨-, nodup', apart⟩ := List.nodup_append.mp nodup
  have notBefore : b ∉ earlier := fun m => apart b m b List.mem_cons_self rfl
  have notAfter : b ∉ later := (List.nodup_cons.mp nodup').1
  obtain ⟨frame, -, free⟩ := floodBays_partFlooded sound skip c earlier s
  have same := floodBays_queue (f := f) skip c notBefore s
  have turn : queueOf (flood skip f c s) (.bay b)
      = queueOf (floodBay skip f c (earlier.foldl (floodBay skip f c) s) b) (.bay b) := by
    rw [flood, split, List.foldl_append, List.foldl_cons, floodBays_queue skip c notAfter]
  have copies := floodCopy_congr (skip := skip) (frame.bayState_eq b) (frame.window_eq b) f c
  generalize earlier.foldl (floodBay skip f c) s = v at *
  refine ⟨fun noCopy => ?_, fun x copy => ?_⟩
  · rw [turn, floodBay_none (copies.trans noCopy), same]
  · have small : copyCells x ≤ 13 := by
      obtain ⟨-, -, tag, rfl⟩ := floodBay_some copy
      exact copyCells_frameCopy sound tag
    obtain ⟨admitted, lost⟩ := floodBay_queue skip c (copies.trans copy)
    rw [same] at admitted lost
    rw [turn]
    refine ⟨(em _).imp admitted lost, fun quota pool => admitted ⟨quota, ?_⟩, fun above => lost fun room => ?_⟩
    · omega
    · exact absurd room.1 (Nat.not_le.mpr above)

theorem flood_flooded (s : State) : Flooded f c s (flood none f c s) := flood_floodedTo sound none c s

theorem flood_partFlooded (s : State) : PartFlooded 16 s (flood skip f c s) :=
  floodBays_partFlooded sound skip c (List.finRange 16) s

end

end Sys2Proof.Machine
end

section
/-! SUPPORT. The copies of a frame from a bay (O25), and what an uplink port does with a frame (O26). -/

namespace Sys2Proof.Machine

/-! ### The upstream copies (R135 to R137) -/

/-- The copy for the selected uplink, or the no-uplink drop (R136, R149). -/
theorem sendUplink_copied (b : Bay) (f : RxFrame) (c : Nat) (s : State) :
    UplinkCopied b f c s (sendUplink b f c s) := by
  refine ⟨fun w chosen => ?_, fun noUplink => ?_⟩
  · rw [sendUplink, chosen]
    exact ⟨offer_received (.uplink w) _ s, offer_uplink_keeps w _ s⟩
  · rw [sendUplink, noUplink]
    exact ⟨bayRec_updBay_self .., fun x hx => bayRec_updBay_ne _ s hx, updBay_keeps b _ s⟩

/-- A change of a bay's record that leaves its state leaves every bay's state. -/
theorem bayState_updBay_kept {b : Bay} {g : BayRec → BayRec} (kept : ∀ r, (g r).state = r.state) (s : State) (x : Bay) :
    bayState (updBay b g s) x = bayState s x := by
  by_cases hx : x = b
  · subst hx
    rw [bayState, bayRec_updBay_self]
    exact kept (bayRec s x)
  · rw [bayState, bayRec_updBay_ne g s hx, bayState]

theorem sendUplink_bayState (b : Bay) (f : RxFrame) (c : Nat) (s : State) (x : Bay) :
    bayState (sendUplink b f c s) x = bayState s x := by
  unfold sendUplink
  split
  · exact (offer_uplink_keeps _ _ s).bayState_eq x
  · refine bayState_updBay_kept (fun _ => ?_) s x
    rfl

theorem sendUplink_window (b : Bay) (f : RxFrame) (c : Nat) (s : State) (x : Bay) :
    window (sendUplink b f c s) x = window s x := by
  unfold sendUplink
  split
  · exact (offer_uplink_keeps _ _ s).window_eq x
  · exact (updBay_keeps b _ s).window_eq x

section
variable {b : Bay} {f : RxFrame} {c : Nat} {s : State}

theorem upstreamDestination_group (group : isGroup (frameDst f) = true) :
    upstreamDestination b f c s = flood (some b) f c (sendUplink b f c s) := by
  rw [upstreamDestination, if_pos group]

variable (single : isGroup (frameDst f) = false)
include single

theorem upstreamDestination_miss (miss : findStation s (frameDst f) c = none) :
    upstreamDestination b f c s = sendUplink b f c s := by
  simp [upstreamDestination, single, miss]

theorem upstreamDestination_hit {p : Place} (hit : findStation s (frameDst f) c = some p) :
    upstreamDestination b f c s =
      if p.entry.bay = b then s
      else if bayState s p.entry.bay = .poweredOn then offer (.bay p.entry.bay) (frameCopy f p.entry.bladeTag) s
      else sendUplink b f c s := by
  simp [upstreamDestination, single, hit]

end

/-- A frame from a bay in ON with a translation is learned from and then sent on. -/
theorem bayPortFrame_sent {b : Bay} {f : RxFrame} {s : State} (run : s.mode = .running) (sound : frameSound f = true)
    (dst : frameDst f ≠ serviceAddress s.sve.chassisNumber) (on : bayState s b = .poweredOn) {c : Nat}
    (tag : forwardTag (window s b) (frameTag (.bay b) f) = some c) :
    exec (.bayPortFrame b f) s
      = .next (upstreamDestination b f c (learn b (frameSrc f) (frameTag (.bay b) f) c s)) := by
  rw [bayPortFrame_result run sound, bayFrame_upstream (not_service_of_dst dst) on, upstream_sent dst tag]

/-- Settles O25, by the destination: what its lookup finds, or a group. -/
theorem upstreamCopies : Obligations.UpstreamCopies := by
  refine ⟨fun b f s run sound dst on single c tag => ?_, fun b f s run sound dst on group c tag => ?_⟩
  · have learned := learn_keeps b (frameSrc f) (frameTag (.bay b) f) c s
    refine ⟨_, bayPortFrame_sent run sound dst on tag, fun p hit => ?_, fun miss => ?_⟩
    · rw [upstreamDestination_hit single hit, ← learned.bayState_eq p.entry.bay]
      refine ⟨fun own => if_pos own, fun other up => ?_, fun other down => ?_⟩
      · rw [if_neg other, if_pos up]
        exact ⟨offer_received (.bay p.entry.bay) _ _, offer_bayQueuesKept _ _ _, (offer_bay_reported _ _ _).alerts,
          offer_bay_keeps _ _ _⟩
      · rw [if_neg other, if_neg down]
        exact sendUplink_copied b f c _
    · rw [upstreamDestination_miss single miss]
      exact sendUplink_copied b f c _
  · have learned := learn_keeps b (frameSrc f) (frameTag (.bay b) f) c s
    refine ⟨_, bayPortFrame_sent run sound dst on tag, _, sendUplink_copied b f c _, ?_⟩
    rw [upstreamDestination_group group]
    obtain ⟨frame, reported, -⟩ := flood_partFlooded sound (some b) c (sendUplink b f c
      (learn b (frameSrc f) (frameTag (.bay b) f) c s))
    refine ⟨fun x => ?_, reported.alerts, reported.flags, frame⟩
    have copies : floodCopy (some b) f c (sendUplink b f c (learn b (frameSrc f) (frameTag (.bay b) f) c s)) x
        = floodCopy (some b) f c s x :=
      floodCopy_congr ((sendUplink_bayState ..).trans (learned.bayState_eq x))
        ((sendUplink_window ..).trans (learned.window_eq x)) f c
    rw [← copies]
    exact flood_floodedTo sound (some b) c _ x

/-! ### An uplink port (R138, R151) -/

section
variable {u : Uplink} {f : RxFrame} {s : State}

theorem uplinkPortFrame_result (run : s.mode = .running) (sound : frameSound f = true)
    (link : (uplinkRec s u).link = true) : exec (.uplinkPortFrame u f) s = .next (uplinkFrame u f s) := by
  simp [exec, execUplinkPortFrame, whenRunning_running run, receiveFrame, sound, link]

theorem uplinkPortFrame_unreceived
    (lost : s.mode ≠ .running ∨ frameSound f = false ∨ (uplinkRec s u).link = false) :
    exec (.uplinkPortFrame u f) s = .next s := by
  refine congrArg Host.Outcome.next ?_
  by_cases run : s.mode = .running
  · rcases lost.resolve_left fun h => h run with unsound | down
    · simp [whenRunning_running run, receiveFrame, unsound]
    · simp [whenRunning_running run, receiveFrame, down]
  · exact whenRunning_reset run

theorem uplinkFrame_downstream (service : isServiceFrame s.sve.chassisNumber f = false)
    (enabled : (uplinkRec s u).enabled = true) : uplinkFrame u f s = downstream u f s := by
  simp [uplinkFrame, service, enabled]

theorem downstream_stray (stray : frameDst f = serviceAddress s.sve.chassisNumber) : downstream u f s = s := by
  simp [downstream, strayService, stray]

variable (dst : frameDst f ≠ serviceAddress s.sve.chassisNumber)
include dst

theorem downstream_group (group : isGroup (frameDst f) = true) :
    downstream u f s = flood none f (frameTag (.uplink u) f) s := by
  simp [downstream, strayService, dst, group]

theorem downstream_miss (single : isGroup (frameDst f) = false)
    (miss : findStation s (frameDst f) (frameTag (.uplink u) f) = none) :
    downstream u f s = flood none f (frameTag (.uplink u) f) s := by
  simp [downstream, strayService, dst, single, miss]

theorem downstream_hit (single : isGroup (frameDst f) = false) {p : Place}
    (hit : findStation s (frameDst f) (frameTag (.uplink u) f) = some p) :
    downstream u f s = if dormant s p.entry then flood none f (frameTag (.uplink u) f) s
      else offer (.bay p.entry.bay) (frameCopy f p.entry.bladeTag) s := by
  simp [downstream, strayService, dst, single, hit]

end

/-- Whatever a frame on an enabled uplink makes, it makes for bays: no uplink is offered a copy (R138). -/
theorem downstream_frame {u : Uplink} {f : RxFrame} (sound : frameSound f = true) (s : State) :
    Reported [7] s (downstream u f s) ∧ KeepsAllBut (.bayQueues :: reportParts) s (downstream u f s) := by
  have flooded := flood_partFlooded sound none (frameTag (.uplink u) f) s
  by_cases dst : frameDst f = serviceAddress s.sve.chassisNumber
  · rw [downstream_stray dst]
    exact ⟨.refl _ s, KeepsAllBut.refl _ s⟩
  cases single : isGroup (frameDst f) with
  | true =>
    rw [downstream_group dst single]
    exact ⟨flooded.reported, flooded.frame⟩
  | false =>
    cases found : findStation s (frameDst f) (frameTag (.uplink u) f) with
    | none =>
      rw [downstream_miss dst single found]
      exact ⟨flooded.reported, flooded.frame⟩
    | some p =>
      rw [downstream_hit dst single found]
      split
      · exact ⟨flooded.reported, flooded.frame⟩
      · exact ⟨offer_bay_reported .., offer_bay_keeps _ _ s⟩

theorem dormant_iff {s : State} {e : StationEntry} :
    dormant s e = true ↔ isDynamic e = false ∧ bayState s e.bay ≠ .poweredOn := by
  cases kind : e.kind <;> simp [dormant, isDynamic, kind]

/-- Settles O26, by the kind of the frame and then the uplink's record. -/
theorem uplinkPortFrames : Obligations.UplinkPortFrames := by
  refine ⟨fun u f s lost => uplinkPortFrame_unreceived lost,
    fun u f s run sound link service enabled right => ⟨_, uplinkPortFrame_result run sound link, ?_⟩,
    fun u f s run sound link service closed => ⟨_, uplinkPortFrame_result run sound link, ?_⟩,
    fun u f s run sound link service disabled => ⟨_, uplinkPortFrame_result run sound link, ?_⟩,
    fun u f s run sound link service enabled => ⟨_, uplinkPortFrame_result run sound link, ?_⟩⟩
  · have offered : uplinkFrame u f s = offerService (.uplink u) f s := by simp [uplinkFrame, service, enabled, right]
    rw [offered]
    exact offerService_offered _ f s
  · have refused : uplinkFrame u f s = countRefused (.uplink u) s := by
      rcases closed with h | h <;> simp [uplinkFrame, service, h]
    rw [refused]
    exact ⟨uplinkRec_updUplink_self .., fun v hv => by rw [countRefused, uplinkRec_updUplink, if_neg hv],
      updUplink_keeps u (fun r => { r with refused := satAdd r.refused 1 Config.top16 }) s⟩
  · have refused : uplinkFrame u f s = countDropped 1 (.uplink u) s := by
      simp [uplinkFrame, service, disabled, refuseFrame]
    rw [refused]
    refine ⟨?_, fun v hv => ?_, countDropped_keeps 1 (.uplink u) s⟩
    · rw [queueOf_countDropped, if_pos rfl, satAdd_top32]
    · rw [queueOf_countDropped, if_neg fun e => hv (Port.uplink.inj e)]
  · rw [uplinkFrame_downstream service enabled]
    obtain ⟨reported, frame⟩ := downstream_frame (u := u) sound s
    refine ⟨downstream_stray, fun dst => ⟨fun group => ?_, fun single => ⟨fun miss => ?_, fun p hit => ⟨?_, ?_⟩⟩⟩,
      reported.flags, reported.alerts, frame⟩
    · rw [downstream_group dst group]
      exact flood_flooded sound _ s
    · rw [downstream_miss dst single miss]
      exact flood_flooded sound _ s
    · intro fixed off
      rw [downstream_hit dst single hit, if_pos (dormant_iff.mpr ⟨fixed, off⟩)]
      exact flood_flooded sound _ s
    · intro awaits
      have awake : ¬dormant s p.entry = true := by
        rw [dormant_iff]
        rintro ⟨fixed, off⟩
        simp [fixed, off] at awaits
      rw [downstream_hit dst single hit, if_neg awake]
      exact ⟨offer_received (.bay p.entry.bay) _ s, offer_bayQueuesKept _ _ s⟩

end Sys2Proof.Machine
end

section
/-! SUPPORT. ADD_STATIC, REMOVE_STATIC and SET_AGING (O42). -/

namespace Sys2Proof.Machine

/-- A manager's request that changes the state and answers OK with a result body (R143, R168). -/
theorem FromManager.results {c : Instr} {e : Envelope} {r : Request} {s t : State} {body : List Byte} {u : Uplink}
    (manager : FromManager e u s) (command : c.request? = some (e, r)) (wf : r.wellFormed = true)
    (names : namesExist r = true) (code : bayRequestCode (requestCode r) = false)
    (carried : carryOut e r (oneTaken s) = result body t) (svc : Part.svcQueue.same (oneTaken s) t) :
    Answers c s (untaken s t) e (requestCode r) 0 body := by
  obtain ⟨free, arrival, port⟩ := manager
  have rights : hasRights e.arrival (requestCode r) = true := by
    rw [arrival, hasRights, code]
    rfl
  rw [Answers, oneTaken_untaken svc, exec_free command wf free (arrival ▸ port), serve, portRefuses_oneTaken,
    portRefuses_of_open (arrival ▸ port), if_neg (by simp), reply_carriedOut rights names, carried, respond_result]

/-! ### What the three requests do (R142 to R144) -/

/-- ADD_STATIC is refused where it names no bay, or its key cannot be made (R143). -/
theorem replyAddStatic_badArg {a : Addr} {bay : Byte} {tag : Word16} {s : State}
    (bad : asBay bay = none ∨ 4095 < tag.toNat ∨ isGroup a = true
      ∨ ∀ b, asBay bay = some b → forwardTag (window s b) tag.toNat = none) :
    replyAddStatic a bay tag s = answered .badArg s := by
  unfold replyAddStatic
  cases names : asBay bay with
  | none => rfl
  | some b =>
    rw [names] at bad
    by_cases shape : 4095 < tag.toNat ∨ isGroup a = true
    · simp [named, shape]
    · have overflow : forwardTag (window s b) tag.toNat = none := by
        rcases bad with h | h | h | h
        · cases h
        · exact absurd (.inl h) shape
        · exact absurd (.inr h) shape
        · exact h b rfl
      simp [named, shape, overflow]

theorem replyAddStatic_named {a : Addr} {bay : Byte} {tag : Word16} {s : State} {b : Bay} {k : Nat}
    (names : asBay bay = some b) (small : tag.toNat ≤ 4095) (single : isGroup a = false)
    (key : forwardTag (window s b) tag.toNat = some k) :
    replyAddStatic a bay tag s = addStatic a b tag.toNat k s := by
  simp [replyAddStatic, named, names, Nat.not_lt.mpr small, single, key]

section
variable {a : Addr} {k : Nat} {s : State}

theorem addStatic_held {p : Place} (held : findStation s a k = some p) (b : Bay) (t : Nat) :
    addStatic a b t k s = result (encode16 p.index ++ encode16 k) (writePlace p.index (staticEntry a k b t) s) := by
  rw [addStatic, held]
  rfl

theorem addStatic_free (missing : findStation s a k = none) {i : Nat} (lowest : lowestEmpty s = some i) (b : Bay)
    (t : Nat) : addStatic a b t k s
      = result (encode16 i ++ encode16 k) (updPlaces (insertPlace { index := i, entry := staticEntry a k b t }) s) := by
  rw [addStatic, missing, lowest]
  rfl

theorem addStatic_full (missing : findStation s a k = none) (full : lowestEmpty s = none) (b : Bay) (t : Nat) :
    addStatic a b t k s = answered .full s := by rw [addStatic, missing, full]

theorem replyRemoveStatic_fixed {tag : Word16} {p : Place} (held : findStation s a tag.toNat = some p)
    (fixed : isDynamic p.entry = false) : replyRemoveStatic a tag s = answered .ok (emptyPlace p.index s) := by
  simp [replyRemoveStatic, held, fixed]

theorem replyRemoveStatic_badState {tag : Word16}
    (other : ∀ p, findStation s a tag.toNat = some p → isDynamic p.entry = true) :
    replyRemoveStatic a tag s = answered .badState s := by
  unfold replyRemoveStatic
  cases held : findStation s a tag.toNat with
  | none => rfl
  | some p => exact if_pos (other p held)

end

theorem replySetAging_stored (steps : Word16) (s : State) : replySetAging steps s
    = answered .ok { s with stb := { s.stb with agingSteps := max 1 (min 255 steps.toNat) } } := by
  simp [replySetAging, clamp, updStb]

/-! ### O42 -/

theorem writePlace_keeps (i : Nat) (x : StationEntry) (s : State) : KeepsAllBut [.stations] s (writePlace i x s) :=
  updPlaces_keeps _ s

theorem emptyPlace_keeps (i : Nat) (s : State) : KeepsAllBut [.stations] s (emptyPlace i s) := updPlaces_keeps _ s

theorem window_oneTaken (s : State) (b : Bay) : window (oneTaken s) b = window s b := rfl

theorem findStation_oneTaken (s : State) (a : Addr) (c : Nat) : findStation (oneTaken s) a c = findStation s a c := rfl

theorem lowestEmpty_oneTaken (s : State) : lowestEmpty (oneTaken s) = lowestEmpty s := rfl

/-- The answer to an ADD_STATIC is that of `addStatic` where its key can be made. -/
theorem carryOut_addStatic {a : Addr} {bay : Byte} {tag : Word16} {s : State} {b : Bay} {k : Nat} (e : Envelope)
    (names : asBay bay = some b) (small : tag.toNat ≤ 4095) (single : isGroup a = false)
    (key : forwardTag (window s b) tag.toNat = some k) :
    carryOut e (.addStatic a bay tag) (oneTaken s) = addStatic a b tag.toNat k (oneTaken s) :=
  replyAddStatic_named names small single ((congrArg (forwardTag · _) (window_oneTaken s b)).trans key)

theorem FromManager.removal_refused {e : Envelope} {u : Uplink} {a : Addr} {tag : Word16} {s : State}
    (manager : FromManager e u s) (other : ∀ p, findStation s a tag.toNat = some p → isDynamic p.entry = true) :
    Answers (.removeStatic e a tag) s s e 29 5 [] := by
  have carried : carryOut e (.removeStatic a tag) (oneTaken s) = answered .badState (oneTaken s) :=
    replyRemoveStatic_badState (by simpa only [findStation_oneTaken] using other)
  have refused := manager.refused (c := .removeStatic e a tag) rfl rfl rfl rfl carried
  exact refused

/-- Settles O42, by what holds the key and whether a place is empty. -/
theorem stationRequestsCarriedOut : Obligations.StationRequestsCarriedOut := by
  refine ⟨fun e u a bay tag s manager => ⟨fun bad => ?_, fun b names small single k key => ?_⟩,
    fun e u a tag s manager => ⟨fun p held fixed => ?_, fun p held learned => ?_, fun missing => ?_⟩,
    fun e u steps s manager => ?_, fun s law => ?_, fun x s q => mem_insertPlace⟩
  · have carried : carryOut e (.addStatic a bay tag) (oneTaken s) = answered .badArg (oneTaken s) :=
      replyAddStatic_badArg (by simpa only [window_oneTaken] using bad)
    have refused := manager.badArg (c := .addStatic e a bay tag) rfl rfl rfl fun _ => carried
    exact refused
  · have exist : namesExist (.addStatic a bay tag) = true := by simp [namesExist, names]
    have carried := carryOut_addStatic e names small single key
    refine ⟨fun p held => ?_, fun missing i lowest => ?_, fun missing full => ?_⟩
    · rw [addStatic_held (findStation_oneTaken s a k ▸ held)] at carried
      have frame := writePlace_keeps p.index (staticEntry a k b tag.toNat) (oneTaken s)
      have answer := manager.results (c := .addStatic e a bay tag) rfl rfl exist rfl carried
        (frame .svcQueue (by decide))
      exact ⟨_, answer, rfl, frame.untaken⟩
    · rw [addStatic_free (findStation_oneTaken s a k ▸ missing) (lowestEmpty_oneTaken s ▸ lowest)] at carried
      have frame := updPlaces_keeps (insertPlace { index := i, entry := staticEntry a k b tag.toNat }) (oneTaken s)
      have answer := manager.results (c := .addStatic e a bay tag) rfl rfl exist rfl carried
        (frame .svcQueue (by decide))
      exact ⟨_, answer, rfl, frame.untaken⟩
    · rw [addStatic_full (findStation_oneTaken s a k ▸ missing) (lowestEmpty_oneTaken s ▸ full)] at carried
      have refused := manager.refused (c := .addStatic e a bay tag) rfl rfl exist rfl carried
      exact refused
  · have frame := emptyPlace_keeps p.index (oneTaken s)
    have carried : carryOut e (.removeStatic a tag) (oneTaken s) = answered .ok (emptyPlace p.index (oneTaken s)) :=
      replyRemoveStatic_fixed (findStation_oneTaken s a _ ▸ held) fixed
    have answer := manager.answers (c := .removeStatic e a tag) rfl rfl rfl rfl carried (frame .svcQueue (by decide))
    exact ⟨_, answer, rfl, frame.untaken⟩
  · exact manager.removal_refused fun q hq => Option.some.inj (hq.symm.trans held) ▸ learned
  · exact manager.removal_refused fun q hq => nomatch hq.symm.trans missing
  · have answer := manager.answers (c := .setAging e steps) rfl rfl rfl rfl
      (replySetAging_stored steps (oneTaken s)) rfl
    exact answer
  · have rising := ((stationLaw_iff s).mp law).rising
    exact ⟨fun i => lowestEmpty_spec rising, full_of_lowestEmpty rising⟩

end Sys2Proof.Machine
end

section
/-! SUPPORT. What leaves the station table alone, and every bay but one in ON that was there (O54): each operation of
the part's blocks, said once. -/

namespace Sys2Proof.Machine

/-! ### The relation -/

/-- Windows and stations stand, and every bay in ON stays there but for the leaver. -/
structure TableStands (leaver : Option Bay) (s t : State) : Prop where
  windows : ∀ b, window t b = window s b
  places : t.stb.places = s.stb.places
  stays : ∀ b, leaver ≠ some b → bayState s b = .poweredOn → bayState t b = .poweredOn

section
variable {x : Option Bay} {l : List Part} {s t u : State}

theorem TableStands.refl (x : Option Bay) (s : State) : TableStands x s s := ⟨fun _ => rfl, rfl, fun _ _ => id⟩

theorem TableStands.trans (h : TableStands x s t) (k : TableStands x t u) : TableStands x s u :=
  ⟨fun b => (k.windows b).trans (h.windows b), k.places.trans h.places,
    fun b other => k.stays b other ∘ h.stays b other⟩

theorem TableStands.foldl {α : Type} {f : State → α → State} (h : ∀ s a, TableStands x s (f s a)) (as : List α)
    (s : State) : TableStands x s (as.foldl f s) := by
  induction as generalizing s with
  | nil => exact .refl x s
  | cons a rest ih => exact (h s a).trans (ih _)

/-- An operation that touches neither, and whose bays stay in ON. -/
theorem TableStands.of_states (h : KeepsAllBut l s t)
    (stays : ∀ b, x ≠ some b → bayState s b = .poweredOn → bayState t b = .poweredOn)
    (hl : Part.windows ∉ l ∧ Part.stations ∉ l := by decide) : TableStands x s t :=
  ⟨fun b => h.window_eq b hl.1, h .stations hl.2, stays⟩

/-- An operation that changes no bay but for an emergency's cause and BAY_THR. -/
theorem TableStands.of_bays (h : KeepsAllBut l s t) (bays : ∀ b, sameBayRecord (bayRec s b) (bayRec t b))
    (hl : Part.windows ∉ l ∧ Part.stations ∉ l := by decide) : TableStands x s t :=
  .of_states h (fun b _ on => (bays b).state_eq.trans on) hl

theorem TableStands.of_keeps (h : KeepsAllBut l s t)
    (hl : ∀ p ∈ [Part.bays, .windows, .stations], p ∉ l := by decide) : TableStands x s t :=
  .of_states h (fun b _ on => (h.bayState_eq b (hl _ (by decide))).trans on) ⟨hl _ (by decide), hl _ (by decide)⟩

theorem TableStands.and (h : TableStands x s t) (k : KeepsAllBut l t u)
    (hl : ∀ p ∈ [Part.bays, .windows, .stations], p ∉ l := by decide) : TableStands x s u := h.trans (.of_keeps k hl)

/-- A port's queue is no part of the table. -/
theorem TableStands.of_queue {r : Port} (h : KeepsAllBut (queuePart r :: l) s t)
    (hl : ∀ p ∈ [Part.bays, .windows, .stations], p ∉ l := by decide) : TableStands x s t :=
  .of_keeps h fun p hp => by
    have apart : p ≠ queuePart r := by cases r <;> revert p <;> simp [queuePart]
    simp [apart, hl p hp]

end

section
variable {x : Option Bay}

/-! ### Events, and the writes of a bay -/

theorem raise_stands (c : Cause) (s : State) : TableStands x s (raise c s) := .of_keeps (raise_keeps c s)

theorem evaluate_stands (source : EmgSource) (s : State) : TableStands x s (evaluate source s) :=
  .of_bays (evaluate_keeps source s) (evaluate_bays source s)

theorem evaluateHead_stands (s : State) : TableStands x s (evaluateHead s) := .of_keeps (evaluateHead_keeps s)

/-- A bay's record is written, and its state is not. -/
theorem updBay_stands (b : Bay) {f : BayRec → BayRec} (s : State)
    (state : (f (bayRec s b)).state = (bayRec s b).state) :
    TableStands x s (updBay b f s) := by
  refine .of_states (updBay_keeps b f s) fun c _ on => ?_
  rw [bayState, bayRec_updBay]
  split
  · next e => exact state.trans (e ▸ on)
  · exact on

/-- A bay enters a state; one that leaves ON for it is the leaver. -/
theorem enterState_stands {b : Bay} {st : BayState} {s : State}
    (left : x = some b ∨ bayState s b ≠ .poweredOn ∨ st = .poweredOn) : TableStands x s (enterState b st s) := by
  refine .of_states (enterState_keeps b st s) fun c stays on => ?_
  rw [bayState, bayRec_enterState]
  split
  · next e =>
    subst e
    exact (left.resolve_left stays).resolve_left (· on)
  · exact on

/-- The same with the bay's record written as it enters. -/
theorem enterState_updBay_stands {b : Bay} {st : BayState} {f : BayRec → BayRec} {s : State}
    (left : x = some b ∨ bayState s b ≠ .poweredOn ∨ st = .poweredOn) :
    TableStands x s (enterState b st (updBay b f s)) := by
  refine .of_states (enterState_updBay_keeps b st f s) fun c stays on => ?_
  rw [bayState, bayRec_enterState_updBay]
  split
  · next e =>
    subst e
    exact (left.resolve_left stays).resolve_left (· on)
  · exact on

/-! ### The budget, the hold and the supplies -/

theorem endHold_stands (s : State) : TableStands x s (endHold s) := .of_bays (endHold_keeps s) (endHold_bays s)

theorem testHold_stands (s : State) : TableStands x s (testHold s) := .of_bays (testHold_keeps s) (testHold_bays s)

theorem supplyChanged_stands (p : Psu) (s : State) : TableStands x s (supplyChanged p s) :=
  .of_bays (supplyChanged_keeps p s) (supplyChanged_bays p s)

theorem setGate_stands (g : Gate) (s : State) : TableStands x s (setGate g s) := .of_keeps (setGate_gateSet g s).frame

theorem handShed_stands (s : State) : TableStands x s (handShed s) := by
  unfold handShed
  split
  · exact .of_keeps (updEmg_keeps _ s)
  · exact .of_bays (enterExhausted_keeps s) fun b => .of_eq (enterExhausted_bayRec s b)

theorem endGrace_stands (s : State) : TableStands x s (endGrace s) :=
  (TableStands.of_keeps (graceOver_keeps s)).trans (handShed_stands _)

theorem answerShed_stands (s : State) : TableStands x s (answerShed s) := by
  unfold answerShed
  split
  · exact handShed_stands s
  · exact (TableStands.of_bays (endEmergency_keeps _ s) (endEmergency_bays _ s)).trans (evaluateHead_stands _)

theorem rampEndUnpowered_stands (b : Bay) (s : State) : TableStands x s (rampEndUnpowered b s) :=
  .of_keeps (rampEndUnpowered_keeps b s)

/-! ### Identity scanning -/

/-- A completed identity takes a bay from IDENTIFYING alone to another state. -/
theorem completeAtBay_stands (b : Bay) (s : State) : TableStands x s (completeAtBay b s) := by
  unfold completeAtBay
  split
  · next identifying => exact enterState_stands (.inr (.inl (by simp [identifying])))
  iterate 5 exact updBay_stands b s rfl
  · exact .refl x s

theorem reportComplete_stands (k : Slot) (s : State) : TableStands x s (reportComplete k s) := by
  unfold reportComplete
  split
  · exact (completeAtBay_stands _ s).trans (evaluate_stands _ _)
  · exact supplyChanged_stands _ s
  · exact evaluate_stands _ s

theorem reportStatus_stands (k : Slot) (s : State) : TableStands x s (reportStatus k s) :=
  .of_bays (reportStatus_keeps k s) (reportStatus_others k s).2

theorem requestScan_stands (k : Slot) (s : State) : TableStands x s (requestScan k s) :=
  .of_bays (requestScan_keeps k s) (requestScan_others k s).2

theorem retryDue_stands (k : Slot) (s : State) : TableStands x s (retryDue k s) :=
  (TableStands.of_keeps (queueSlot_keeps k s)).and (engineTakes_keeps _)

theorem scanFailed_stands (k : Slot) (failure : ScanFailure) (s : State) :
    TableStands x s (scanFailed k failure s) := by
  have after (s : State) : TableStands x s (afterFailure k s) := by
    unfold afterFailure
    split
    · exact .of_keeps (updSlot_keeps k _ s)
    · split <;>
        exact ((TableStands.of_keeps (updSlot_keeps k _ s)).trans (reportStatus_stands k _)).trans (raise_stands _ _)
  exact ((TableStands.of_keeps (updSlot_keeps k _ s)).trans (after _)).and (engineTakes_keeps _)

theorem judgeScan_stands (k : Slot) (image : Image) (s : State) : TableStands x s (judgeScan k image s) := by
  have ended : TableStands x s (endTransaction s) := .of_keeps (endTransaction_keeps s)
  unfold judgeScan
  split
  · exact (((ended.and (updSlot_keeps k _ _)).trans (reportComplete_stands k _)).trans (raise_stands _ _)).and
      (engineTakes_keeps _)
  · exact ended.trans (scanFailed_stands k _ _)

theorem acceptAnnounce_stands (k : Slot) (ident : Identity) (s : State) :
    TableStands x s (acceptAnnounce k ident s) :=
  ((TableStands.of_keeps (updSlot_keeps k _ s)).trans (reportComplete_stands k _)).trans (raise_stands _ _)

/-! ### Modules and cooling -/

theorem insertSupply_stands (p : Psu) (s : State) : TableStands x s (insertSupply p s) :=
  ((TableStands.of_keeps (updSupply_keeps p _ s)).trans (requestScan_stands _ _)).trans (evaluate_stands _ _)

theorem removeSupply_stands (p : Psu) (s : State) : TableStands x s (removeSupply p s) :=
  (((TableStands.of_keeps (updSupply_keeps p _ s)).and (clearSlot_keeps _ _)).trans (evaluate_stands _ _)).trans
    (testHold_stands _)

theorem insertFan_stands (f : Fan) (s : State) : TableStands x s (insertFan f s) :=
  ((TableStands.of_keeps (updFan_keeps f _ s)).trans (requestScan_stands _ _)).trans (evaluate_stands _ _)

theorem removeFan_stands (f : Fan) (s : State) : TableStands x s (removeFan f s) :=
  ((TableStands.of_keeps (updFan_keeps f _ s)).and (clearSlot_keeps _ _)).trans (evaluate_stands _ _)

/-- A zone without airflow marks its bays, whatever their state. -/
theorem driveZone_stands (z : Zone) (s : State) : TableStands x s (driveZone z s) := by
  have airflow (now : Airflow) (s : State) : TableStands x s (changeAirflow z now s) := by
    unfold changeAirflow
    split
    · exact .refl x s
    · refine ((TableStands.of_keeps (updAir_keeps z _ s)).trans (raise_stands _ _)).trans
        (.of_states (updBays_keeps _ _) fun b _ on => ?_)
      rw [bayState, bayRec_updBays, followThrottle_state]
      split <;> exact on
  exact (((TableStands.of_keeps (updAir_keeps z _ s)).trans (airflow _ _)).and (updAir_keeps z _ _)).and
    (updFans_keeps _ _)

theorem controlZones_stands (s : State) : TableStands x s (controlZones s) := by
  have restarted : TableStands x s { s with thu := { s.thu with controlTimer := some Config.controlPeriod } } :=
    ⟨fun _ => rfl, rfl, fun _ _ => id⟩
  exact (((restarted.and (computeZones_keeps _)).trans (driveZone_stands 0 _)).trans (driveZone_stands 1 _)).trans
    (driveZone_stands 2 _)

theorem setZone_stands (z : Zone) (m : ZoneMode) (floor forced staleLimit stepDown : Nat) (s : State) :
    TableStands x s (setZone z m floor forced staleLimit stepDown s) := by
  have written : TableStands x s (updZone z (zoneSettings m floor forced staleLimit stepDown) s) :=
    .of_keeps (updZone_keeps z _ s)
  unfold setZone
  simp only
  split
  · exact (written.and (updZone_keeps z _ _)).trans (driveZone_stands z _)
  · exact written

theorem acceptReport_stands (b : Bay) (margin : Nat) (critical : Bool) (s : State) :
    TableStands x s (acceptReport b margin critical s) :=
  (TableStands.of_keeps (updThermal_keeps b _ s)).trans (updBay_stands b _ rfl)

/-! ### Bays -/

theorem enterDetected_stands {b : Bay} {s : State} (off : bayState s b ≠ .poweredOn) :
    TableStands x s (enterDetected b s) := by
  have detected : TableStands x s (requestScan (slotOfBay b) (evaluate (.bay b) (enterState b .detected s))) :=
    ((enterState_stands (.inr (.inl off))).trans (evaluate_stands _ _)).trans (requestScan_stands _ _)
  unfold enterDetected
  simp only
  split
  · next state => exact detected.trans (enterState_stands (.inr (.inl (by simp [state]))))
  · exact detected

theorem insertBay_stands {b : Bay} {s : State} (empty : bayState s b = .empty) : TableStands x s (insertBay b s) := by
  refine TableStands.trans (updBay_stands b s ?_) (enterDetected_stands ?_)
  · rfl
  · rw [bayState_updBay_kept fun _ => by rfl, empty]
    simp

theorem requestPower_stands {b : Bay} {s : State} (standby : bayState s b = .standby) :
    TableStands x s (requestPower b s) := by
  have join := joinWaitList_keeps b s
  refine ((TableStands.of_keeps join).trans (enterState_stands (.inr (.inl ?_)))).trans (evaluateHead_stands _)
  rw [join.bayState_eq, standby]
  simp

theorem takeAdmission_stands {b : Bay} {s : State} (waits : bayState s b = .waitPower) :
    TableStands x s (takeAdmission b s) := by
  have left := leaveWaitList_keeps b s
  have entered : TableStands x (leaveWaitList b s)
      (enterState b .ramping (updBay b (rampingRec (classGrant s b)) (leaveWaitList b s))) :=
    enterState_updBay_stands (.inr (.inl (by simp [left.bayState_eq, waits])))
  exact (((TableStands.of_keeps left).trans entered).and (updPbu_seq_keeps _ _)).trans (evaluate_stands _ _)

theorem completeRamp_stands (b : Bay) (s : State) : TableStands x s (completeRamp b s) := by
  refine .of_states (completeRamp_keeps b s) fun c _ on => ?_
  rw [bayState, completeRamp_bayRec]
  split
  · rfl
  · exact on

theorem answerAdmission_stands (b : Bay) (s : State) : TableStands x s (answerAdmission b s) := by
  unfold answerAdmission
  split
  · next waits =>
    have taken : TableStands x s (takeAdmission b s) := takeAdmission_stands waits
    simp only
    split
    · exact taken.trans (completeRamp_stands b _)
    · exact taken
  · exact (TableStands.of_keeps (updPbu_seq_keeps _ s)).trans (evaluateHead_stands _)

theorem endGap_stands (s : State) : TableStands x s (endGap s) :=
  (TableStands.of_keeps (updPbu_gap_keeps _ _ s)).trans (evaluateHead_stands _)

/-- A bay goes off main power; where it leaves ON it is the leaver. -/
theorem dropTo_stands {b : Bay} {s : State} (left : x = some b ∨ bayState s b ≠ .poweredOn) (st : BayState) :
    TableStands x s (dropTo b st s) :=
  (enterState_updBay_stands (left.imp_right .inl)).trans (evaluate_stands _ _)

theorem cancelWait_stands {b : Bay} {s : State} (waits : bayState s b = .waitPower) :
    TableStands x s (cancelWait b s) := by
  have left := leaveWaitList_keeps b s
  have entered : TableStands x (leaveWaitList b s) (enterState b (standbyState s b)
      (updBay b (fun r => { r with adopted := false }) (leaveWaitList b s))) :=
    enterState_updBay_stands (.inr (.inl (by simp [left.bayState_eq, waits])))
  exact ((TableStands.of_keeps left).trans entered).trans (evaluateHead_stands _)

theorem setBayPolicy_stands (b : Bay) (priority cap : Nat) (u : Uplink) (z : Zone) (restore : Bool) (s : State) :
    TableStands x s (setBayPolicy b priority cap u z restore s) := by
  have written : TableStands x s (updBay b (policyRec s priority cap u z restore) s) := updBay_stands b s rfl
  have moved (s : State) : TableStands x s (replaceInList b s) := by
    unfold replaceInList
    split
    · exact (TableStands.of_keeps (moveInWaitList_keeps b s)).trans (evaluateHead_stands _)
    · exact .refl x s
  have granted (s : State) : TableStands x s (recomputeGrant b s) := by
    unfold recomputeGrant
    simp only
    split
    · refine TableStands.trans (updBay_stands b s ?_) (evaluate_stands _ _)
      rfl
    · exact .refl x s
  exact (written.trans (moved _)).trans (granted _)

/-! ### Time -/

theorem tick_stands (s : State) : TableStands x s (tick s) :=
  .of_states (tick_keeps s) fun b _ on => by rwa [bayState, bayRec_tick]

end

end Sys2Proof.Machine
end

section
/-! SUPPORT. The two laws of the station table through what does touch it (O54): learning, aging, the static entries,
the windows, the ways out of ON, and the resets. -/

namespace Sys2Proof.Machine

/-! ### The relation -/

/-- Each of the two laws passes from `s` to `t`. -/
structure StationsKept (s t : State) : Prop where
  sound : StationLaw s → StationLaw t
  dynamic : DynamicLaw s → DynamicLaw t

section
variable {l : List Part} {s t u : State}

theorem StationsKept.refl (s : State) : StationsKept s s := ⟨id, id⟩

theorem StationsKept.trans (h : StationsKept s t) (k : StationsKept t u) : StationsKept s u :=
  ⟨k.sound ∘ h.sound, k.dynamic ∘ h.dynamic⟩

theorem StationsKept.ite {c : Prop} [Decidable c] (h : c → StationsKept s t) : StationsKept s (if c then t else s) := by
  split
  · next hc => exact h hc
  · exact .refl s

theorem StationsKept.andIf {c : Prop} [Decidable c] (h : StationsKept s t) (more : c → StationsKept t u) :
    StationsKept s (if c then u else t) := h.trans (.ite more)

/-- The table loses entries, windows and bays standing. -/
theorem StationsKept.of_sublist (h : KeepsAllBut l s t) (fewer : t.stb.places.Sublist s.stb.places)
    (hl : Part.bays ∉ l ∧ Part.windows ∉ l := by decide) : StationsKept s t where
  sound law := by
    rw [stationLaw_iff] at law ⊢
    rw [funext fun b => h.window_eq b hl.2]
    exact law.sublist fewer
  dynamic law p hp learned := (h.bayState_eq _ hl.1).trans (law p (fewer.subset hp) learned)

/-- The table changes, windows and bays standing: it stays sound, and a DYNAMIC entry names a bay that one named
already, or one in ON. -/
theorem StationsKept.of_table (h : KeepsAllBut l s t)
    (sound : TableSound (window s) s.stb.places → TableSound (window s) t.stb.places)
    (dynamic : ∀ p ∈ t.stb.places, isDynamic p.entry = true →
      (∃ q ∈ s.stb.places, isDynamic q.entry = true ∧ q.entry.bay = p.entry.bay)
        ∨ bayState s p.entry.bay = .poweredOn)
    (hl : Part.bays ∉ l ∧ Part.windows ∉ l := by decide) : StationsKept s t where
  sound law := by
    rw [stationLaw_iff] at law ⊢
    rw [funext fun b => h.window_eq b hl.2]
    exact sound law
  dynamic law p hp learned := by
    rw [h.bayState_eq _ hl.1]
    rcases dynamic p hp learned with ⟨q, hq, old, bay⟩ | on
    · exact bay ▸ law q hq old
    · exact on

/-- No entry is left. -/
theorem StationsKept.of_empty (empty : t.stb.places = []) : StationsKept s t where
  sound _ := (stationLaw_iff t).mpr (empty ▸ ⟨.nil, by simp, by simp, by simp⟩)
  dynamic _ p hp := by simp [empty] at hp

theorem TableStands.kept (h : TableStands none s t) : StationsKept s t where
  sound law := by
    rw [stationLaw_iff] at law ⊢
    rw [h.places, funext h.windows]
    exact law
  dynamic law p hp learned := h.stays _ (by simp) (law p (h.places ▸ hp) learned)

theorem StationsKept.and (h : StationsKept s t) (k : TableStands none t u) : StationsKept s u := h.trans k.kept

end

/-! ### The ways out of ON (R10, R139) -/

/-- A bay may leave ON once its entries are purged. -/
theorem TableStands.afterPurge {b : Bay} {s t : State} (h : TableStands (some b) (leaveOn b s) t) :
    StationsKept s t := by
  have left := leaveOn_keeps b s
  have places : t.stb.places = purged b s.stb.places := h.places
  constructor
  · intro law
    rw [stationLaw_iff] at law ⊢
    rw [places, funext fun c => (h.windows c).trans (left.window_eq c)]
    exact law.sublist List.filter_sublist
  · intro law p hp learned
    obtain ⟨old, other⟩ := mem_purged.mp (places ▸ hp)
    have away : p.entry.bay ≠ b := fun own => by simp [other own] at learned
    exact h.stays _ (by simpa using away.symm) ((left.bayState_eq _).trans (law p old learned))

theorem powerFault_stationsKept (b : Bay) (s : State) : StationsKept s (powerFault b s) := by
  unfold powerFault
  split
  · exact (dropTo_stands (.inl rfl) _).afterPurge
  · next stopping =>
    have flushed := flush_keeps (.bay b) s
    have state : bayState (flush (.bay b) s) b ≠ .poweredOn := by
      rw [flushed.bayState_eq b (by simp [queuePart]), stopping]
      simp
    exact ((TableStands.of_queue flushed).trans (dropTo_stands (.inr state) _)).kept
  · exact .refl s

theorem beginStop_stationsKept (b : Bay) (s : State) : StationsKept s (beginStop b s) :=
  (enterState_updBay_stands (.inl rfl)).afterPurge

theorem endStop_stands {x : Option Bay} {b : Bay} {s : State} (stopping : bayState s b = .stopping) :
    TableStands x s (endStop b s) := dropTo_stands (.inr (by simp [stopping])) _

theorem rampFault_stands {x : Option Bay} {b : Bay} {s : State} (ramping : bayState s b = .ramping) :
    TableStands x s (rampFault b s) :=
  (dropTo_stands (.inr (by simp [ramping])) _).trans (rampEndUnpowered_stands b _)

theorem forceOff_stationsKept (b : Bay) (s : State) : StationsKept s (forceOff b s) := by
  unfold forceOff
  split
  · exact (dropTo_stands (.inl rfl) _).afterPurge
  · next stopping => exact (dropTo_stands (.inr (by simp [stopping])) _).kept
  · next ramping =>
    exact ((dropTo_stands (.inr (by simp [ramping])) _).trans (rampEndUnpowered_stands b _)).kept
  · next waits => exact (cancelWait_stands waits).kept
  · exact .refl s

theorem isolate_stationsKept (b : Bay) (s : State) : StationsKept s (isolate b s) := by
  have before : TableStands (some b) (leaveOn b s) (abortScan (slotOfBay b) (leaveWaitList b (leaveOn b s))) :=
    (TableStands.of_keeps (leaveWaitList_keeps b _)).and (abortScan_keeps _ _)
  exact ((before.trans (dropTo_stands (.inl rfl) _)).trans (rampEndUnpowered_stands b _)).afterPurge

theorem removeBay_stationsKept (b : Bay) (s : State) : StationsKept s (removeBay b s) := by
  have before : TableStands (some b) (leaveOn b s)
      (updThermal b (fun _ => resetThermal) (clearSlot (slotOfBay b) (leaveWaitList b (leaveOn b s)))) :=
    ((TableStands.of_keeps (leaveWaitList_keeps b _)).and (clearSlot_keeps _ _)).and (updThermal_keeps b _ _)
  rw [removeBay_eq]
  exact (((before.trans (enterState_updBay_stands (.inl rfl))).trans (evaluate_stands _ _)).trans
    (rampEndUnpowered_stands b _)).afterPurge

theorem takeShed_stationsKept (b : Bay) (s : State) : StationsKept s (takeShed b s) := by
  have joined : TableStands (some b) (leaveOn b s) (shedJoins b s) := by
    unfold shedJoins
    split
    · exact .of_keeps (joinWaitList_keeps b _)
    · exact .refl _ _
  have shed : TableStands (some b) (leaveOn b s) (shedTo b s) := by
    rw [shedTo_eq]
    exact joined.trans (enterState_updBay_stands (.inl rfl))
  exact (((shed.and (updEmg_keeps _ _)).trans (evaluate_stands _ _)).trans (rampEndUnpowered_stands b _)).afterPurge

theorem shedAnswered_stationsKept (b : Bay) (s : State) : StationsKept s (shedAnswered b s) := by
  unfold shedAnswered
  split
  · exact (takeShed_stationsKept b s).and (answerShed_stands _)
  · exact (evaluate_stands _ s).kept.and (answerShed_stands _)

/-! ### Entries written and given up -/

section
variable {s : State} {e : StationEntry} (tag : forwardTag (window s e.bay) e.bladeTag = some e.chassisTag)
  (on : isDynamic e = true → bayState s e.bay = .poweredOn)
include tag on

/-- An entry is written in the place that holds its key. -/
theorem writePlace_stationsKept {p : Place} (held : findStation s e.address e.chassisTag = some p) :
    StationsKept s (writePlace p.index e s) := by
  refine .of_table (writePlace_keeps _ e s) (fun sound => ?_) fun q hq learned => ?_
  · exact sound.put (fun q hq => sound.index_of_found held q hq) tag
  · rcases mem_map_putEntry.mp hq with ⟨hq, -⟩ | ⟨rfl, -⟩
    · exact .inl ⟨q, hq, learned, rfl⟩
    · exact .inr (on learned)

/-- An entry whose key no place holds is written in the lowest empty place. -/
theorem insertPlace_stationsKept (missing : findStation s e.address e.chassisTag = none) {i : Nat}
    (lowest : lowestEmpty s = some i) : StationsKept s (updPlaces (insertPlace { index := i, entry := e }) s) := by
  refine .of_table (updPlaces_keeps _ s) (fun sound => ?_) fun q hq learned => ?_
  · obtain ⟨bound, free, -⟩ := lowestEmpty_spec sound.rising lowest
    exact sound.insert free bound (findStation_none missing) tag
  · rcases mem_insertPlace.mp hq with rfl | hq
    · exact .inr (on learned)
    · exact .inl ⟨q, hq, learned, rfl⟩

end

/-- A frame from a bay in ON is learned under the translation of its tag (R133, R134). -/
theorem learn_stationsKept {b : Bay} {t c : Nat} {s : State} (on : bayState s b = .poweredOn)
    (tag : forwardTag (window s b) t = some c) (a : Addr) : StationsKept s (learn b a t c s) := by
  unfold learn
  split
  · exact .refl s
  · split
    · next p found =>
      obtain ⟨-, rfl, rfl⟩ := findStation_some found
      split
      · exact writePlace_stationsKept tag (fun _ => on) found
      · exact .refl s
    · next missing =>
      split
      · next lowest => exact insertPlace_stationsKept tag (fun _ => on) missing lowest
      · have counted : TableStands none s
            (updStb (fun x => { x with learnMiss := satAdd x.learnMiss 1 Config.top32 }) s) :=
          ⟨fun _ => rfl, rfl, fun _ _ => id⟩
        exact (counted.trans (raise_stands _ _)).kept

/-- An aged entry keeps its place, key and bay, and a STATIC one its kind (R141). -/
theorem agePlace_some {limit : Nat} {p q : Place} (aged : agePlace limit p = some q) :
    (∃ k, q = { p with entry := { p.entry with kind := k } }) ∧ isDynamic q.entry = isDynamic p.entry := by
  unfold agePlace at aged
  split at aged
  · cases aged
    exact ⟨⟨_, rfl⟩, rfl⟩
  · next kind =>
    simp only at aged
    split at aged
    · cases aged
    · cases aged
      exact ⟨⟨_, rfl⟩, by simp [isDynamic, kind]⟩

theorem ageStations_stationsKept (s : State) : StationsKept s (ageStations s) := by
  refine .of_table (updPlaces_keeps _ s) (fun sound => sound.filterMap fun p q aged => (agePlace_some aged).1)
    fun q hq learned => ?_
  obtain ⟨p, hp, aged⟩ := List.mem_filterMap.mp hq
  obtain ⟨⟨_, rfl⟩, same⟩ := agePlace_some aged
  exact .inl ⟨p, hp, same.symm.trans learned, rfl⟩

theorem sweep_stationsKept (s : State) : StationsKept s (sweep s) :=
  (ageStations_stationsKept s).and ⟨fun _ => rfl, rfl, fun _ _ => id⟩

/-- A STATIC entry stands under the translation of its blade tag (R143). -/
theorem addStatic_stationsKept {b : Bay} {t c : Nat} {s : State} (tag : forwardTag (window s b) t = some c) (a : Addr) :
    StationsKept s (addStatic a b t c s).state := by
  have fixed (learned : isDynamic (staticEntry a c b t) = true) : bayState s b = .poweredOn := nomatch learned
  cases found : findStation s a c with
  | some p =>
    rw [addStatic_held found]
    exact writePlace_stationsKept (e := staticEntry a c b t) tag fixed found
  | none =>
    cases lowest : lowestEmpty s with
    | some i =>
      rw [addStatic_free found lowest]
      exact insertPlace_stationsKept (e := staticEntry a c b t) tag fixed found lowest
    | none =>
      rw [addStatic_full found lowest]
      exact .refl s

theorem emptyPlace_stationsKept (i : Nat) (s : State) : StationsKept s (emptyPlace i s) :=
  .of_sublist (emptyPlace_keeps i s) List.filter_sublist

/-! ### The windows (R124, R125) -/

/-- Settling a STATIC entry makes no DYNAMIC one. -/
theorem settleStatic_dynamic {b : Bay} {x p : Place} {s : State} (fixed : isDynamic x.entry = false)
    (hp : p ∈ (settleStatic b x s).stb.places) (learned : isDynamic p.entry = true) : p ∈ s.stb.places := by
  have dropped (hp : p ∈ (dropStatic b x.index s).stb.places) : p ∈ s.stb.places := by
    rw [dropStatic, (raise_keeps _ _).stb_eq] at hp
    exact (List.mem_filter.mp hp).1
  unfold settleStatic at hp
  split at hp
  · exact dropped hp
  · split at hp
    · exact dropped hp
    · rw [writePlace_places] at hp
      rcases mem_map_putEntry.mp hp with ⟨hp, -⟩ | ⟨rfl, -⟩
      · exact (List.mem_filter.mp hp).1
      · exact absurd (fixed.symm.trans learned) (by simp)

theorem loadWindow_dynamic {b : Bay} {w : Window} {p : Place} {s : State} (hp : p ∈ (loadWindow b w s).stb.places)
    (learned : isDynamic p.entry = true) : p ∈ s.stb.places ∧ p.entry.bay ≠ b := by
  have settled (xs : List Place) (fixed : ∀ x ∈ xs, isDynamic x.entry = false) (t : State)
      (hp : p ∈ (xs.foldl (fun t x => settleStatic b x t) t).stb.places) : p ∈ t.stb.places := by
    induction xs generalizing t with
    | nil => exact hp
    | cons x rest ih =>
      obtain ⟨first, others⟩ := List.forall_mem_cons.mp fixed
      exact settleStatic_dynamic first (ih others _ hp) learned
  have kept : p ∈ purged b s.stb.places := settled _ (fun x hx => by simp [staticsOf] at hx; exact hx.2.1) _ hp
  obtain ⟨old, other⟩ := mem_purged.mp kept
  exact ⟨old, fun own => by simp [other own] at learned⟩

theorem loadWindow_stationsKept (b : Bay) (w : Window) (s : State) : StationsKept s (loadWindow b w s) where
  sound law := (stationLaw_iff _).mpr (loadWindow_sound ((stationLaw_iff s).mp law) w)
  dynamic law p hp learned := by
    rw [(loadWindow_keeps b w s).bayState_eq]
    exact law p (loadWindow_dynamic hp learned).1 learned

/-! ### Resets (R177 to R181) -/

theorem StationsKept.of_fresh {r s t : State} (fresh : TablesFresh r t) : StationsKept s t := by
  obtain ⟨-, -, -, -, -, -, -, stations, -⟩ := fresh
  exact .of_empty (by rw [stations])

/-- A reset that begins leaves the table and the bays' states (R178). -/
theorem beginReset_stands {x : Option Bay} (powerOn : Bool) (m : Mode) (s : State) :
    TableStands x s (beginReset powerOn m s) := by
  obtain ⟨bays, -⟩ := beginReset_begun powerOn m s
  exact ⟨fun _ => rfl, rfl, fun b _ on => by rwa [bayState, bays]⟩

theorem completePowerOn_stationsKept (straps : BitVec 4) (s : State) : StationsKept s (completePowerOn straps s) := by
  rw [completePowerOn_eq]
  exact .of_fresh (emergencyAtStart_tablesFresh (withStraps straps s.pins) s.pending s rfl rfl)

theorem takeover_stationsKept (cause : ResetCause) (straps : BitVec 4) (s : State) :
    StationsKept s (takeover cause straps s) := .of_fresh (takeover_takenOver cause straps s).1

theorem softResetNow_stationsKept (s : State) : StationsKept s (softResetNow s) :=
  ((TableStands.of_keeps (updPins_keeps _ s)).trans (beginReset_stands false .lineReset _)).kept.trans
    (takeover_stationsKept _ _ _)

end Sys2Proof.Machine
end

section
/-! SUPPORT. The laws of the station table through the frames, the requests and the commands; and O54 itself. -/

namespace Sys2Proof.Machine

/-! ### Frames (R132 to R138, R151) -/

section
variable {x : Option Bay}

theorem offer_stands (p : Port) (c : Copy) (s : State) : TableStands x s (offer p c s) := .of_queue (offer_keeps p c s)

theorem offerService_stands (p : Port) (f : RxFrame) (s : State) : TableStands x s (offerService p f s) :=
  .of_keeps (offerService_keeps p f s)

theorem countDropped_stands (p : Port) (s : State) : TableStands x s (countDropped 1 p s) :=
  .of_queue (countDropped_keeps 1 p s)

theorem countRefused_stands (p : Port) (s : State) : TableStands x s (countRefused p s) := by
  cases p with
  | bay b => exact updBay_stands b (f := fun r => { r with refused := satAdd r.refused 1 Config.top16 }) s rfl
  | uplink u => exact .of_keeps (updUplink_keeps u (fun r => { r with refused := satAdd r.refused 1 Config.top16 }) s)

theorem flood_stands (skip : Option Bay) (f : RxFrame) (c : Nat) (s : State) : TableStands x s (flood skip f c s) := by
  refine TableStands.foldl (fun s b => ?_) _ s
  cases copy : floodCopy skip f c s b with
  | none =>
    rw [floodBay_none copy]
    exact .refl x s
  | some y =>
    rw [(floodBay_some copy).1]
    exact offer_stands _ y s

theorem sendUplink_stands (b : Bay) (f : RxFrame) (c : Nat) (s : State) : TableStands x s (sendUplink b f c s) := by
  unfold sendUplink
  split
  · exact offer_stands _ _ s
  · exact updBay_stands b s rfl

theorem upstreamDestination_stands (b : Bay) (f : RxFrame) (c : Nat) (s : State) :
    TableStands x s (upstreamDestination b f c s) := by
  cases single : isGroup (frameDst f) with
  | true =>
    rw [upstreamDestination_group single]
    exact (sendUplink_stands b f c s).trans (flood_stands _ f c _)
  | false =>
    cases found : findStation s (frameDst f) c with
    | none =>
      rw [upstreamDestination_miss single found]
      exact sendUplink_stands b f c s
    | some p =>
      rw [upstreamDestination_hit single found]
      split
      · exact .refl x s
      · split
        · exact offer_stands _ _ s
        · exact sendUplink_stands b f c s

theorem downstream_stands (u : Uplink) (f : RxFrame) (s : State) : TableStands x s (downstream u f s) := by
  by_cases dst : frameDst f = serviceAddress s.sve.chassisNumber
  · rw [downstream_stray dst]
    exact .refl x s
  cases single : isGroup (frameDst f) with
  | true =>
    rw [downstream_group dst single]
    exact flood_stands _ f _ s
  | false =>
    cases found : findStation s (frameDst f) (frameTag (.uplink u) f) with
    | none =>
      rw [downstream_miss dst single found]
      exact flood_stands _ f _ s
    | some p =>
      rw [downstream_hit dst single found]
      split
      · exact flood_stands _ f _ s
      · exact offer_stands _ _ s

end

/-- A frame from a bay in ON is translated before it is learned (R133). -/
theorem upstream_stationsKept {b : Bay} {s : State} (on : bayState s b = .poweredOn) (f : RxFrame) :
    StationsKept s (upstream b f s) := by
  unfold upstream
  split
  · exact .refl s
  · split
    · exact ((updBay_stands b s rfl).trans (raise_stands _ _)).kept
    · next tag => exact (learn_stationsKept on tag _).and (upstreamDestination_stands b f _ _)

theorem receiveFrame_stationsKept (p : Port) (f : RxFrame) (s : State) : StationsKept s (receiveFrame p f s) := by
  have service (accepted : Bool) : StationsKept s (if accepted then offerService p f s else countRefused p s) := by
    split
    · exact (offerService_stands p f s).kept
    · exact (countRefused_stands p s).kept
  cases p with
  | bay b =>
    refine .ite fun _ => ?_
    unfold bayFrame
    split
    · exact service _
    · split
      · next on => exact upstream_stationsKept on f
      · exact (countDropped_stands _ s).kept
  | uplink u =>
    refine .ite fun _ => ?_
    unfold uplinkFrame
    simp only
    split
    · exact service _
    · split
      · exact (downstream_stands u f s).kept
      · exact (countDropped_stands _ s).kept

/-! ### Links (R148, R150) -/

theorem changeUplink_stands {x : Option Bay} (u : Uplink) (f : UplinkRec → UplinkRec) (s : State) :
    TableStands x s (changeUplink u f s) := by
  have written : TableStands x s (updUplink u f s) := .of_keeps (updUplink_keeps u f s)
  unfold changeUplink
  simp only
  split
  · exact written.trans (.of_queue (flush_keeps _ _))
  · exact written

theorem setUplink_stands {x : Option Bay} (u : Uplink) (enabled right : Bool) (s : State) :
    TableStands x s (setUplink u enabled right s) := by
  have changed := changeUplink_stands (x := x) u (fun r => { r with enabled := enabled, right := right }) s
  unfold setUplink
  simp only
  split
  · exact .refl x s
  · split
    · exact (changed.and (barWaiting_keeps u _)).trans (raise_stands _ _)
    · exact changed.trans (raise_stands _ _)

theorem linkGoesDown_stationsKept (u : Uplink) (s : State) : StationsKept s (linkGoesDown u s) := by
  have raised : TableStands none s
      (raise (.uplinkChange u .linkDown) (updUplink u (fun r => { r with link := false }) s)) :=
    (TableStands.of_keeps (updUplink_keeps u _ s)).trans (raise_stands _ _)
  unfold linkGoesDown
  simp only
  split
  · exact (raised.trans (.of_queue (flush_keeps _ _))).kept.andIf fun _ => softResetNow_stationsKept _
  · exact raised.kept

/-! ### Requests (R165 to R167) -/

section
variable {s : State}

theorem named_stationsKept {α : Type} {n : Option α} {f : α → Reply}
    (h : ∀ y, n = some y → StationsKept s (f y).state) :
    StationsKept s (named n s f).state := by
  cases n with
  | none => exact .refl s
  | some y => exact h y rfl

theorem forArrivalBay_stationsKept {e : Envelope} {f : Bay → Reply} (h : ∀ b, StationsKept s (f b).state) :
    StationsKept s (forArrivalBay e s f).state := by
  unfold forArrivalBay
  split
  · exact h _
  · exact .refl s

/-- An answer adds nothing to the effect of its request. -/
theorem answered_stationsKept {st : Status} {t : State} (h : StationsKept s t) :
    StationsKept s (answered st t).state := h

/-- A request is answered with an effect where a condition holds, and refused otherwise. -/
theorem reply_ite_stationsKept {c : Prop} [Decidable c] {r : Reply} {st : Status} (h : c → StationsKept s r.state) :
    StationsKept s (if c then r else answered st s).state := by
  split
  · next hc => exact h hc
  · exact .refl s

/-- A request is refused where a condition holds, and answered with an effect otherwise. -/
theorem reply_unless_stationsKept {c : Prop} [Decidable c] {r : Reply} {st : Status}
    (h : StationsKept s r.state) : StationsKept s (if c then answered st s else r).state := by
  split
  · exact .refl s
  · exact h

end

theorem askPower_stationsKept (b : Bay) (s : State) : StationsKept s (askPower b s).state :=
  reply_ite_stationsKept fun standby => reply_ite_stationsKept fun _ => (requestPower_stands standby).kept

theorem powerOffForced_stationsKept (b : Bay) (s : State) : StationsKept s (powerOffForced b s).state := by
  unfold powerOffForced
  split
  iterate 4 exact forceOff_stationsKept b s
  all_goals exact .refl s

theorem powerOffGraceful_stationsKept (b : Bay) (s : State) : StationsKept s (powerOffGraceful b s).state := by
  unfold powerOffGraceful
  split
  · exact beginStop_stationsKept b s
  · exact .refl s
  iterate 2 exact powerOffForced_stationsKept b s
  all_goals exact .refl s

theorem updSve_stationsKept (f : Sve → Sve) (s : State) : StationsKept s (updSve f s) :=
  (TableStands.of_keeps (updSve_keeps f s)).kept

theorem replySetAlertTarget_stationsKept (presence uplink : Byte) (address : Addr) (s : State) :
    StationsKept s (replySetAlertTarget presence uplink address s).state := by
  unfold replySetAlertTarget
  split
  · exact answered_stationsKept (updSve_stationsKept _ s)
  · exact reply_ite_stationsKept fun _ => named_stationsKept fun _ _ => answered_stationsKept (updSve_stationsKept _ s)

theorem replyRemoveStatic_stationsKept (a : Addr) (tag : Word16) (s : State) :
    StationsKept s (replyRemoveStatic a tag s).state := by
  unfold replyRemoveStatic
  split
  · split
    · exact .refl s
    · exact emptyPlace_stationsKept _ s
  · exact .refl s

theorem replySetQuota_stationsKept (e : Envelope) (queue : Byte) (quota : Word16) (s : State) :
    StationsKept s (replySetQuota e queue quota s).state := by
  unfold replySetQuota
  split
  · simp only
    split
    · exact .refl s
    · exact (TableStands.of_queue (putQueue_keeps _ _ s)).kept
  all_goals exact .refl s

theorem carryOut_stationsKept (e : Envelope) (r : Request) (s : State) : StationsKept s (carryOut e r s).state := by
  cases r with
  | readBay | readSlot | readZone | readFan | readUplink | readQueue => exact named_stationsKept fun _ _ => .refl s
  | readPower | readEvents | softReset | identifyPart => exact .refl s
  | readStation first count => exact reply_unless_stationsKept (.refl s)
  | clearEvents classes => exact named_stationsKept fun _ _ => updSve_stationsKept _ s
  | setEventMask classes => exact named_stationsKept fun _ _ => answered_stationsKept (updSve_stationsKept _ s)
  | setAlertTarget presence uplink address => exact replySetAlertTarget_stationsKept presence uplink address s
  | setBayPolicy bay priority cap uplink zone autoRestore =>
    exact named_stationsKept fun b _ => named_stationsKept fun u _ => named_stationsKept fun z _ =>
      named_stationsKept fun a _ => (setBayPolicy_stands b _ _ u z a s).kept
  | loadWindow bay bs cs bb cb =>
    exact named_stationsKept fun b _ => reply_ite_stationsKept fun _ => loadWindow_stationsKept b _ s
  | powerOn bay => exact named_stationsKept fun b _ => askPower_stationsKept b s
  | powerOff bay form =>
    refine named_stationsKept fun b _ => ?_
    split
    · exact powerOffGraceful_stationsKept b s
    · exact reply_ite_stationsKept fun _ => powerOffForced_stationsKept b s
  | setMaint bay =>
    refine named_stationsKept fun b _ => ?_
    split
    iterate 2 exact .refl s
    all_goals exact isolate_stationsKept b s
  | clearMaint bay =>
    refine named_stationsKept fun b _ => reply_ite_stationsKept fun maint => ?_
    exact (enterDetected_stands (by simp [maint])).kept
  | clearFault bay =>
    refine named_stationsKept fun b _ => reply_ite_stationsKept fun fault => ?_
    exact (enterState_stands (.inr (.inl (by simp [fault])))).kept
  | rescan slot => exact named_stationsKept fun k _ => reply_ite_stationsKept fun _ => (requestScan_stands k s).kept
  | setPowerPolicy redundancy baseLoad gapSteps grace stopTimeout =>
    exact named_stationsKept fun _ _ =>
      ((TableStands.of_keeps (updPbu_policy_keeps _ s)).trans (evaluate_stands .policy _)).kept
  | setAdmission gate => exact named_stationsKept fun g _ => (setGate_stands g s).kept
  | loadCurve zone points =>
    exact named_stationsKept fun z _ => reply_ite_stationsKept fun _ =>
      answered_stationsKept (TableStands.of_keeps (updZone_keeps z _ s)).kept
  | setZone zone mode floor forced staleLimit stepDown =>
    exact named_stationsKept fun z _ => named_stationsKept fun m _ =>
      reply_unless_stationsKept (reply_unless_stationsKept (setZone_stands z m _ _ _ _ s).kept)
  | setFan fan zone minRun prescale =>
    exact named_stationsKept fun i _ => named_stationsKept fun z _ =>
      reply_ite_stationsKept fun _ => (TableStands.of_keeps (updFan_keeps i _ s)).kept
  | setUplink uplink enabled right =>
    exact named_stationsKept fun u _ => named_stationsKept fun en _ => named_stationsKept fun ri _ =>
      reply_unless_stationsKept (setUplink_stands u en ri s).kept
  | setQuota queue quota => exact replySetQuota_stationsKept e queue quota s
  | addStatic address bay bladeTag =>
    exact named_stationsKept fun b _ => reply_unless_stationsKept (named_stationsKept fun c tag =>
      addStatic_stationsKept tag address)
  | removeStatic address chassisTag => exact replyRemoveStatic_stationsKept address chassisTag s
  | setAging steps => exact TableStands.kept ⟨fun _ => rfl, rfl, fun _ _ => id⟩
  | announce image =>
    refine forArrivalBay_stationsKept fun b => reply_ite_stationsKept fun _ => ?_
    split
    · exact (acceptAnnounce_stands _ _ s).kept
    · exact .refl s
  | thermalReport margin critical =>
    exact forArrivalBay_stationsKept fun b => named_stationsKept fun c _ =>
      reply_ite_stationsKept fun _ => (acceptReport_stands b _ c s).kept
  | powerRequest => exact forArrivalBay_stationsKept fun b => askPower_stationsKept b s
  | powerRelease =>
    refine forArrivalBay_stationsKept fun b => ?_
    split
    · exact forceOff_stationsKept b s
    · next stopping => exact (endStop_stands stopping).kept
    all_goals exact .refl s
  | readOwn => exact forArrivalBay_stationsKept fun _ => .refl s

/-! ### The service engine (R157, R164) -/

theorem svcPop_stands {x : Option Bay} (s : State) : TableStands x s (svcPop s) := .of_keeps (svcPop_keeps s)

theorem denied_stationsKept (e : Envelope) (s : State) : StationsKept s (denied e s).state := by
  unfold denied
  split
  · exact answered_stationsKept (countRefused_stands _ s).kept
  · exact .refl s

theorem reply_stationsKept (e : Envelope) (r : Request) (s : State) : StationsKept s (reply e r s).state := by
  unfold reply
  split
  · exact denied_stationsKept e s
  · exact reply_unless_stationsKept (carryOut_stationsKept e r s)

theorem respond_stationsKept (e : Envelope) (code : Nat) (r : Reply) : StationsKept r.state (respond e code r) := by
  unfold respond
  simp only
  split
  · unfold offerAndReset
    simp only
    split
    · exact (offer_stands _ _ _).kept.trans (updSve_stationsKept _ _)
    · exact (offer_stands _ _ _).kept.trans (softResetNow_stationsKept _)
  · exact (offer_stands _ _ _).kept

theorem serve_stationsKept (e : Envelope) (r : Request) (s : State) : StationsKept s (serve e r s) := by
  unfold serve
  split
  · exact (countRefused_stands _ s).kept
  · exact (reply_stationsKept e r s).trans (respond_stationsKept _ _ _)

theorem serveCommand_stationsKept (e : Envelope) (r : Request) (s : State) : StationsKept s (serveCommand e r s) := by
  unfold serveCommand
  split
  · exact (svcPop_stands s).kept.trans (serve_stationsKept e r _)
  · exact .ite fun _ => (receiveFrame_stationsKept _ _ s).andIf fun _ =>
      (svcPop_stands _).kept.trans (serve_stationsKept e r _)

theorem replyFrame_stationsKept (f : SvcFrame) (s : State) : StationsKept s (replyFrame f s).state := by
  unfold replyFrame
  simp only
  split
  · exact .refl s
  · split
    · exact denied_stationsKept _ s
    · split
      · exact .refl s
      · exact reply_stationsKept _ _ s

theorem serveFrame_stationsKept (f : SvcFrame) (s : State) : StationsKept s (serveFrame f s) := by
  unfold serveFrame
  split
  · exact (countRefused_stands _ s).kept
  · split
    · exact respond_stationsKept _ _ (answered .length s)
    · split
      · exact (countRefused_stands _ s).kept
      · exact (replyFrame_stationsKept f s).trans (respond_stationsKept _ _ _)

theorem takeFrame_stationsKept (s : State) : StationsKept s (takeFrame s) := by
  refine .ite fun _ => ?_
  split
  · exact .refl s
  · exact (svcPop_stands s).kept.trans (serveFrame_stationsKept _ _)

/-! ### Commands -/

theorem whenRunning_stationsKept {s t : State} (h : StationsKept s t) : StationsKept s (whenRunning s t) :=
  .ite fun _ => h

theorem updPins_stands {x : Option Bay} (f : Pins → Pins) (s : State) : TableStands x s (updPins f s) :=
  .of_keeps (updPins_keeps f s)

theorem mode_stands {x : Option Bay} (m : Mode) (s : State) : TableStands x s { s with mode := m } :=
  ⟨fun _ => rfl, rfl, fun _ _ => id⟩

theorem supplyStable_stationsKept (straps : BitVec 4) (s : State) : StationsKept s (supplyStable straps s) := by
  unfold supplyStable
  split
  · split
    · exact (mode_stands _ s).kept
    · exact completePowerOn_stationsKept straps s
  all_goals exact .refl s

theorem lineAsserted_stationsKept (s : State) : StationsKept s (lineAsserted s) := by
  have moved := (updPins_stands (x := none) (fun p => { p with resetN := true }) s).kept
  unfold lineAsserted
  simp only
  split
  · exact moved.and (beginReset_stands false _ _)
  all_goals exact moved

theorem lineReleased_stationsKept (straps : BitVec 4) (s : State) : StationsKept s (lineReleased straps s) := by
  have moved := (updPins_stands (x := none) (fun p => { p with resetN := false }) s).kept
  unfold lineReleased
  simp only
  split
  · exact moved.trans (takeover_stationsKept _ _ _)
  · exact moved.trans (completePowerOn_stationsKept straps _)
  all_goals exact moved

/-- A presence line that moves is noted by its block, out of reset (R2, R48, R106). -/
theorem presence_stationsKept {same run : Prop} [Decidable same] [Decidable run] {f : Pins → Pins} {s u : State}
    (noted : TableStands none (updPins f s) u) :
    StationsKept s (if same then s else if run then u else updPins f s) := by
  split
  · exact .refl s
  · exact (updPins_stands f s).kept.andIf fun _ => noted.kept

theorem bayPresence_state (present : Bool) (r : BayRec) : (bayPresence present r).state = r.state :=
  (bayPresence_aside present r).1

theorem exec_stationsKept {c : Instr} {s t : State} (h : exec c s = .next t) : StationsKept s t := by
  obtain rfl : t = (match exec c s with | .next u => u | _ => s) := by rw [h]
  clear h
  cases c with
  | bayPresChange b present => exact presence_stationsKept (updBay_stands b _ (bayPresence_state present _))
  | psuPresChange p present => exact presence_stationsKept (.of_keeps (updSupply_keeps p (supplyPresence present) _))
  | fanPresChange f present => exact presence_stationsKept (.of_keeps (updFan_keeps f _ _))
  | bayInsertionDebounceExpiry b =>
    refine whenRunning_stationsKept (.ite fun h => ?_)
    simp only [Bool.and_eq_true, beq_iff_eq] at h
    exact (insertBay_stands h.2).kept
  | bayRemovalDebounceExpiry b => exact whenRunning_stationsKept (.ite fun _ => removeBay_stationsKept b s)
  | bayPgAsserted b => exact (updPins_stands _ s).kept.andIf fun _ => (completeRamp_stands b _).kept
  | bayPgLow b => exact (updPins_stands _ s).kept.andIf fun _ => powerFault_stationsKept b _
  | rampTimerExpiry b =>
    refine whenRunning_stationsKept (.ite fun h => ?_)
    simp only [Bool.and_eq_true, beq_iff_eq] at h
    exact (rampFault_stands h.2).kept
  | stopTimerExpiry b =>
    refine whenRunning_stationsKept (.ite fun h => ?_)
    simp only [Bool.and_eq_true, beq_iff_eq] at h
    exact (endStop_stands h.2).kept
  | admissionTaken =>
    refine whenRunning_stationsKept ?_
    unfold takeHandedAdmission
    split
    · exact (answerAdmission_stands _ s).kept
    all_goals exact .refl s
  | shedTaken =>
    refine whenRunning_stationsKept ?_
    unfold takeHandedShed
    split
    · exact shedAnswered_stationsKept _ s
    · exact .refl s
  | psuInsertionDebounceExpiry p => exact whenRunning_stationsKept (.ite fun _ => (insertSupply_stands p s).kept)
  | psuRemovalDebounceExpiry p => exact whenRunning_stationsKept (.ite fun _ => (removeSupply_stands p s).kept)
  | psuOkChange p asserted =>
    exact (updPins_stands _ s).kept.andIf fun _ =>
      ((TableStands.of_keeps (updSupply_keeps p _ _)).trans (supplyChanged_stands p _)).kept
  | adoptionHoldTimerExpiry => exact whenRunning_stationsKept (.ite fun _ => (endHold_stands s).kept)
  | graceTimerExpiry => exact whenRunning_stationsKept (.ite fun _ => (endGrace_stands s).kept)
  | staggerGapTimerExpiry => exact whenRunning_stationsKept (.ite fun _ => (endGap_stands s).kept)
  | sixteenthByteReceived k image => exact whenRunning_stationsKept (.ite fun _ => (judgeScan_stands k image s).kept)
  | scanNoAnswer k | scanTimerExpiry k =>
    exact whenRunning_stationsKept (.ite fun _ =>
      ((TableStands.of_keeps (endTransaction_keeps s)).trans (scanFailed_stands k _ _)).kept)
  | retryTimerExpiry k => exact whenRunning_stationsKept (.ite fun _ => (retryDue_stands k s).kept)
  | fanInsertionDebounceExpiry f => exact whenRunning_stationsKept (.ite fun _ => (insertFan_stands f s).kept)
  | fanRemovalDebounceExpiry f => exact whenRunning_stationsKept (.ite fun _ => (removeFan_stands f s).kept)
  | fanTachPulse f =>
    refine whenRunning_stationsKept ?_
    split
    · exact .refl s
    · exact (TableStands.of_keeps (updFan_keeps f _ s)).kept
  | tachWindowExpiry f =>
    exact whenRunning_stationsKept (.ite fun _ => (TableStands.of_keeps (tachWindow_keeps f s)).kept)
  | controlTimerExpiry => exact whenRunning_stationsKept (.ite fun _ => (controlZones_stands s).kept)
  | bayPortFrame b f => exact whenRunning_stationsKept (receiveFrame_stationsKept _ f s)
  | uplinkPortFrame u f => exact whenRunning_stationsKept (receiveFrame_stationsKept _ f s)
  | transmissionComplete p =>
    exact whenRunning_stationsKept (.ite fun _ =>
      (TableStands.of_queue (completeTransmission_keeps p s)).kept.andIf fun _ => softResetNow_stationsKept _)
  | agingSweepTimerExpiry => exact whenRunning_stationsKept (.ite fun _ => sweep_stationsKept s)
  | linkUp u =>
    exact (updPins_stands _ s).kept.andIf fun _ =>
      ((TableStands.of_keeps (updUplink_keeps u _ _)).trans (raise_stands _ _)).kept
  | linkDown u => exact (updPins_stands _ s).kept.andIf fun _ => linkGoesDown_stationsKept u _
  | powerOnResetBegin => exact (beginReset_stands true _ s).kept
  | powerOnResetComplete straps => exact supplyStable_stationsKept straps s
  | resetNAsserted => exact lineAsserted_stationsKept s
  | resetNReleased straps => exact lineReleased_stationsKept straps s
  | serviceFrameTaken => exact takeFrame_stationsKept s
  | _ => exact serveCommand_stationsKept _ _ s

theorem pending_stands {x : Option Bay} (l : List Instr) (s : State) : TableStands x s { s with pending := l } :=
  ⟨fun _ => rfl, rfl, fun _ _ => id⟩

theorem step_stationsKept {s t : State} (h : step s = .next t) : StationsKept s t := by
  unfold step at h
  split at h
  · exact (pending_stands _ s).kept.trans (exec_stationsKept h)
  · injection h with h
    subst h
    refine .ite fun _ => ?_
    split
    · exact (pending_stands _ s).kept
    · exact (tick_stands s).kept

/-- Settles O54: what writes the table keeps it sound and writes for a bay in ON, and what takes a bay out of ON purges
its entries first. -/
theorem stationTableStaysSound : Obligations.StationTableStaysSound :=
  ⟨fun _ _ law h => (step_stationsKept h).sound law, fun _ _ law h => (step_stationsKept h).dynamic law⟩

end Sys2Proof.Machine
end
